-- ==== Sys2Proof/Word.lean ====
section
/-! DEFINITION. The byte of the serial link and of the settings store, and the numbers by which the manual counts lines, channels, directory entries, routes, classes and tables. -/

namespace Sys2Proof

/-- A byte of a frame or of the settings store. -/
abbrev Byte := BitVec 8

/-- The byte that holds a number, modulo 256. -/
def u8 (n : Nat) : Byte := BitVec.ofNat 8 n

/-- Line `L` of the manual (1..4) is `L - 1` here. -/
abbrev LineNo := Fin 4

/-- Input channel 1..8, counted from 0. -/
abbrev ChannelNo := Fin 8

/-- Receiver Directory entry 1..12, counted from 0. -/
abbrev RxNo := Fin 12

/-- Route 1..8, counted from 0. -/
abbrev RouteNo := Fin 8

/-- The number the manual gives a line, a channel, a directory entry or a route: from 1. -/
def num {n : Nat} (i : Fin n) : Nat := i.val + 1

/-- The line, channel, entry or route that a number of the manual names; none for 0 and beyond the last. -/
def ofNum (n k : Nat) : Option (Fin n) :=
  if h : 1 ≤ k ∧ k - 1 < n then some ⟨k - 1, h.2⟩ else none

end Sys2Proof
end

