-- ==== Sys2Proof/Syntax.lean ====
section
/-! DEFINITION. The commands of the part: one constructor per row of spec/opcode_table.json. -/

namespace Sys2Proof

/-- The three bands of the tone segment detector (`01` section 1.7). -/
inductive Band where
  | dial
  | t1
  | t2
deriving DecidableEq, Repr

/-- The part's commands. `t` is the instant, in ms since reset, at which the command is taken (log 1). A request row carries the payload of the request it decodes (log 6). -/
inductive Instr where
  /-- RESET (R170): the reset pin, with the straps as they stand: the first and the second line-count strap closed, the HOLD strap asserted. -/
  | reset (firstClosed secondClosed holdAsserted : Bool)
  /-- LOADER_DONE (R174). -/
  | loaderDone (t : Nat)
  /-- LOOP_SAMPLE (R1): the voltage at the sensor, in units of 0.1 V, before the sensor clips it. -/
  | loopSample (t : Nat) (line : LineNo) (volts : Int)
  /-- RING_OFF_TIMER_EXPIRY (R6). -/
  | ringOffTimerExpiry (t : Nat) (line : LineNo)
  /-- TONE_QUALIFIED (R13): the detector settles which band (log 17). -/
  | toneQualified (t : Nat) (line : LineNo)
  /-- TONE_ENDED (R14). -/
  | toneEnded (t : Nat) (line : LineNo)
  /-- MAINS_FAIL_INPUT (R26): the level the input takes, true for mains failure. -/
  | mainsFailInput (t : Nat) (failed : Bool)
  /-- SUPPLY_CHANGE (R26). -/
  | supplyChange (t : Nat)
  /-- PROMOTION_COMPLETE (R24). -/
  | promotionComplete (t : Nat) (line : LineNo)
  /-- PROBE_TIMER_EXPIRY (R23). -/
  | probeTimerExpiry (t : Nat) (line : LineNo)
  /-- LEND_IDLE_EXPIRY (R36). -/
  | lendIdleExpiry (t : Nat) (line : LineNo)
  /-- INPUT_READING (R39): one channel's reading code, 0..1023. -/
  | inputReading (t : Nat) (channel : ChannelNo) (code : BitVec 10)
  /-- AGE_TICK (R72): of the record that holds the ticket. -/
  | ageTick (t : Nat) (ticket : Nat)
  /-- PERIODIC_TEST_EXPIRY (R75). -/
  | periodicTestExpiry (t : Nat)
  /-- BACKOFF_END (R90). -/
  | backoffEnd (t : Nat) (receiver : RxNo)
  /-- REST_END (R91). -/
  | restEnd (t : Nat) (receiver : RxNo)
  /-- FIRE_WAIT_EXPIRY (R110). -/
  | fireWaitExpiry (t : Nat)
  /-- CLEARDOWN_END (R115). -/
  | cleardownEnd (t : Nat) (line : LineNo)
  /-- DIAL_TONE_RECOGNISED (R116). -/
  | dialToneRecognised (t : Nat) (line : LineNo)
  /-- DIALTONE_TIMEOUT (R116). -/
  | dialtoneTimeout (t : Nat) (line : LineNo)
  /-- DIAL_SYMBOL_TONE_END (R117). -/
  | dialSymbolToneEnd (t : Nat) (line : LineNo)
  /-- DIAL_SYMBOL_END (R117). -/
  | dialSymbolEnd (t : Nat) (line : LineNo)
  /-- SECOND_TONE_RECOGNISED (R119). -/
  | secondToneRecognised (t : Nat) (line : LineNo)
  /-- SECOND_TONE_TIMEOUT (R119). -/
  | secondToneTimeout (t : Nat) (line : LineNo)
  /-- RING_WAIT_TIMEOUT (R121). -/
  | ringWaitTimeout (t : Nat) (line : LineNo)
  /-- HANDSHAKE_TIMEOUT (R122). -/
  | handshakeTimeout (t : Nat) (line : LineNo)
  /-- CALL_LIMIT_EXPIRY (R124). -/
  | callLimitExpiry (t : Nat) (line : LineNo)
  /-- RELEASE_GUARD_END (R128). -/
  | releaseGuardEnd (t : Nat) (line : LineNo)
  /-- DELAY_END (R136). -/
  | delayEnd (t : Nat) (line : LineNo)
  /-- BLOCK_SYMBOL_TONE_END (R132). -/
  | blockSymbolToneEnd (t : Nat) (line : LineNo)
  /-- BLOCK_SYMBOL_END (R140). -/
  | blockSymbolEnd (t : Nat) (line : LineNo)
  /-- REPLY_TIMEOUT (R142). -/
  | replyTimeout (t : Nat) (line : LineNo)
  /-- RETRY_END (R143). -/
  | retryEnd (t : Nat) (line : LineNo)
  /-- GAP_END (R145). -/
  | gapEnd (t : Nat) (line : LineNo)
  /-- FRAME_RECEIVED (R150): the last expected byte of a frame. -/
  | frameReceived (t : Nat) (last : Byte)
  /-- INTER_BYTE_TIMEOUT (R151). -/
  | interByteTimeout (t : Nat)
  /-- FRAME_SENT (R160): `decodeFirst` when a waiting request is decoded before the transmitter chooses (log 7). -/
  | frameSent (t : Nat) (decodeFirst : Bool)
  /-- UNKNOWN_KIND (R153): a request of a kind that is not in the catalogue. -/
  | unknownKind (t : Nat) (kind : Byte) (payload : List Byte)
  /-- ECHO (R155). -/
  | echo (t : Nat) (payload : List Byte)
  /-- IDENT (R155). -/
  | ident (t : Nat) (payload : List Byte)
  /-- STATUS (R156). -/
  | status (t : Nat) (payload : List Byte)
  /-- QUEUE_LIST (R157): start position. -/
  | queueList (t : Nat) (payload : List Byte)
  /-- RECEIVER_LIST (R158). -/
  | receiverList (t : Nat) (payload : List Byte)
  /-- LINE_LIST (R158). -/
  | lineList (t : Nat) (payload : List Byte)
  /-- CHANNEL_LIST (R158). -/
  | channelList (t : Nat) (payload : List Byte)
  /-- FAULT_READ (R162). -/
  | faultRead (t : Nat) (payload : List Byte)
  /-- FAULT_CLEAR (R163). -/
  | faultClear (t : Nat) (payload : List Byte)
  /-- RAISE (R77): class rank, qualifier, source number, event code, zone. -/
  | raise (t : Nat) (payload : List Byte)
  /-- WITHDRAW (R78): ticket. -/
  | withdraw (t : Nat) (payload : List Byte)
  /-- TEST_CALL (R76): zone. -/
  | testCall (t : Nat) (payload : List Byte)
  /-- LEND (R34): line. -/
  | lend (t : Nat) (payload : List Byte)
  /-- RECLAIM (R35): line. -/
  | reclaim (t : Nat) (payload : List Byte)
  /-- FORCE (R50): eight codes. -/
  | force (t : Nat) (payload : List Byte)
  /-- FORCE_CANCEL_ALL (R52). -/
  | forceCancelAll (t : Nat) (payload : List Byte)
  /-- ISOLATE (R47): channel. -/
  | isolate (t : Nat) (payload : List Byte)
  /-- DE_ISOLATE (R48): channel. -/
  | deIsolate (t : Nat) (payload : List Byte)
  /-- UNLATCH (R46): channel. -/
  | unlatch (t : Nat) (payload : List Byte)
  /-- ABORT_CALL (R126): line. -/
  | abortCall (t : Nat) (payload : List Byte)
  /-- GET (R166): table, first entry, count. -/
  | get (t : Nat) (payload : List Byte)
  /-- SET (R167): table, first entry, count, entry images. -/
  | set (t : Nat) (payload : List Byte)
  /-- SAVE (R169). -/
  | save (t : Nat) (payload : List Byte)
  /-- SAVE_PAGE_WRITTEN (R169): byte by byte, the bits in which the page reads back otherwise than it was written; a byte not given is 0 (log 13). -/
  | savePageWritten (t : Nat) (differ : List Byte)
  /-- MODE (R171): mode code. -/
  | mode (t : Nat) (payload : List Byte)
  /-- RELEASE (R173). -/
  | release (t : Nat) (payload : List Byte)
  /-- HOLD_LIMIT_EXPIRY (R173). -/
  | holdLimitExpiry (t : Nat)
  /-- INCOMING_BYTE (R149). -/
  | incomingByte (t : Nat) (b : Byte)
  /-- TONE_APPEARS (R13). -/
  | toneAppears (t : Nat) (line : LineNo) (band : Band)
  /-- TONE_STOPS (R14). -/
  | toneStops (t : Nat) (line : LineNo) (band : Band)
  /-- COUNTING_SEGMENT_OVERRUN (R142). -/
  | countingSegmentOverrun (t : Nat) (line : LineNo)
deriving DecidableEq, Repr

end Sys2Proof
end

