-- ==== Sys2Proof/Config.lean ====
section
/-! DEFINITION. The free values: what the manual leaves without a value and the part goes on. Each is an opaque constant, so that nothing proved can rest on what it is. -/

namespace Sys2Proof.Config

/-- Log 11: what a SAVE writes at a store address that lies on a page it writes and holds no data of a section or of the directory (R168 gives the data only). The first argument is `State.free`, the second the address. -/
opaque pagePad : Nat → Nat → Byte

/-- Log 12: what stands at a store address of the page that a reset stopped while it was being written (R169). The first argument is `State.free`, the second the address. -/
opaque tornByte : Nat → Nat → Byte

/-- Log 20: a byte of a four-byte field whose number does not fit in four bytes (R156 gives the part clock four). The first argument is the number, the second the place of the byte, 0 the most significant. -/
opaque overlongByte : Nat → Nat → Byte

/-- Log 31: a byte that LINE-LIST gives for a call item that is absent, seized at before the line is taken, or seized at and blocks accepted of no call (R158 and section 9.7 give no code). The first argument is `State.now`, the second the place of the byte in the response fields. -/
opaque absentByte : Nat → Nat → Byte

end Sys2Proof.Config
end

