-- ==== Sys2Proof/Machine/State.lean ====
section
/-! DEFINITION. The state of the part: everything the manual gives each of its blocks, as plain data, and the state right after reset. -/

namespace Sys2Proof.Machine

/-! ### Line Sense Unit -/

/-- A loop class (`01` R3, R4); `unknown` is the confirmed class before the first confirmation. -/
inductive LoopClass where
  | unknown | onHook | offHook | ring | dead
deriving DecidableEq, Repr

/-- The sign of the loop voltage (`01` R8). -/
inductive Polarity where
  | positive | negative
deriving DecidableEq, Repr

/-- The state of one Line Sense Unit's voltage side (`01`, table at the head). -/
structure Sense where
  /-- Sample window, oldest first, 0..7 samples. -/
  window : List Int
  confirmed : LoopClass
  candidate : Option LoopClass
  run : Nat
  settling : Bool
  /-- Ring-off timer: its expiry, in ms. -/
  ringOff : Option Nat
  polarity : Option Polarity
  polarityRun : Option (Polarity × Nat)
deriving DecidableEq, Repr

/-- One value for each band of the detector. -/
structure PerBand (α : Type) where
  dial : α
  t1 : α
  t2 : α
deriving DecidableEq, Repr

/-- An open segment (`01` R13, R14): its band, its onset instant, and the instant its tone stopped while that tone is absent. -/
structure Segment where
  band : Band
  onset : Nat
  stopped : Option Nat
deriving DecidableEq, Repr

/-- The tone segment detector (`01` R12 to R16). -/
structure Detector where
  listening : Bool
  muted : Bool
  /-- Per band, the instant the tone now present appeared to the detector. -/
  since : PerBand (Option Nat)
  segment : Option Segment
deriving DecidableEq, Repr

/-! ### Line Controller and line interface -/

/-- Power mode of a line interface (`02` R24). -/
inductive Power where
  | off | sense | ready
deriving DecidableEq, Repr

/-- Promotion of a line (`02` R24, R28); `settling` carries its end, in ms. -/
inductive Promotion where
  | none | waiting | settling (ends : Nat)
deriving DecidableEq, Repr

/-- Class occupancy (`02` R18). -/
inductive ClassOcc where
  | unknown | free | tenant | ringing | down
deriving DecidableEq, Repr

/-- Occupancy (`02` R18). -/
inductive Occupancy where
  | offline | unknown | free | tenant | ringing | down | lent | call
deriving DecidableEq, Repr

/-- Fault status of a line (`02` R22). -/
inductive LineFault where
  | none | noTone
deriving DecidableEq, Repr

/-- Lend state (`02` R34). -/
inductive Lend where
  | none | pending | lent
deriving DecidableEq, Repr

/-- Grant kind (`02` R30). -/
inductive Grant where
  | trickle | seizing
deriving DecidableEq, Repr

/-- The state of one Line Controller (`02`, table at the head). -/
structure LineCtl where
  power : Power
  promotion : Promotion
  classOcc : ClassOcc
  occupancy : Occupancy
  fault : LineFault
  noTone : Nat
  probeTimer : Option Nat
  lend : Lend
  lendIdle : Option Nat
  grant : Option Grant
  disablePending : Bool
deriving DecidableEq, Repr

/-- What the Call Controller drives on the line interface (`07` R113): hook, series relay, and the symbol whose tone is being sent. -/
structure Iface where
  offHook : Bool
  relayOpen : Bool
  sender : Option Nat
deriving DecidableEq, Repr

/-! ### Call Controller -/

/-- Purpose of a call (`07` R113). -/
inductive Purpose where
  | report | probe
deriving DecidableEq, Repr

/-- Phase of EXCHANGE (`08` section 8.2). `transmit` carries how many symbols of the block are finished, `reply` the instant the reply window opened. -/
inductive Phase where
  | delay | transmit (sent : Nat) | reply (opened : Nat) | retry | gap
deriving DecidableEq, Repr

/-- State of a call (`07` R113). -/
inductive CallState where
  | prepare | cleardown | dialtone | dialling | secondTone | ringWait | handshake
  | exchange (phase : Phase) | release
deriving DecidableEq, Repr

/-- Result of a call (`07` R129). -/
inductive CallResult where
  | complete | cutShort | aborted | noDialTone | noSecondTone | lineDown | busy | noAnswer
  | noHandshake | blockFailed | probeOk | probeFailed
deriving DecidableEq, Repr

/-- The tone record of a call (`07` R113): the open segment's band and onset instant, the last END report's band, duration and end instant, and what R120 keeps of busy tone (the run, the candidate's end instant, and the instant RING-WAIT was entered). -/
structure ToneRecord where
  openSegment : Option (Band × Nat)
  lastEnd : Option (Band × Nat × Nat)
  busyRun : Nat
  busyCandidate : Option Nat
  ringFrom : Nat
deriving DecidableEq, Repr

/-- A call context (`06` R104, `07` R113). Timers hold their expiry in ms; `seizedAt` is a part clock. -/
structure Call where
  purpose : Purpose
  receiver : Option RxNo
  state : CallState
  seizedAt : Option Nat
  dialString : List Nat
  dialPos : Nat
  blocksAccepted : Nat
  sendCount : Option Nat
  lendPending : Bool
  cutShort : Bool
  result : Option CallResult
  stateTimer : Option Nat
  limitTimer : Option Nat
  tone : ToneRecord
deriving DecidableEq, Repr

/-- A block slot (`08` section 8.2, R137): its tickets in queue order and the symbols of the block composed from them. -/
structure Slot where
  tickets : List Nat
  block : List Nat
deriving DecidableEq, Repr

/-- All that stands beside one line: its Line Sense Unit, Line Controller, line interface, Call Controller, and the tone present on it. -/
structure Line where
  sense : Sense
  detector : Detector
  toneOn : PerBand Bool
  ctl : LineCtl
  iface : Iface
  call : Option Call
  sending : Slot
  next : Slot
deriving DecidableEq, Repr

/-! ### Supply Monitor and Input Monitor -/

/-- Supply state (`02` R26). -/
inductive Supply where
  | normal | reserve
deriving DecidableEq, Repr

/-- Class or state of an input loop (`03` R39, R40). -/
inductive InputClass where
  | normal | active | openLoop | shortLoop
deriving DecidableEq, Repr

/-- Reported wiring (`03` R42). -/
inductive Wiring where
  | none | openLoop | shortLoop
deriving DecidableEq, Repr

/-- Force of a channel (`03` R49). -/
inductive Force where
  | none | normal | active
deriving DecidableEq, Repr

/-- The state of one input channel (`03`, table at the head). -/
structure InputChannel where
  measured : InputClass
  candidate : Option InputClass
  debounce : Option Nat
  confirmed : InputClass
  alarm : Bool
  wiring : Wiring
  latched : Bool
  isolated : Bool
  force : Force
deriving DecidableEq, Repr

/-! ### Report Queue -/

/-- Class of a report (`04` R57). -/
inductive ReportClass where
  | fire | supervisory | trouble | plant | routine
deriving DecidableEq, Repr

/-- Qualifier of a report (`04` R57). -/
inductive Qualifier where
  | new | restore | status | testNew | testRestore
deriving DecidableEq, Repr

/-- Source kind (`04` R56). -/
inductive SourceKind where
  | input | host | part
deriving DecidableEq, Repr

/-- State of a record (`04` R66). -/
inductive RecordState where
  | waiting | staged | inFlight | stranded
deriving DecidableEq, Repr

/-- A report as it reaches the queue (`04` section 4.3). -/
structure Report where
  cls : ReportClass
  qualifier : Qualifier
  source : SourceKind
  sourceNumber : Nat
  event : Nat
  zone : Nat
deriving DecidableEq, Repr

/-- A record (`04` R56). Its entry sequence is its place in the queue's list (log 24); `reserved` marks the LOSS record, which holds the reserved slot (R62, R63). -/
structure Record where
  ticket : Nat
  report : Report
  route : RouteNo
  pendingList : List RxNo
  acceptedList : List RxNo
  state : RecordState
  age : Nat
  repeats : Nat
  enteredAt : Nat
  reserved : Bool
deriving DecidableEq, Repr

/-- The Report Queue (`04`, table at the head): records in order of admission, the LOSS record among them. -/
structure Queue where
  records : List Record
  ticketCounter : Nat
  lostTally : Nat
  heldLosses : Nat
  deferred : Nat
  pressure : Bool
  testTimer : Option Nat
  gateOpened : Bool
deriving DecidableEq, Repr

/-! ### Route Unit -/

/-- State of a receiver (`05` R85). -/
inductive RxState where
  | ready | calling | backoff | exhausted
deriving DecidableEq, Repr

/-- A record of the Receiver Status Table (`05` R85); the due time is a part clock. -/
structure RxStatus where
  state : RxState
  failures : Nat
  due : Option Nat
deriving DecidableEq, Repr

/-- Validity and chain of a route (`05` R81). -/
structure RouteEval where
  valid : Bool
  chain : List RxNo
deriving DecidableEq, Repr

/-! ### Dispatcher -/

/-- The Dispatcher (`06`, table at the head); held-back times and the FIRE-wait expiry are part clocks. -/
structure Dispatcher where
  gateOpen : Bool
  urgent : Bool
  held : List (Nat × Nat)
  fireTimer : Option Nat
deriving DecidableEq, Repr

/-! ### Settings Store and Loader -/

/-- Mode (`10` R171). -/
inductive Mode where
  | operate | service
deriving DecidableEq, Repr

/-- Start hold (`10` R173). -/
inductive Hold where
  | held | released
deriving DecidableEq, Repr

/-- Route mode (`05` R80). -/
inductive RouteMode where
  | any | each
deriving DecidableEq, Repr

/-- Table T1 (`10` R165); seconds, but for minutes of `urgencyAge` and hours of `testInterval`. -/
structure T1 where
  callLimit : Nat
  retryBase : Nat
  retryCap : Nat
  rest : Nat
  urgencyAge : Nat
  highMark : Nat
  lowMark : Nat
  testInterval : Nat
  holdLimit : Nat
  lendGrace : Nat
  lendIdle : Nat
  holdFlag : Bool
deriving DecidableEq, Repr

/-- An entry of T2, one line (`10` R165); dial symbols by their codes 0..13. -/
structure T2 where
  enabled : Bool
  seizeTenant : Bool
  dialPrefix : List Nat
deriving DecidableEq, Repr

/-- An entry of T3, one receiver (`05` R79, `10` R165). -/
structure T3 where
  dialNumber : List Nat
  account : List Nat
  attemptLimit : Nat
  next : Nat
deriving DecidableEq, Repr

/-- An entry of T4, one route (`05` R80). -/
structure T4 where
  head : Nat
  mode : RouteMode
deriving DecidableEq, Repr

/-- An entry of T6, one channel (`10` R165). -/
structure T6 where
  sourceNumber : Nat
  event : Nat
  cls : ReportClass
  zone : Nat
  latching : Bool
  restoreReporting : Bool
  debounce : Nat
  openCode : Nat
  shortCode : Nat
deriving DecidableEq, Repr

/-- The six working tables (`10` R165); T5 names a route for each class in rank order. -/
structure Tables where
  t1 : T1
  t2 : Vector T2 4
  t3 : Vector T3 12
  t4 : Vector T4 8
  t5 : Vector RouteNo 5
  t6 : Vector T6 8
deriving DecidableEq, Repr

/-- A SAVE that is writing (`10` R169): the page reached, in writing order, the mode at its start, and the end of the page's 10 ms. -/
structure Save where
  page : Nat
  startMode : Mode
  pageEnds : Nat
deriving DecidableEq, Repr

/-! ### Host Link -/

/-- The receiver of the Host Link (`09` R149). In BODY: the LENGTH byte, the bytes received after it, and the number still expected. -/
inductive Receiver where
  | silent | hunt | length | body (len : Byte) (got : List Byte) (expect : Nat)
deriving DecidableEq, Repr

/-- A checked frame in the request buffer (`09` R152). -/
structure Request where
  kind : Byte
  payload : List Byte
deriving DecidableEq, Repr

/-- The transmitter (`09` R160): IDLE, or sending the bytes of a response or of a notice. -/
inductive Transmitter where
  | idle | response (frame : List Byte) | notice (frame : List Byte)
deriving DecidableEq, Repr

/-- Kinds of fault list entries (`09` section 9.5). -/
inductive FaultKind where
  | storeCorrupt | storeSection | routeInvalid | lineDown | lineNoTone | channelWiring
  | supplyReserve | commFailure | queueLoss
deriving DecidableEq, Repr

/-- An entry of the fault list (`09` R161): ACTIVE, or LATCHED. -/
structure FaultEntry where
  kind : FaultKind
  inst : Nat
  active : Bool
deriving DecidableEq, Repr

/-- Cause carried by a MODE notice (`09` section 9.7). -/
inductive ModeCause where
  | request | fire | release | holdLimit
deriving DecidableEq, Repr

/-- Notices (`09` section 9.4), each with what it carries. -/
inductive Notice where
  | started (fitted : Nat) (mode : Mode) (hold : Hold) (supply : Supply) (faults : Nat)
  | delivered (ticket : Nat) (receiver : RxNo) (remaining : Nat)
  | stranded (ticket : Nat)
  | recovered (ticket : Nat)
  | lost (ticket : Nat) (cls : ReportClass) (event zone tally : Nat)
  | line (line : LineNo) (occupancy : Occupancy) (fault : LineFault)
  | callEnd (line : LineNo) (receiver : Option RxNo) (result : CallResult) (blocks : Nat)
  | urgentPending (ticket : Nat) (cls : ReportClass) (lent : List LineNo)
  | input (channel : ChannelNo) (confirmed : InputClass)
  | mode (mode : Mode) (hold : Hold) (cause : ModeCause)
  | fault (kind : FaultKind) (inst : Nat) (active : Bool)
deriving DecidableEq, Repr

/-- The Host Link (`09`, table at the head). `inHand` holds the frame of the formed response. -/
structure Link where
  receiver : Receiver
  byteTimer : Option Nat
  requests : List Request
  requestsLost : Bool
  inHand : Option (List Byte)
  notices : List Notice
  noticesLost : Bool
  transmitter : Transmitter
  faults : List FaultEntry
deriving DecidableEq, Repr

/-! ### The whole part -/

/-- The model's own field, not the manual's: what the blocks have told one another inside the present step. `told`: the Dispatcher has a report to act on (R99, log 4). `handOns`: tickets of records that entered WAITING, for the Call Controllers (R65, R138). `busy`: a Call Controller is at work on an event and takes them after it (log 5). `exitDue`: a FIRE record entered in SERVICE (R171). `fireDue`: the FIRE-wait timer's expiry is to be taken at once (R110). `expired`: an expiry has been taken in this step. -/
structure Work where
  told : Bool
  handOns : List Nat
  busy : Bool
  exitDue : Bool
  fireDue : Bool
  expired : Bool
deriving DecidableEq, Repr

/-- Nothing told. -/
def Work.idle : Work :=
  { told := false, handOns := [], busy := false, exitDue := false, fireDue := false, expired := false }

/-- The state of the part. -/
structure State where
  /-- ms since reset. -/
  now : Nat
  mainsFail : Bool
  fitted : Nat
  holdStrap : Bool
  loading : Bool
  mode : Mode
  hold : Hold
  holdTimer : Option Nat
  tables : Tables
  /-- The store's listed bytes (log 9). -/
  store : List Host.Cell
  save : Option Save
  lines : Vector Line 4
  rotation : Nat
  waitList : List LineNo
  supply : Supply
  supplyTimer : Option Nat
  channels : Vector InputChannel 8
  queue : Queue
  routes : Vector RouteEval 8
  receivers : Vector RxStatus 12
  dispatcher : Dispatcher
  link : Link
  /-- Commands waiting, first in first out. -/
  pending : List Instr
  /-- Names the next free value (log 11, log 12). -/
  free : Nat
  work : Work
deriving DecidableEq, Repr

/-- Why the part could stop. The manual gives it no such stop: a fault of the part is an entry of the fault list, a status or a report, never an end of its run. So there is no constructor, and no meaning can answer a fault (log 28). -/
inductive Fault where
deriving DecidableEq, Repr

/-- Why a command is turned away. -/
inductive Refusal where
  /-- Raised by `exec` alone, for a row of the table that has no meaning yet; none is left. Safe: the run stops where the part goes on. -/
  | notModelled (mnemonic : String)
deriving DecidableEq, Repr

/-! ### Reset values -/

/-- `01` R11. -/
def Sense.reset : Sense :=
  { window := [], confirmed := .unknown, candidate := none, run := 0, settling := false,
    ringOff := none, polarity := none, polarityRun := none }

/-- `01` R11: stopped. -/
def Detector.stopped : Detector :=
  { listening := false, muted := false, since := ⟨none, none, none⟩, segment := none }

/-- `02` R17; `fitted` says whether the line is within the fitted count. -/
def LineCtl.reset (fitted : Bool) : LineCtl :=
  { power := .off, promotion := .none, classOcc := .unknown,
    occupancy := if fitted then .unknown else .offline, fault := .none, noTone := 0,
    probeTimer := none, lend := .none, lendIdle := none, grant := none, disablePending := false }

/-- `07` R131: on-hook, relay closed, sender silent. -/
def Iface.reset : Iface := { offHook := false, relayOpen := false, sender := none }

/-- An empty block slot. -/
def Slot.empty : Slot := { tickets := [], block := [] }

/-- A line after reset (R11, R17, R131); the tone on the line is its own. -/
def Line.reset (fitted : Bool) (toneOn : PerBand Bool) : Line :=
  { sense := Sense.reset, detector := Detector.stopped, toneOn, ctl := LineCtl.reset fitted,
    iface := Iface.reset, call := none, sending := Slot.empty, next := Slot.empty }

/-- `03` R53. -/
def InputChannel.reset : InputChannel :=
  { measured := .normal, candidate := none, debounce := none, confirmed := .normal, alarm := false,
    wiring := .none, latched := false, isolated := false, force := .none }

/-- `04` R55. -/
def Queue.reset : Queue :=
  { records := [], ticketCounter := 1, lostTally := 0, heldLosses := 0, deferred := 0,
    pressure := false, testTimer := none, gateOpened := false }

/-- `05` R85. -/
def RxStatus.reset : RxStatus := { state := .ready, failures := 0, due := none }

/-- Before its first evaluation (log 14). -/
def RouteEval.reset : RouteEval := { valid := false, chain := [] }

/-- `06` R112. -/
def Dispatcher.reset : Dispatcher := { gateOpen := false, urgent := false, held := [], fireTimer := none }

/-- `09` R164. -/
def Link.reset : Link :=
  { receiver := .silent, byteTimer := none, requests := [], requestsLost := false, inHand := none,
    notices := [], noticesLost := false, transmitter := .idle, faults := [] }

/-- Default of T1 (`10` R165). -/
def T1.default : T1 :=
  { callLimit := 180, retryBase := 10, retryCap := 300, rest := 600, urgencyAge := 16, highMark := 16,
    lowMark := 12, testInterval := 24, holdLimit := 120, lendGrace := 30, lendIdle := 120,
    holdFlag := false }

/-- Default of T2. -/
def T2.default : T2 := { enabled := true, seizeTenant := false, dialPrefix := [] }

/-- Default of T3: account 0000, attempt limit 4. -/
def T3.default : T3 := { dialNumber := [], account := [0, 0, 0, 0], attemptLimit := 4, next := 0 }

/-- Default of T4. -/
def T4.default : T4 := { head := 0, mode := .any }

/-- Default of T6 for channel `n` (1..8). -/
def T6.default (n : Nat) : T6 :=
  { sourceNumber := n, event := 100 + n, cls := .trouble, zone := n, latching := false,
    restoreReporting := true, debounce := 500, openCode := 920, shortCode := 921 }

/-- The built-in defaults (`10` R165). -/
def Tables.default : Tables :=
  { t1 := T1.default
    t2 := Vector.replicate 4 T2.default
    t3 := Vector.replicate 12 T3.default
    t4 := Vector.replicate 8 T4.default
    t5 := #v[0, 0, 1, 2, 1]
    t6 := #v[T6.default 1, T6.default 2, T6.default 3, T6.default 4, T6.default 5, T6.default 6,
             T6.default 7, T6.default 8] }

/-- The part right after a reset: what the reset reads (the fitted count, the HOLD strap, the level of the mains-fail input), what it keeps (the tone on each line, the store, the waiting commands, the free counter), and every other field at the value the manual states. -/
def State.afterReset (fitted : Nat) (holdStrap mainsFail : Bool) (toneOn : LineNo → PerBand Bool)
    (store : List Host.Cell) (pending : List Instr) (free : Nat) : State :=
  { now := 0, mainsFail, fitted, holdStrap, loading := true, mode := .operate, hold := .held,
    holdTimer := none, tables := Tables.default, store, save := none,
    lines := #v[Line.reset (0 < fitted) (toneOn 0), Line.reset (1 < fitted) (toneOn 1),
                Line.reset (2 < fitted) (toneOn 2), Line.reset (3 < fitted) (toneOn 3)],
    rotation := fitted, waitList := [], supply := if mainsFail then .reserve else .normal,
    supplyTimer := none, channels := Vector.replicate 8 InputChannel.reset, queue := Queue.reset,
    routes := Vector.replicate 8 RouteEval.reset, receivers := Vector.replicate 12 RxStatus.reset,
    dispatcher := Dispatcher.reset, link := Link.reset, pending, free, work := Work.idle }

/-- No tone on a line. -/
def PerBand.silence : PerBand Bool := ⟨false, false, false⟩

/-- The machine right after reset, with the straps and the inputs that log 10 chooses (four lines fitted, HOLD strap not asserted, mains present, no tone), an erased store (log 9) and no command waiting. -/
def State.reset : State :=
  State.afterReset 4 false false (fun _ => PerBand.silence) [] [] 0

end Sys2Proof.Machine
end

