-- ==== Sys2Proof/Machine/Ops.lean ====
section
/-! DEFINITION. Named access to the parts of the state: the clock, lines, channels, receivers, tables, the store, and the notes one block leaves for another inside a step. -/

namespace Sys2Proof.Machine

/-! ### Clock -/

/-- The clock moves to the instant of a command, and never back (log 1). -/
def State.advance (s : State) (t : Nat) : State := { s with now := max s.now t }

/-- The part clock: whole seconds since reset (`00_scope.md`, Numbers and units). -/
def State.clock (s : State) : Nat := s.now / 1000

/-- A timer whose expiry has come: it runs and the time has reached its expiry (log 3). -/
def expired (timer : Option Nat) (now : Nat) : Bool :=
  match timer with
  | some e => e ≤ now
  | none => false

/-! ### The numbered things -/

/-- Lines 1..4 in number order. -/
def allLines : List LineNo := [0, 1, 2, 3]

/-- Channels 1..8 in number order. -/
def allChannels : List ChannelNo := [0, 1, 2, 3, 4, 5, 6, 7]

/-- Routes 1..8 in number order. -/
def allRoutes : List RouteNo := [0, 1, 2, 3, 4, 5, 6, 7]

/-- Directory entries 1..12 in number order. -/
def allReceivers : List RxNo := [0, 1, 2, 3, 4, 5, 6, 7, 8, 9, 10, 11]

def State.line (s : State) (l : LineNo) : Line := s.lines[l.val]

def State.setLine (s : State) (l : LineNo) (x : Line) : State :=
  { s with lines := s.lines.set l.val x }

def State.ctl (s : State) (l : LineNo) : LineCtl := (s.line l).ctl

def State.setCtl (s : State) (l : LineNo) (x : LineCtl) : State :=
  s.setLine l { s.line l with ctl := x }

def State.sense (s : State) (l : LineNo) : Sense := (s.line l).sense

def State.setSense (s : State) (l : LineNo) (x : Sense) : State :=
  s.setLine l { s.line l with sense := x }

def State.detector (s : State) (l : LineNo) : Detector := (s.line l).detector

def State.setDetector (s : State) (l : LineNo) (x : Detector) : State :=
  s.setLine l { s.line l with detector := x }

def State.setIface (s : State) (l : LineNo) (x : Iface) : State :=
  s.setLine l { s.line l with iface := x }

def State.call (s : State) (l : LineNo) : Option Call := (s.line l).call

def State.setCall (s : State) (l : LineNo) (x : Option Call) : State :=
  s.setLine l { s.line l with call := x }

def State.setSlots (s : State) (l : LineNo) (sending next : Slot) : State :=
  s.setLine l { s.line l with sending, next }

def State.channel (s : State) (c : ChannelNo) : InputChannel := s.channels[c.val]

def State.setChannel (s : State) (c : ChannelNo) (x : InputChannel) : State :=
  { s with channels := s.channels.set c.val x }

def State.rx (s : State) (e : RxNo) : RxStatus := s.receivers[e.val]

def State.setRx (s : State) (e : RxNo) (x : RxStatus) : State :=
  { s with receivers := s.receivers.set e.val x }

def State.route (s : State) (r : RouteNo) : RouteEval := s.routes[r.val]

def State.setWaitList (s : State) (ls : List LineNo) : State := { s with waitList := ls }

def State.setRotation (s : State) (n : Nat) : State := { s with rotation := n }

def State.setWork (s : State) (w : Work) : State := { s with work := w }

def State.setLink (s : State) (k : Link) : State := { s with link := k }

def State.setMode (s : State) (m : Mode) : State := { s with mode := m }

def State.setHold (s : State) (h : Hold) : State := { s with hold := h }

def State.setHoldTimer (s : State) (x : Option Nat) : State := { s with holdTimer := x }

def State.setTables (s : State) (x : Tables) : State := { s with tables := x }

def State.setSave (s : State) (x : Option Save) : State := { s with save := x }

def State.setRoutes (s : State) (x : Vector RouteEval 8) : State := { s with routes := x }

/-- The supply state; its wait is over. -/
def State.setSupply (s : State) (x : Supply) : State := { s with supply := x, supplyTimer := none }

def State.setLoading (s : State) (b : Bool) : State := { s with loading := b }

/-- A line within the count set by the straps. -/
def State.isFitted (s : State) (l : LineNo) : Bool := l.val < s.fitted

/-! ### Working tables -/

def State.t1 (s : State) : T1 := s.tables.t1

def State.t2 (s : State) (l : LineNo) : T2 := s.tables.t2[l.val]

def State.t3 (s : State) (e : RxNo) : T3 := s.tables.t3[e.val]

def State.t4 (s : State) (r : RouteNo) : T4 := s.tables.t4[r.val]

def State.t6 (s : State) (c : ChannelNo) : T6 := s.tables.t6[c.val]

/-- Rank order of the classes (`04` R57), from 0. -/
def ReportClass.index : ReportClass → Fin 5
  | .fire => 0
  | .supervisory => 1
  | .trouble => 2
  | .plant => 3
  | .routine => 4

/-- Rank of a class, 1 the best (`04` R57). -/
def ReportClass.rank (c : ReportClass) : Nat := c.index.val + 1

/-- The class of a rank; none outside 1..5. -/
def ReportClass.ofRank : Nat → Option ReportClass
  | 1 => some .fire
  | 2 => some .supervisory
  | 3 => some .trouble
  | 4 => some .plant
  | 5 => some .routine
  | _ => none

/-- The classes in rank order. -/
def allClasses : List ReportClass := [.fire, .supervisory, .trouble, .plant, .routine]

/-- The group of a class: deferred, or immediate (`04` R57). -/
def ReportClass.deferred : ReportClass → Bool
  | .fire | .supervisory => false
  | .trouble | .plant | .routine => true

/-- The route the Class Map names for a class (`05` R80). -/
def State.classRoute (s : State) (c : ReportClass) : RouteNo := s.tables.t5[c.index.val]

/-- The fitted lines whose T2 entry is enabled. -/
def State.usable (s : State) (l : LineNo) : Bool := s.isFitted l && (s.t2 l).enabled

/-! ### The store (`10` R168) -/

/-- What a byte of the store that is not listed reads as: the erased byte (log 9). -/
def blankByte : Byte := 0xFF

/-- The size of the store in bytes. -/
def storeSize : Nat := 2048

/-- The byte at an address. -/
def storeRead : List Host.Cell → Nat → Byte
  | [], _ => blankByte
  | (k, b) :: rest, a => if k = a then b else storeRead rest a

/-- The cells with the byte `v` at address `a`, in canonical form: addresses rise, no blank byte is listed. -/
def storeInsert (a : Nat) (v : Byte) : List Host.Cell → List Host.Cell
  | [] => if v = blankByte then [] else [(a, v)]
  | (k, b) :: rest =>
    if a < k then (if v = blankByte then (k, b) :: rest else (a, v) :: (k, b) :: rest)
    else if a = k then (if v = blankByte then rest else (a, v) :: rest)
    else (k, b) :: storeInsert a v rest

/-- The write of one byte; the store has no address from 2048 on, and no command writes there. -/
def storeWrite (a : Nat) (v : Byte) (m : List Host.Cell) : List Host.Cell :=
  if a < storeSize then storeInsert a v m else m

/-- Every address of the list is above `lo` and below the store's size, they rise, and no blank byte is listed. -/
def storeWfFrom (lo : Option Nat) : List Host.Cell → Bool
  | [] => true
  | (k, b) :: rest =>
    (match lo with
      | none => true
      | some p => decide (p < k)) && decide (k < storeSize) && decide (b ≠ blankByte) && storeWfFrom (some k) rest

/-- The canonical form of the store. -/
def Memory.wf (m : List Host.Cell) : Bool := storeWfFrom none m

/-- The bytes at `n` addresses from `a`. -/
def storeBytes (m : List Host.Cell) (a n : Nat) : List Byte :=
  (List.range n).map fun i => storeRead m (a + i)

/-- Bytes written one after another from `a`. -/
def storeWriteBytes (m : List Host.Cell) (a : Nat) : List Byte → List Host.Cell
  | [] => m
  | v :: rest => storeWriteBytes (storeWrite a v m) (a + 1) rest

/-! ### Notes from one block to another inside a step (log 4, log 5) -/

/-- The Dispatcher has a report to act on (R99). -/
def State.tell (s : State) : State := s.setWork { s.work with told := true }

/-- A record has entered WAITING: the Dispatcher is told, and the ticket is handed on to the Call Controllers (R65 step 3). -/
def State.noteWaiting (s : State) (ticket : Nat) : State :=
  s.setWork { s.work with told := true, handOns := s.work.handOns ++ [ticket] }

/-- A FIRE record has entered in SERVICE (R65 step 2, R171). -/
def State.noteExit (s : State) : State := s.setWork { s.work with exitDue := true }

def State.setBusy (s : State) (b : Bool) : State := s.setWork { s.work with busy := b }

end Sys2Proof.Machine
end

