-- ==== Sys2Proof/Machine/Operands.lean ====
section
/-! DEFINITION. The numbers and codes of the frames (`09` section 9.7): multi-byte fields, the value codes, and the entry images of the settings tables with their ranges (`10` R165). -/

namespace Sys2Proof.Machine

/-! ### Fields -/

/-- Two bytes, most significant first. -/
def be16 (n : Nat) : List Byte := [u8 (n / 256), u8 n]

/-- Four bytes, most significant first; a number that four bytes do not hold is a free value (log 20). -/
def be32 (n : Nat) : List Byte :=
  if n < 4294967296 then [u8 (n / 16777216), u8 (n / 65536), u8 (n / 256), u8 n]
  else [Config.overlongByte n 0, Config.overlongByte n 1, Config.overlongByte n 2, Config.overlongByte n 3]

/-- The number of a two-byte field. -/
def rd16 (hi lo : Byte) : Nat := hi.toNat * 256 + lo.toNat

/-- The first `n` of a list, filled up with a value. -/
def padTo (n : Nat) (fill : Byte) (bs : List Byte) : List Byte :=
  bs.take n ++ List.replicate (n - bs.length) fill

/-- The sum of bytes modulo 256. -/
def byteSum (bs : List Byte) : Byte := bs.foldl (· + ·) 0

/-- The check byte of some bytes: the two's complement of their 8-bit sum (R150, R168). -/
def checkByte (bs : List Byte) : Byte := -(byteSum bs)

/-! ### Value codes -/

def flagCode (b : Bool) : Byte := if b then 1 else 0

/-- A flag of a request or of the store: 1, 0, or outside its codes. -/
def flagOf (b : Byte) : Option Bool :=
  if b = 0 then some false else if b = 1 then some true else none

def Qualifier.code : Qualifier → Nat
  | .new => 1
  | .restore => 3
  | .status => 6
  | .testNew => 7
  | .testRestore => 8

def Qualifier.ofCode : Nat → Option Qualifier
  | 1 => some .new
  | 3 => some .restore
  | 6 => some .status
  | 7 => some .testNew
  | 8 => some .testRestore
  | _ => none

def SourceKind.code : SourceKind → Nat
  | .input => 1
  | .host => 2
  | .part => 3

def RecordState.code : RecordState → Nat
  | .waiting => 1
  | .staged => 2
  | .inFlight => 3
  | .stranded => 4

def RouteMode.code : RouteMode → Nat
  | .any => 1
  | .each => 2

def RouteMode.ofCode : Nat → Option RouteMode
  | 1 => some .any
  | 2 => some .each
  | _ => none

def RxState.code : RxState → Nat
  | .ready => 1
  | .calling => 2
  | .backoff => 3
  | .exhausted => 4

def Occupancy.code : Occupancy → Nat
  | .offline => 0
  | .unknown => 1
  | .free => 2
  | .tenant => 3
  | .ringing => 4
  | .down => 5
  | .lent => 6
  | .call => 7

def LineFault.code : LineFault → Nat
  | .none => 0
  | .noTone => 1

def Power.code : Power → Nat
  | .off => 0
  | .sense => 1
  | .ready => 2

def Lend.code : Lend → Nat
  | .none => 0
  | .pending => 1
  | .lent => 2

def LoopClass.code : LoopClass → Nat
  | .unknown => 0
  | .onHook => 1
  | .offHook => 2
  | .ring => 3
  | .dead => 4

def polarityCode : Option Polarity → Nat
  | none => 0
  | some .positive => 1
  | some .negative => 2

def CallState.code : CallState → Nat
  | .prepare => 1
  | .cleardown => 2
  | .dialtone => 3
  | .dialling => 4
  | .secondTone => 5
  | .ringWait => 6
  | .handshake => 7
  | .exchange _ => 8
  | .release => 9

def Purpose.code : Purpose → Nat
  | .report => 1
  | .probe => 2

def CallResult.code : CallResult → Nat
  | .complete => 1
  | .cutShort => 2
  | .aborted => 3
  | .noDialTone => 4
  | .noSecondTone => 5
  | .lineDown => 6
  | .busy => 7
  | .noAnswer => 8
  | .noHandshake => 9
  | .blockFailed => 10
  | .probeOk => 11
  | .probeFailed => 12

def InputClass.code : InputClass → Nat
  | .normal => 1
  | .active => 2
  | .openLoop => 3
  | .shortLoop => 4

def Wiring.code : Wiring → Nat
  | .none => 0
  | .openLoop => 3
  | .shortLoop => 4

def Force.code : Force → Nat
  | .none => 0
  | .normal => 1
  | .active => 2

def Mode.code : Mode → Nat
  | .operate => 1
  | .service => 2

def Mode.ofCode : Nat → Option Mode
  | 1 => some .operate
  | 2 => some .service
  | _ => none

def Hold.code : Hold → Nat
  | .held => 1
  | .released => 2

def gateCode (gateOpen : Bool) : Nat := if gateOpen then 1 else 2

def Supply.code : Supply → Nat
  | .normal => 1
  | .reserve => 2

def ModeCause.code : ModeCause → Nat
  | .request => 1
  | .fire => 2
  | .release => 3
  | .holdLimit => 4

def FaultKind.code : FaultKind → Nat
  | .storeCorrupt => 1
  | .storeSection => 2
  | .routeInvalid => 3
  | .lineDown => 4
  | .lineNoTone => 5
  | .channelWiring => 6
  | .supplyReserve => 7
  | .commFailure => 8
  | .queueLoss => 9

/-- A code of FORCE (`09` section 9.7): 0 NO-CHANGE (outer `some none`), 1, 2, and 3 RELEASE; none outside the four. -/
def forceOf (b : Byte) : Option (Option Force) :=
  match b.toNat with
  | 0 => some none
  | 1 => some (some .normal)
  | 2 => some (some .active)
  | 3 => some (some .none)
  | _ => none

/-! ### Clamping -/

/-- A number clamped to a range (`10` R165). -/
def clamp (lo hi n : Nat) : Nat := if n < lo then lo else if hi < n then hi else n

/-! ### Entry images (`09` section 9.7): encoding, and decoding with the ranges of `10` R165

A decoder answers `none` when a coded setting is outside its codes, or when the image has not its length. Otherwise it answers the entry with every numeric setting clamped, and whether clamping or rounding changed any setting. -/

def T1.image (e : T1) : List Byte :=
  be16 e.callLimit ++ [u8 e.retryBase] ++ be16 e.retryCap ++ be16 e.rest
    ++ [u8 e.urgencyAge, u8 e.highMark, u8 e.lowMark, u8 e.testInterval]
    ++ be16 e.holdLimit ++ be16 e.lendGrace ++ be16 e.lendIdle ++ [flagCode e.holdFlag]

/-- T1 with every numeric setting clamped; the low mark against the high mark after its own clamp. -/
def T1.clamped (e : T1) : T1 :=
  let high := clamp 4 32 e.highMark
  { callLimit := clamp 60 600 e.callLimit, retryBase := clamp 2 60 e.retryBase,
    retryCap := clamp 30 900 e.retryCap, rest := clamp 60 3600 e.rest,
    urgencyAge := clamp 4 60 e.urgencyAge, highMark := high, lowMark := clamp 0 (high - 1) e.lowMark,
    testInterval := clamp 0 168 e.testInterval, holdLimit := clamp 0 600 e.holdLimit,
    lendGrace := clamp 0 300 e.lendGrace, lendIdle := clamp 0 3600 e.lendIdle, holdFlag := e.holdFlag }

def T1.decode : List Byte → Option (T1 × Bool)
  | [a1, a0, b, c1, c0, d1, d0, u, hi, lo, ti, h1, h0, g1, g0, i1, i0, f] =>
    match flagOf f with
    | none => none
    | some flag =>
      let raw : T1 :=
        { callLimit := rd16 a1 a0, retryBase := b.toNat, retryCap := rd16 c1 c0, rest := rd16 d1 d0,
          urgencyAge := u.toNat, highMark := hi.toNat, lowMark := lo.toNat, testInterval := ti.toNat,
          holdLimit := rd16 h1 h0, lendGrace := rd16 g1 g0, lendIdle := rd16 i1 i0, holdFlag := flag }
      some (raw.clamped, decide (raw.clamped ≠ raw))
  | _ => none

/-- The symbols of a dial number or prefix: the first `n` codes, each 0..13. -/
def symbolsOf (n : Nat) (bs : List Byte) : Option (List Nat) :=
  let codes := (bs.take n).map BitVec.toNat
  if codes.all (· ≤ 13) then some codes else none

def T2.image (e : T2) : List Byte :=
  [flagCode e.enabled, flagCode e.seizeTenant, u8 e.dialPrefix.length] ++ padTo 4 0 (e.dialPrefix.map u8)

def T2.decode : List Byte → Option (T2 × Bool)
  | en :: sz :: n :: symbols =>
    match flagOf en, flagOf sz, symbolsOf n.toNat symbols with
    | some enabled, some seizeTenant, some dialPrefix =>
      if n.toNat ≤ 4 ∧ symbols.length = 4 then some ({ enabled, seizeTenant, dialPrefix }, false) else none
    | _, _, _ => none
  | _ => none

def T3.image (e : T3) : List Byte :=
  [u8 e.dialNumber.length] ++ padTo 20 0 (e.dialNumber.map u8) ++ [u8 e.account.length]
    ++ padTo 8 0 (e.account.map u8) ++ [u8 e.attemptLimit, u8 e.next]

def T3.decode (image : List Byte) : Option (T3 × Bool) :=
  match image, image.drop 21, image.drop 30 with
  | n :: rest, a :: digits, [lim, nx] =>
    let account := (digits.take a.toNat).map BitVec.toNat
    match symbolsOf n.toNat (rest.take 20) with
    | none => none
    | some dialNumber =>
      if n.toNat ≤ 20 ∧ 4 ≤ a.toNat ∧ a.toNat ≤ 8 ∧ account.all (· ≤ 9) ∧ nx.toNat ≤ 12 then
        let attemptLimit := clamp 1 15 lim.toNat
        some ({ dialNumber, account, attemptLimit, next := nx.toNat }, decide (attemptLimit ≠ lim.toNat))
      else none
  | _, _, _ => none

def T4.image (e : T4) : List Byte := [u8 e.head, u8 e.mode.code]

def T4.decode : List Byte → Option (T4 × Bool)
  | [h, m] =>
    match RouteMode.ofCode m.toNat with
    | some mode => if h.toNat ≤ 12 then some ({ head := h.toNat, mode }, false) else none
    | none => none
  | _ => none

def T5.image (r : RouteNo) : List Byte := [u8 (num r)]

def T5.decode : List Byte → Option (RouteNo × Bool)
  | [r] => (ofNum 8 r.toNat).map fun route => (route, false)
  | _ => none

def T6.image (e : T6) : List Byte :=
  be16 e.sourceNumber ++ be16 e.event ++ [u8 e.cls.rank] ++ be16 e.zone
    ++ [flagCode e.latching, flagCode e.restoreReporting] ++ be16 e.debounce ++ be16 e.openCode ++ be16 e.shortCode

/-- T6 with every numeric setting clamped, and the debounce then rounded down to a multiple of 20. -/
def T6.clamped (e : T6) : T6 :=
  { e with
    sourceNumber := clamp 0 999 e.sourceNumber, event := clamp 0 999 e.event, zone := clamp 0 999 e.zone,
    debounce := clamp 20 2000 e.debounce / 20 * 20, openCode := clamp 0 999 e.openCode,
    shortCode := clamp 0 999 e.shortCode }

def T6.decode : List Byte → Option (T6 × Bool)
  | [s1, s0, e1, e0, c, z1, z0, la, re, d1, d0, o1, o0, h1, h0] =>
    match ReportClass.ofRank c.toNat, flagOf la, flagOf re with
    | some cls, some latching, some restoreReporting =>
      let raw : T6 :=
        { sourceNumber := rd16 s1 s0, event := rd16 e1 e0, cls, zone := rd16 z1 z0, latching,
          restoreReporting, debounce := rd16 d1 d0, openCode := rd16 o1 o0, shortCode := rd16 h1 h0 }
      some (raw.clamped, decide (raw.clamped ≠ raw))
    | _, _, _ => none
  | _ => none

end Sys2Proof.Machine
end

