-- ==== Sys2Proof/Machine/Link.lean ====
section
/-! DEFINITION. The Host Link (`09`): frames, the notice buffer, the transmitter, decoding a request and forming its response. -/

namespace Sys2Proof.Machine

/-! ### Frames (`09` sections 9.1 and 9.7) -/

/-- The SYNC byte. -/
def syncByte : Byte := 0xC3

/-- A frame: SYNC, LENGTH, KIND, payload, CHECK (R150). -/
def frame (kind : Byte) (payload : List Byte) : List Byte :=
  let body := u8 (payload.length + 1) :: kind :: payload
  syncByte :: body ++ [checkByte body]

/-- The kind byte of a notice. -/
def Notice.kind : Notice → Byte
  | .started .. => 0x80
  | .delivered .. => 0x81
  | .stranded .. => 0x82
  | .recovered .. => 0x83
  | .lost .. => 0x84
  | .line .. => 0x85
  | .callEnd .. => 0x86
  | .urgentPending .. => 0x87
  | .input .. => 0x88
  | .mode .. => 0x89
  | .fault .. => 0x8A

/-- The number of a directory entry in a frame, 0 for none. -/
def rxCode (e : Option RxNo) : Byte :=
  match e with
  | some e => u8 (num e)
  | none => 0

/-- The payload of a notice. -/
def Notice.payload : Notice → List Byte
  | .started fitted m h supply faults => [u8 fitted, u8 m.code, u8 h.code, u8 supply.code, u8 faults]
  | .delivered ticket receiver remaining => be16 ticket ++ [u8 (num receiver), u8 remaining]
  | .stranded ticket => be16 ticket
  | .recovered ticket => be16 ticket
  | .lost ticket cls event zone tally => be16 ticket ++ [u8 cls.rank] ++ be16 event ++ be16 zone ++ be16 tally
  | .line l occupancy status => [u8 (num l), u8 occupancy.code, u8 status.code]
  | .callEnd l receiver result blocks => [u8 (num l), rxCode receiver, u8 result.code, u8 blocks]
  | .urgentPending ticket cls lines =>
    be16 ticket ++ [u8 cls.rank, u8 lines.length] ++ padTo 4 0 (lines.map fun l => u8 (num l))
  | .input channel confirmed => [u8 (num channel), u8 confirmed.code]
  | .mode m h cause => [u8 m.code, u8 h.code, u8 cause.code]
  | .fault kind inst active => [u8 kind.code, u8 inst, if active then 1 else 2]

/-- A notice as a frame. -/
def Notice.frame (n : Notice) : List Byte := Machine.frame n.kind n.payload

/-! ### Transmitter and notice buffer -/

/-- An IDLE transmitter begins a frame: the response in hand, else the oldest notice, which then leaves the buffer (R159, R160). -/
def Link.transmit (k : Link) : Link :=
  match k.transmitter with
  | .idle =>
    match k.inHand, k.notices with
    | some f, _ => { k with transmitter := .response f }
    | none, n :: rest => { k with transmitter := .notice n.frame, notices := rest }
    | none, [] => k
  | _ => k

/-- The notice joins the buffer if fewer than 16 are held; otherwise it is discarded and the notices-lost flag set (R159). An IDLE transmitter begins at once, so before a response that is still to be formed (R160, log 47). -/
def Link.enqueue (k : Link) (n : Notice) : Link :=
  if k.notices.length < 16 then Link.transmit { k with notices := k.notices ++ [n] }
  else { k with noticesLost := true }

/-- A block hands over a notice. Until STARTED the receiver is SILENT and no notice is formed (R159). -/
def State.notice (s : State) (n : Notice) : State :=
  if s.link.receiver = .silent then s else s.setLink (s.link.enqueue n)

/-! ### Requests and responses -/

/-- Status codes (R154). -/
inductive Status where
  | ok | okPending | unknownKind | badLength | range | mode | busy | inFlight | guarded | notFound
  | full | chain
deriving DecidableEq, Repr

def Status.code : Status → Nat
  | .ok => 0
  | .okPending => 1
  | .unknownKind => 2
  | .badLength => 3
  | .range => 4
  | .mode => 5
  | .busy => 6
  | .inFlight => 7
  | .guarded => 8
  | .notFound => 9
  | .full => 10
  | .chain => 11

/-- What the owner of a request answers: status, the flags CLAMPED, EVICTED and COALESCED, and the response fields (R153). -/
structure Answer where
  status : Status
  clamped : Bool
  evicted : Bool
  coalesced : Bool
  fields : List Byte
deriving DecidableEq, Repr

/-- An answer of a status alone. -/
def Answer.plain (status : Status) : Answer :=
  { status, clamped := false, evicted := false, coalesced := false, fields := [] }

/-- OK with response fields. -/
def Answer.withFields (fields : List Byte) : Answer :=
  { status := .ok, clamped := false, evicted := false, coalesced := false, fields }

/-- The flags byte (`09` section 9.7): bit 0 CLAMPED, 1 EVICTED, 2 COALESCED, 3 REQUESTS-LOST. -/
def flagsByte (clamped evicted coalesced requestsLost : Bool) : Byte :=
  u8 (clamped.toNat + 2 * evicted.toNat + 4 * coalesced.toNat + 8 * requestsLost.toNat)

/-- The response frame of a request of a kind (R153). -/
def responseFrame (kind : Byte) (requestsLost : Bool) (a : Answer) : List Byte :=
  frame kind (u8 a.status.code :: flagsByte a.clamped a.evicted a.coalesced requestsLost :: a.fields)

/-- The response is formed and is in hand; it takes the requests-lost flag with it, and an IDLE transmitter begins it (R152, R153, R160). -/
def State.respond (s : State) (kind : Byte) (a : Answer) : State :=
  s.setLink
    (Link.transmit
      { s.link with inHand := some (responseFrame kind s.link.requestsLost a), requestsLost := false })

/-- The kinds of the request catalogue (`09` section 9.7). -/
def catalogue : List Byte :=
  [0x01, 0x02, 0x03, 0x04, 0x05, 0x06, 0x07, 0x08, 0x09, 0x10, 0x11, 0x12, 0x18, 0x19, 0x20, 0x21, 0x22,
   0x23, 0x24, 0x28, 0x30, 0x31, 0x32, 0x33, 0x34]

/-- The Host Link decodes the oldest request, and only when no response is in hand (R153); a request row happens when that request is the one it names (log 6). -/
def State.decoding (s : State) (kind : Byte) (payload : List Byte) : Bool :=
  s.link.inHand.isNone && s.link.requests.head? == some { kind, payload }

/-- A checked frame takes a place in the request buffer, or is lost with the requests-lost flag set (R152). -/
def Link.acceptRequest (k : Link) (r : Request) : Link :=
  if k.requests.length < 2 then { k with requests := k.requests ++ [r] } else { k with requestsLost := true }

/-- A complete frame, its bytes from KIND to CHECK: discarded unless LENGTH and they sum to 0 (R150). -/
def Link.checkFrame (k : Link) (len : Byte) (bytes : List Byte) : Link :=
  if byteSum (len :: bytes) = 0 then
    match bytes.dropLast with
    | kind :: payload => k.acceptRequest { kind, payload }
    | [] => k
  else k

/-- The 50 ms that end a frame (R151). -/
def byteWait : Nat := 50

/-- A byte arrives (R149, R150). -/
def Link.byte (k : Link) (now : Nat) (b : Byte) : Link :=
  match k.receiver with
  | .silent => k
  | .hunt => if b = syncByte then { k with receiver := .length, byteTimer := some (now + byteWait) } else k
  | .length =>
    if 1 ≤ b.toNat ∧ b.toNat ≤ 200 then
      { k with receiver := .body b [] (b.toNat + 1), byteTimer := some (now + byteWait) }
    else { k with receiver := .hunt, byteTimer := none }
  | .body len got expect =>
    if expect ≤ 1 then Link.checkFrame { k with receiver := .hunt, byteTimer := none } len (got ++ [b])
    else { k with receiver := .body len (got ++ [b]) (expect - 1), byteTimer := some (now + byteWait) }

/-- The last byte of a frame has been sent: after a response its request leaves the buffer and no response is in hand (R152). The transmitter is IDLE. -/
def Link.frameEnded (k : Link) : Link :=
  match k.transmitter with
  | .response _ => { k with transmitter := .idle, inHand := none, requests := k.requests.tail }
  | .notice _ => { k with transmitter := .idle }
  | .idle => k

end Sys2Proof.Machine
end

