-- ==== Sys2Proof/Machine/Flags.lean ====
section
/-! DEFINITION. The fault list (`09` section 9.5): its entries reported active and cleared, with their notices. -/

namespace Sys2Proof.Machine

/-- The entry of a kind and instance. -/
def faultEntry (faults : List FaultEntry) (kind : FaultKind) (inst : Nat) : Option FaultEntry :=
  faults.find? fun e => e.kind == kind && e.inst == inst

/-- The list with the entry of a kind and instance set ACTIVE or LATCHED, in its place. -/
def setFault (faults : List FaultEntry) (kind : FaultKind) (inst : Nat) (active : Bool) : List FaultEntry :=
  faults.map fun e => if e.kind == kind && e.inst == inst then { e with active } else e

def State.setFaults (s : State) (faults : List FaultEntry) : State :=
  s.setLink { s.link with faults }

/-- A block reports an entry as active (R161). -/
def State.faultActive (s : State) (kind : FaultKind) (inst : Nat) : State :=
  match faultEntry s.link.faults kind inst with
  | none => (s.setFaults (s.link.faults ++ [{ kind, inst, active := true }])).notice (.fault kind inst true)
  | some e =>
    if e.active then s else (s.setFaults (setFault s.link.faults kind inst true)).notice (.fault kind inst true)

/-- A block reports an entry as cleared (R161). -/
def State.faultCleared (s : State) (kind : FaultKind) (inst : Nat) : State :=
  match faultEntry s.link.faults kind inst with
  | none => s
  | some e =>
    if e.active then (s.setFaults (setFault s.link.faults kind inst false)).notice (.fault kind inst false) else s

/-- STORE-CORRUPT is on the fault list (R173). -/
def State.storeCorrupt (s : State) : Bool := (faultEntry s.link.faults .storeCorrupt 0).isSome

/-- STORE-CORRUPT is removed from the list with a FAULT notice (R161, R169). -/
def State.removeStoreCorrupt (s : State) : State :=
  if s.storeCorrupt then
    (s.setFaults (s.link.faults.filter fun e => e.kind != .storeCorrupt)).notice (.fault .storeCorrupt 0 false)
  else s

/-- What FAULT-CLEAR removes (R163): LATCHED entries, but for STORE-CORRUPT. -/
def clearable (e : FaultEntry) : Bool := !e.active && e.kind != .storeCorrupt

end Sys2Proof.Machine
end

