-- ==== Sys2Proof/Machine/Route.lean ====
section
/-! DEFINITION. The Route Unit (`05`): chains, pending lists, targets, and the receiver's status. What its changes ask of the queue and the Dispatcher stands with the queue. -/

namespace Sys2Proof.Machine

/-! ### Chains (R81) -/

/-- How the walk of a chain ends (R81): at step 1 with a chain, at step 1 with none, at step 2, 3 or 4. -/
inductive WalkEnd where
  | valid (chain : List RxNo) | noHead | tooLong | emptyDial | loop
deriving DecidableEq, Repr

/-- The walk of a chain from an entry (R81); the fuel exceeds the five entries a walk can visit. -/
def walkFrom (t3 : Vector T3 12) : Nat → Nat → List RxNo → WalkEnd
  | 0, _, _ => .tooLong
  | fuel + 1, current, chain =>
    match ofNum 12 current with
    | none => if chain = [] then .noHead else .valid chain
    | some e =>
      if 4 ≤ chain.length then .tooLong
      else if (t3[e.val]).dialNumber = [] then .emptyDial
      else if e ∈ chain then .loop
      else walkFrom t3 fuel (t3[e.val]).next (chain ++ [e])

/-- The walk of the chain of a head. -/
def walk (t3 : Vector T3 12) (head : Nat) : WalkEnd := walkFrom t3 6 head []

/-- The walk ended at step 2 or at step 4 (R167, the CHAIN check). -/
def WalkEnd.broken : WalkEnd → Bool
  | .tooLong | .loop => true
  | .valid _ | .noHead | .emptyDial => false

/-- Validity and chain of a route from its walk (R81). -/
def WalkEnd.eval : WalkEnd → RouteEval
  | .valid chain => { valid := true, chain }
  | .noHead | .tooLong | .emptyDial | .loop => { valid := false, chain := [] }

/-- A route is in use when a class is mapped to it (R82). -/
def State.routeInUse (s : State) (r : RouteNo) : Bool := allClasses.any fun c => s.classRoute c == r

/-- ROUTE-INVALID for one route (R82). -/
def State.reportRoute (s : State) (r : RouteNo) : State :=
  if !(s.route r).valid && s.routeInUse r then s.faultActive .routeInvalid (num r)
  else s.faultCleared .routeInvalid (num r)

/-- ROUTE-INVALID for every route (R82), in route-number order (log 40). -/
def State.reportRoutes (s : State) : State := allRoutes.foldl State.reportRoute s

/-- The Route Unit evaluates all eight routes and reports ROUTE-INVALID (R81, R82). -/
def State.evaluateRoutes (s : State) : State :=
  State.reportRoutes
    (s.setRoutes (Vector.ofFn fun r => (walk s.tables.t3 (s.t4 r).head).eval))

/-! ### Pending lists and targets -/

/-- The pending list of a record on a route with an accepted list (R83). -/
def State.buildPending (s : State) (r : RouteNo) (accepted : List RxNo) : List RxNo :=
  if (s.route r).valid then
    match (s.t4 r).mode with
    | .any => (s.route r).chain
    | .each => (s.route r).chain.filter fun e => e ∉ accepted
  else []

/-- The target of a pending list: its first entry whose receiver is not EXHAUSTED (R84). -/
def State.targetOf (s : State) (pendingList : List RxNo) : Option RxNo :=
  pendingList.find? fun e => (s.rx e).state != .exhausted

/-- A record's target (R56, R84). -/
def State.target (s : State) (r : Record) : Option RxNo := s.targetOf r.pendingList

/-! ### Receiver status -/

/-- The receiver becomes CALLING if it is READY; otherwise the request is refused (R86). -/
def State.makeCalling (s : State) (e : RxNo) : Option State :=
  if (s.rx e).state = .ready then some (s.setRx e { s.rx e with state := .calling }) else none

/-- An ACCEPT sets the failure count to 0 (R87). -/
def State.resetFailures (s : State) (e : RxNo) : State := s.setRx e { s.rx e with failures := 0 }

/-- `base` doubled at most `n` times, stopping as soon as the value exceeds the cap (R89). -/
def doubled (base cap : Nat) : Nat → Nat
  | 0 => base
  | n + 1 => if cap < doubled base cap n then doubled base cap n else 2 * doubled base cap n

/-- The backoff after failure `f`, in seconds (R89). -/
def backoffSeconds (base cap f : Nat) : Nat := min (doubled base cap (f - 1)) cap

/-- The results that are charged to the receiver (R88). -/
def CallResult.receiverCaused : CallResult → Bool
  | .busy | .noAnswer | .noHandshake | .blockFailed => true
  | .complete | .cutShort | .aborted | .noDialTone | .noSecondTone | .lineDown | .probeOk | .probeFailed => false

/-- The receiver's status after a receiver-caused failure (R89). -/
def State.charged (s : State) (e : RxNo) : RxStatus :=
  let f := (s.rx e).failures + 1
  if (s.t3 e).attemptLimit ≤ f then
    { state := .exhausted, failures := f, due := some (s.clock + s.t1.rest) }
  else
    { state := .backoff, failures := f, due := some (s.clock + backoffSeconds s.t1.retryBase s.t1.retryCap f) }

/-- The receiver's status after a SET of its attempt limit (R92). -/
def RxStatus.limited (x : RxStatus) (limit : Nat) : RxStatus :=
  if x.state = .exhausted then { x with failures := limit }
  else if limit ≤ x.failures then { x with failures := limit - 1 }
  else x

end Sys2Proof.Machine
end

