-- ==== Sys2Proof/Machine/Queue.lean ====
section
/-! DEFINITION. The Report Queue (`04`) and what it asks of the block slots (`08`): queue order, pressure, claims and returns, composing and recomposing NEXT, admission, coalescing, eviction, loss, ACCEPT, re-examination and removal. -/

namespace Sys2Proof.Machine

/-! ### Records and queue order -/

def State.setQueue (s : State) (q : Queue) : State := { s with queue := q }

/-- The records in queue order: class rank first, then entry sequence (R59). -/
def queueOrder (rs : List Record) : List Record :=
  allClasses.flatMap fun c => rs.filter fun r => r.report.cls == c

/-- The queue in queue order. -/
def State.inOrder (s : State) : List Record := queueOrder s.queue.records

/-- The record that holds a ticket. -/
def State.find (s : State) (ticket : Nat) : Option Record :=
  s.queue.records.find? fun r => r.ticket == ticket

/-- The LOSS record (R63). -/
def State.lossRecord (s : State) : Option Record := s.queue.records.find? fun r => r.reserved

/-- The number of ordinary records (R62). -/
def State.ordinaryCount (s : State) : Nat := s.queue.records.countP fun r => !r.reserved

/-- The record of a ticket changed. -/
def State.modRecord (s : State) (ticket : Nat) (f : Record → Record) : State :=
  s.setQueue
    { s.queue with records := s.queue.records.map fun r => if r.ticket = ticket then f r else r }

/-- A record that no call holds: WAITING or STRANDED (`04` section 4.4). -/
def Record.isFree (r : Record) : Bool := r.state == .waiting || r.state == .stranded

/-- A record is seize-eligible (R74). -/
def State.eligible (s : State) (r : Record) : Bool :=
  !r.report.cls.deferred || decide (s.t1.urgencyAge ≤ r.age) || s.queue.pressure

/-! ### Pressure and COMM-FAILURE -/

/-- The number of deferred records that are WAITING or STRANDED (R73). -/
def deferredCount (rs : List Record) : Nat := rs.countP fun r => r.report.cls.deferred && r.isFree

/-- The pressure after a count (R73). -/
def pressureAfter (t : T1) (pressure : Bool) (count : Nat) : Bool :=
  if pressure then !decide (count ≤ t.lowMark) else decide (t.highMark ≤ count)

/-- The deferred count is taken again and the pressure settled; a change is told to the Dispatcher (R73). -/
def State.settlePressure (s : State) : State :=
  let count := deferredCount s.queue.records
  let p := pressureAfter s.t1 s.queue.pressure count
  let s1 := s.setQueue { s.queue with deferred := count, pressure := p }
  if p = s.queue.pressure then s1 else s1.tell

/-- COMM-FAILURE: active while any record is STRANDED, cleared when none is (R70). -/
def State.settleComm (s : State) : State :=
  if s.queue.records.any fun r => r.state == .stranded then s.faultActive .commFailure 0
  else s.faultCleared .commFailure 0

/-! ### Blocks (`08` R132 to R134, R137) -/

/-- The sum S: odd positions weigh 3, even positions 1 (R134). -/
def weightedSum : List Nat → Nat
  | [] => 0
  | [a] => 3 * a
  | a :: b :: rest => 3 * a + b + weightedSum rest

/-- The check symbol of the symbols from the first account digit to the last zone digit (R134). -/
def checkSymbol (symbols : List Nat) : Nat := (16 - weightedSum symbols % 16) % 16

/-- Three decimal digits. -/
def digits3 (n : Nat) : List Nat := [n / 100 % 10, n / 10 % 10, n % 10]

/-- A report group: qualifier symbol, class rank, event code, zone (R133). -/
def reportGroup (r : Report) : List Nat :=
  [r.qualifier.code, r.cls.rank] ++ digits3 r.event ++ digits3 r.zone

/-- The start symbol # (R132). -/
def startSymbol : Nat := 11

/-- A block of reports for an account (R133); no report, no block. -/
def composeBlock (account : List Nat) (reports : List Report) : List Nat :=
  if reports = [] then []
  else
    let body := account ++ [reports.length] ++ reports.flatMap reportGroup
    startSymbol :: body ++ [checkSymbol body]

/-- The account of the receiver of a line's call, as T3 has it now (R79). -/
def State.callAccount (s : State) (l : LineNo) : List Nat :=
  match s.call l with
  | some c =>
    match c.receiver with
    | some e => (s.t3 e).account
    | none => []
  | none => []

/-- A slot that holds some tickets, in queue order, with the block composed from their records (R137). -/
def State.makeSlot (s : State) (l : LineNo) (tickets : List Nat) : Slot :=
  let held := s.inOrder.filter fun r => tickets.contains r.ticket
  { tickets := held.map Record.ticket, block := composeBlock (s.callAccount l) (held.map Record.report) }

/-! ### Claim, move and return (R67, R68) -/

/-- The first `n` WAITING records, in queue order, whose target is `e` (R67). -/
def State.claimable (s : State) (e : RxNo) (n : Nat) : List Record :=
  (s.inOrder.filter fun r => r.state == .waiting && s.target r == some e).take n

/-- Records of some tickets take a state. -/
def State.setStates (s : State) (tickets : List Nat) (st : RecordState) : State :=
  s.setQueue
    { s.queue with
      records := s.queue.records.map fun r => if tickets.contains r.ticket then { r with state := st } else r }

/-- A claim into SENDING with `n` places (R67). -/
def State.claimSending (s : State) (l : LineNo) (e : RxNo) (n : Nat) : State :=
  let got := (s.claimable e n).map Record.ticket
  let s1 := (s.setStates got .inFlight).settlePressure
  s1.setSlots l (s1.makeSlot l got) (s1.line l).next

/-- A claim into NEXT with `n` places, beside the tickets it holds; its block is composed again (R67, R138). -/
def State.claimNext (s : State) (l : LineNo) (e : RxNo) (n : Nat) : State :=
  let got := (s.claimable e n).map Record.ticket
  let s1 := (s.setStates got .staged).settlePressure
  s1.setSlots l (s1.line l).sending (s1.makeSlot l ((s1.line l).next.tickets ++ got))

/-- NEXT moves into SENDING with its block unchanged, and its STAGED records become IN-FLIGHT (R68, R137, R145). -/
def State.moveNext (s : State) (l : LineNo) : State :=
  let tickets := (s.line l).next.tickets
  let staged := (s.queue.records.filter fun r => tickets.contains r.ticket && r.state == .staged).map Record.ticket
  let s1 := s.setStates staged .inFlight
  s1.setSlots l (s1.line l).next Slot.empty

/-- Held losses are added to the LOSS record when it returns (R64). -/
def State.releaseHeld (s : State) (r : Record) : State :=
  if r.reserved then
    s.setQueue
      { s.queue with
        records := s.queue.records.map fun x =>
          if x.ticket = r.ticket then { x with repeats := min 255 (x.repeats + s.queue.heldLosses) } else x
        heldLosses := 0 }
  else s

/-- The record leaves its slot: WAITING if it has a target, else STRANDED with its notice and COMM-FAILURE; a return to WAITING is handed on (R68). -/
def State.returnRecord (s : State) (ticket : Nat) : State :=
  match s.find ticket with
  | none => s
  | some r =>
    if r.state = .staged ∨ r.state = .inFlight then
      let st : RecordState := if (s.target r).isSome then .waiting else .stranded
      let s1 := (s.modRecord ticket fun x => { x with state := st }).releaseHeld r
      let s2 := if st = .stranded then (s1.notice (.stranded ticket)).settleComm else s1.noteWaiting ticket
      s2.settlePressure
    else s

/-- The records of some tickets are returned, in the slot's order (R68). -/
def State.returnAll (s : State) (tickets : List Nat) : State := tickets.foldl State.returnRecord s

/-! ### Recomposing NEXT (R138) -/

/-- The call in EXCHANGE to a receiver in a phase after DELAY, with both flags clear (R138). -/
def takesHandOns (c : Call) (e : RxNo) : Bool :=
  c.receiver == some e && !c.lendPending && !c.cutShort &&
    (match c.state with
      | .exchange .delay => false
      | .exchange _ => true
      | _ => false)

/-- The line whose call takes a record for receiver `e`. -/
def State.exchangeLine (s : State) (e : RxNo) : Option LineNo :=
  allLines.find? fun l =>
    match s.call l with
    | some c => takesHandOns c e
    | none => false

/-- One ticket stands ahead of another in queue order; none stands ahead of itself. -/
def State.ahead (s : State) (a b : Nat) : Bool :=
  match (s.inOrder.map Record.ticket).find? fun t => t == a || t == b with
  | some t => t == a && a != b
  | none => false

/-- NEXT of line `l` recomposed for an arriving record (R138). A full NEXT gives up its last record where both the arriving record and the one the claim would take stand ahead of it; for an arriving record still WAITING the first implies the second (log 5). -/
def State.recompose (s : State) (l : LineNo) (e : RxNo) (ticket : Nat) : State :=
  let tickets := (s.line l).next.tickets
  if tickets.length < 4 then s.claimNext l e (4 - tickets.length)
  else
    match tickets.getLast?, (s.claimable e 1).head? with
    | some last, some first =>
      if s.ahead ticket last && s.ahead first.ticket last then
        let s1 := s.returnRecord last
        (s1.setSlots l (s1.line l).sending { (s1.line l).next with tickets := tickets.dropLast }).claimNext l e 1
      else s
    | _, _ => s

/-- A Call Controller takes a ticket that was handed on and recomposes NEXT for it (R65 step 3, R138): for each of several handed on together, so also for one that the recomposition for another has already claimed, which is then STAGED (log 5). -/
def State.takeHandOn (s : State) (ticket : Nat) : State :=
  match s.find ticket with
  | none => s
  | some r =>
    if r.state = .waiting ∨ r.state = .staged then
      match s.target r with
      | none => s
      | some e =>
        match s.exchangeLine e with
        | none => s
        | some l => s.recompose l e ticket
    else s

/-- Every ticket handed on is taken, in turn; a recomposition may hand on the record it displaced. -/
def State.drainFuel : Nat → State → State
  | 0, s => s
  | n + 1, s =>
    match s.work.handOns with
    | [] => s
    | ticket :: rest => State.drainFuel n (State.takeHandOn (s.setWork { s.work with handOns := rest }) ticket)

/-- The Call Controllers take what was handed on, unless one is at work on an event (log 5). Each recomposition displaces at most one record, so the fuel exceeds what 33 records can need. -/
def State.drain (s : State) : State := if s.work.busy then s else s.drainFuel 128

/-- A record that has entered WAITING is handed to the Dispatcher and to the Call Controllers (R65 step 3). -/
def State.handOn (s : State) (ticket : Nat) : State := (s.noteWaiting ticket).drain

/-! ### Admission (R58, R60 to R65) -/

/-- The ticket after another: 65535 is followed by 1 (R58). -/
def nextTicket (t : Nat) : Nat := if 65535 ≤ t then 1 else t + 1

/-- The first value from `t` on that no record holds (R58); 34 steps suffice for 33 records. -/
def freeTicket (rs : List Record) : Nat → Nat → Nat
  | 0, t => t
  | fuel + 1, t => if rs.any fun r => r.ticket == t then freeTicket rs fuel (nextTicket t) else t

/-- The hold-limit timer starts if the part is HELD, the timer idle, the hold limit not 0 and STORE-CORRUPT not on the list (R173). -/
def State.startHoldLimit (s : State) : State :=
  if s.hold = .held ∧ s.holdTimer = none ∧ s.t1.holdLimit ≠ 0 ∧ s.storeCorrupt = false then
    s.setHoldTimer (some (s.now + s.t1.holdLimit * 1000))
  else s

/-- The entry of a FIRE record (R65 step 2): in SERVICE an exit is due (R171), and the hold limit may start (R173). -/
def State.fireEntry (s : State) : State :=
  (if s.mode = .service then s.noteExit else s).startHoldLimit

/-- Steps 1 to 4 of R65 for a record as it stands. -/
def State.tellNeighbours (s : State) (ticket : Nat) (cls : ReportClass) (st : RecordState) : State :=
  let s1 := if st = .stranded then (s.notice (.stranded ticket)).settleComm else s
  let s2 := if cls = .fire then s1.fireEntry else s1
  let s3 := if st = .waiting then s2.handOn ticket else s2
  s3.settlePressure

/-- Steps 3 to 5 of admission: the record is made and takes its first state (R58, R60, R65). -/
def State.enter (s : State) (rep : Report) (reserved : Bool) (repeats : Nat) : State :=
  let ticket := freeTicket s.queue.records 34 s.queue.ticketCounter
  let route := s.classRoute rep.cls
  let pendingList := s.buildPending route []
  let st : RecordState := if (s.targetOf pendingList).isSome then .waiting else .stranded
  let r : Record :=
    { ticket, report := rep, route, pendingList, acceptedList := [], state := st, age := 0, repeats,
      enteredAt := s.clock, reserved }
  (s.setQueue { s.queue with records := s.queue.records ++ [r], ticketCounter := nextTicket ticket }).tellNeighbours
    ticket rep.cls st

/-- The report the LOSS record carries (R63). -/
def lossReport : Report :=
  { cls := .trouble, qualifier := .new, source := .part, sourceNumber := 0, event := 904, zone := 0 }

/-- A loss accounted for in the LOSS record (R63, R64). -/
def State.accountLoss (s : State) : State :=
  match s.lossRecord with
  | none => (s.enter lossReport true 0).faultActive .queueLoss 0
  | some r =>
    if r.isFree then s.modRecord r.ticket fun x => { x with repeats := min 255 (x.repeats + 1) }
    else s.setQueue { s.queue with heldLosses := min 255 (s.queue.heldLosses + 1) }

/-- A loss is counted and its LOST notice sent (R62, R63). -/
def State.countLoss (s : State) (ticket : Nat) (rep : Report) : State :=
  let tally := min 65535 (s.queue.lostTally + 1)
  (s.setQueue { s.queue with lostTally := tally }).notice (.lost ticket rep.cls rep.event rep.zone tally)

/-- A record leaves the queue (R71): its ticket and place are free; when it is the LOSS record, held losses become a new one or QUEUE-LOSS is cleared (R64); COMM-FAILURE, deferred count and pressure are taken again, and the Dispatcher is told. -/
def State.removeRecord (s : State) (r : Record) : State :=
  let s1 := s.setQueue { s.queue with records := s.queue.records.filter fun x => x.ticket != r.ticket }
  let s2 :=
    if r.reserved then
      if s.queue.heldLosses = 0 then s1.faultCleared .queueLoss 0
      else (s1.setQueue { s1.queue with heldLosses := 0 }).enter lossReport true (s.queue.heldLosses - 1)
    else s1
  let s3 := if r.state = .stranded then s2.settleComm else s2
  s3.settlePressure.tell

/-- The identity of a report: all but its class (R57). -/
def sameIdentity (a b : Report) : Bool :=
  a.qualifier == b.qualifier && a.source == b.source && a.sourceNumber == b.sourceNumber &&
    a.event == b.event && a.zone == b.zone

/-- The record an arriving report joins: the first in queue order of its identity that is WAITING or STRANDED (R61). -/
def State.joinable (s : State) (rep : Report) : Option Record :=
  s.inOrder.find? fun r => sameIdentity r.report rep && r.isFree

/-- The report joins the record (R61). -/
def State.join (s : State) (r : Record) (rep : Report) : State :=
  let s1 := s.modRecord r.ticket fun x => { x with repeats := min 255 (x.repeats + 1) }
  if rep.cls.rank < r.report.cls.rank then
    let route := s.classRoute rep.cls
    let pendingList := s.buildPending route r.acceptedList
    let st : RecordState := if (s.targetOf pendingList).isSome then .waiting else .stranded
    let s2 := s1.modRecord r.ticket fun x =>
      { x with report := { x.report with cls := rep.cls }, route, pendingList, state := st }
    let s3 :=
      if st = r.state then s2
      else (s2.notice (if st = .stranded then .stranded r.ticket else .recovered r.ticket)).settleComm
    let s4 := if rep.cls = .fire then s3.fireEntry else s3
    let s5 := if st = .waiting then s4.handOn r.ticket else s4
    s5.settlePressure.tell
  else s1

/-- The eviction candidate: the last in queue order of the ordinary WAITING or STRANDED records of a worse rank (R62). -/
def State.evictable (s : State) (cls : ReportClass) : Option Record :=
  (s.inOrder.filter fun r => !r.reserved && r.isFree && decide (cls.rank < r.report.cls.rank)).getLast?

/-- How admission ended (R77). -/
inductive Admitted where
  | new (ticket : Nat) | evicting (ticket : Nat) | joined (ticket : Nat) | lost
deriving DecidableEq, Repr

/-- The ticket the next new record would get (R58). -/
def State.ticketToGive (s : State) : Nat := freeTicket s.queue.records 34 s.queue.ticketCounter

/-- Admission of one report, done whole (R60). The loss of an eviction is accounted for before an exit from SERVICE that the report forces (R171, log 43). -/
def State.admission (s : State) (rep : Report) : State × Admitted :=
  match s.joinable rep with
  | some r => (s.join r rep, .joined r.ticket)
  | none =>
    if s.ordinaryCount < 32 then (s.enter rep false 0, .new s.ticketToGive)
    else
      match s.evictable rep.cls with
      | some r =>
        let s1 := (s.removeRecord r).countLoss r.ticket r.report
        ((s1.enter rep false 0).accountLoss, .evicting s1.ticketToGive)
      | none => ((s.countLoss 0 rep).accountLoss, .lost)

/-- A report handed to the queue. -/
def State.report (s : State) (rep : Report) : State := (s.admission rep).1

/-- A report the part raises about itself: source kind PART, source number 0. -/
def partReport (cls : ReportClass) (q : Qualifier) (event zone : Nat) : Report :=
  { cls, qualifier := q, source := .part, sourceNumber := 0, event, zone }

/-! ### ACCEPT (R69) -/

/-- The ACCEPT of receiver `e` applied to one record of the SENDING block (R69). The DELIVERED notice goes before the notices of the removal or the return (log 36); an accepted list that rebuilds have brought to four entries grows past them (log 35). -/
def State.acceptRecord (e : RxNo) (s : State) (ticket : Nat) : State :=
  match s.find ticket with
  | none => s
  | some r =>
    if r.state = .inFlight then
      match (s.t4 r.route).mode with
      | .any => (s.notice (.delivered ticket e 0)).removeRecord r
      | .each =>
        if e ∈ r.pendingList then
          let rest := r.pendingList.erase e
          let s1 := s.modRecord ticket fun x =>
            { x with pendingList := rest, acceptedList := x.acceptedList ++ [e] }
          if rest = [] then (s1.notice (.delivered ticket e 0)).removeRecord r
          else (s1.notice (.delivered ticket e rest.length)).returnRecord ticket
        else s.returnRecord ticket
    else s

/-- The ACCEPT applied to a block's tickets, in slot order (R69). -/
def State.applyAccept (s : State) (e : RxNo) (tickets : List Nat) : State :=
  tickets.foldl (State.acceptRecord e) s

/-! ### Re-examination and rebuild (R70, R95) -/

/-- One record re-examined (R70). -/
def State.reexamineOne (s : State) (ticket : Nat) : State :=
  match s.find ticket with
  | none => s
  | some r =>
    match r.state, s.target r with
    | .waiting, none =>
      (((s.modRecord ticket fun x => { x with state := .stranded }).notice (.stranded ticket)).settleComm).settlePressure
    | .stranded, some _ =>
      (((s.modRecord ticket fun x => { x with state := .waiting }).notice (.recovered ticket)).settleComm.handOn
        ticket).settlePressure
    | _, _ => s

/-- Every WAITING and STRANDED record re-examined in queue order (R70). -/
def State.reexamine (s : State) : State :=
  ((s.inOrder.filter Record.isFree).map Record.ticket).foldl State.reexamineOne s

/-- Every WAITING and STRANDED record takes route and pending list again (R95). -/
def State.rebuild (s : State) : State :=
  s.setQueue
    { s.queue with
      records := s.queue.records.map fun r =>
        if r.isFree then
          let route := s.classRoute r.report.cls
          { r with route, pendingList := s.buildPending route r.acceptedList }
        else r }

/-! ### The Route Unit's changes told to its neighbours (R88, R91, R93) -/

/-- The result of an ended call applied to its receiver (R88, R89, R93); none for a call dropped in PREPARE. -/
def State.receiverResult (s : State) (e : RxNo) (result : Option CallResult) : State :=
  match result with
  | some res =>
    if res.receiverCaused then
      let x := s.charged e
      if x.state = .exhausted then (s.setRx e x).reexamine.tell else s.setRx e x
    else (s.setRx e { s.rx e with state := .ready, due := none }).tell
  | none => (s.setRx e { s.rx e with state := .ready, due := none }).tell

end Sys2Proof.Machine
end

