-- ==== Sys2Proof/Machine/Sense.lean ====
section
/-! DEFINITION. The Line Sense Unit (`01`): windows, classes, confirmation, ringing, polarity, and the tone segment detector, as functions of the unit's own state. -/

namespace Sys2Proof.Machine

/-! ### The sample stream and the window's figures -/

/-- The sensor clips a voltage to -1500..+1500 (R1). -/
def clipVolts (v : Int) : Int := if v < -1500 then -1500 else if 1500 < v then 1500 else v

/-- Magnitude sum M (R2). -/
def magnitudeSum (window : List Int) : Nat := (window.map Int.natAbs).sum

/-- Average A: M divided by 8, rounded toward zero (R2). -/
def average (window : List Int) : Nat := magnitudeSum window / 8

/-- Raw sum R (R2). -/
def rawSum (window : List Int) : Int := window.sum

/-- Swing (R2). -/
def swing (window : List Int) : Bool := window.any (650 ≤ ·) && window.any (· ≤ -650)

/-! ### Window class and confirmation -/

/-- The upper threshold U (R3). -/
def upperThreshold (confirmed : LoopClass) : Nat :=
  match confirmed with
  | .onHook => 280
  | .unknown | .offHook | .ring | .dead => 320

/-- The window class W: the first condition that holds (R3). -/
def windowClass (confirmed : LoopClass) (window : List Int) : LoopClass :=
  if swing window then .ring
  else if upperThreshold confirmed ≤ average window then .onHook
  else if 40 ≤ average window then .offHook
  else .dead

/-- K, the length of a full run (R4). -/
def fullRun : LoopClass → Nat
  | .dead => 25
  | .unknown | .onHook | .offHook | .ring => 4

/-- A CLASS report (R5): the new class, the class it replaced, and whether a settling window made it (R7). -/
structure ClassReport where
  new : LoopClass
  old : LoopClass
  settling : Bool
deriving DecidableEq, Repr

/-- The class `w` becomes the confirmed class (R4). -/
def Sense.confirm (u : Sense) (w : LoopClass) : Sense :=
  { u with confirmed := w, candidate := none, run := 0, settling := false }

/-- The window class applied to candidate and run count (R4), with K = 1 while the settling flag is set (R7). -/
def Sense.applyClass (u : Sense) (w : LoopClass) : Sense × Option ClassReport :=
  if u.settling then (u.confirm w, some { new := w, old := u.confirmed, settling := true })
  else if w = u.confirmed then ({ u with candidate := none, run := 0 }, none)
  else
    let run := if u.candidate = some w then u.run + 1 else 1
    if fullRun w ≤ run then (u.confirm w, some { new := w, old := u.confirmed, settling := false })
    else ({ u with candidate := some w, run }, none)

/-- 6 s (R6). -/
def ringOffTime : Nat := 6000

/-- The ring-off timer after a window of class `w` (R6). -/
def ringOffAfter (timer : Option Nat) (w : LoopClass) (confirmed : Bool) (now : Nat) : Option Nat :=
  if w = .ring ∧ (confirmed = true ∨ timer.isSome = true) then some (now + ringOffTime) else timer

/-! ### Polarity -/

/-- Window polarity (R8); none when the raw sum is 0. -/
def windowPolarity (window : List Int) : Option Polarity :=
  if 0 < rawSum window then some .positive else if rawSum window < 0 then some .negative else none

/-- A counted window's polarity `p` applied to the polarity run, whose sign is never the confirmed one (R8), and the change it confirms, if it does (R9). -/
def Sense.applyPolarity (u : Sense) (p : Polarity) : Sense × Option Polarity :=
  let count := match u.polarityRun with
    | some (q, n) => if q = p then n + 1 else 1
    | none => 1
  if u.polarity = some p then ({ u with polarityRun := none }, none)
  else if 4 ≤ count then
    ({ u with polarity := some p, polarityRun := none }, if u.polarity.isSome then some p else none)
  else ({ u with polarityRun := some (p, count) }, none)

/-- The eighth sample has come: class, confirmation, ring-off timer and polarity; the window is emptied (R1 to R9). -/
def Sense.endWindow (u : Sense) (window : List Int) (now : Nat) :
    Sense × Option ClassReport × Option Polarity :=
  let w := windowClass u.confirmed window
  let (u1, report) := Sense.applyClass { u with window := [] } w
  let u2 := { u1 with ringOff := ringOffAfter u1.ringOff w report.isSome now }
  match w, windowPolarity window with
  | .ring, _ => (u2, report, none)
  | _, none => (u2, report, none)
  | _, some p =>
    let (u3, change) := u2.applyPolarity p
    (u3, report, change)

/-- A sample is appended to the window (R1). -/
def Sense.sample (u : Sense) (v : Int) (now : Nat) : Sense × Option ClassReport × Option Polarity :=
  if u.window.length < 7 then ({ u with window := u.window ++ [v] }, none, none)
  else u.endWindow (u.window ++ [v]) now

/-- The ring-off timer expires: idle; while the confirmed class is RING the settling flag is set (R6, R7). -/
def Sense.ringOffExpired (u : Sense) : Sense :=
  if u.confirmed = .ring then { u with ringOff := none, candidate := none, run := 0, settling := true }
  else { u with ringOff := none }

/-! ### The tone segment detector -/

def PerBand.get {α : Type} (x : PerBand α) : Band → α
  | .dial => x.dial
  | .t1 => x.t1
  | .t2 => x.t2

def PerBand.set {α : Type} (x : PerBand α) (b : Band) (v : α) : PerBand α :=
  match b with
  | .dial => { x with dial := v }
  | .t1 => { x with t1 := v }
  | .t2 => { x with t2 := v }

/-- Tone now present is treated as tone that appears at this moment (R12, R15). -/
def appearing (toneOn : PerBand Bool) (now : Nat) : PerBand (Option Nat) :=
  { dial := if toneOn.dial then some now else none
    t1 := if toneOn.t1 then some now else none
    t2 := if toneOn.t2 then some now else none }

/-- The detector begins listening (R12, R16). -/
def Detector.listen (toneOn : PerBand Bool) (now : Nat) : Detector :=
  { listening := true, muted := false, since := appearing toneOn now, segment := none }

/-- 20 ms: presence that qualifies a tone, and absence that ends a segment (R13, R14). -/
def qualifyTime : Nat := 20

/-- The duration of a segment in whole ms, at most 65535 (R14). -/
def duration (onset stop : Nat) : Nat := min (stop - onset) 65535

/-- What the detector reports to the Call Controller (R13, R14). -/
inductive ToneReport where
  | onset (band : Band) (at_ : Nat)
  | ended (band : Band) (ms : Nat) (onset : Nat) (at_ : Nat)
deriving DecidableEq, Repr

/-- The start of muting: an open segment ends at once and nothing qualifies (R15). -/
def Detector.mute (d : Detector) (now : Nat) : Detector × Option ToneReport :=
  if d.muted then (d, none)
  else
    ({ d with muted := true, since := ⟨none, none, none⟩, segment := none },
      d.segment.map fun g => .ended g.band (duration g.onset now) g.onset now)

/-- The end of muting: tone then present appears at that moment (R15). -/
def Detector.unmute (d : Detector) (toneOn : PerBand Bool) (now : Nat) : Detector :=
  if d.muted then { d with muted := false, since := appearing toneOn now } else d

/-- The detector hears: it listens and is not muted. -/
def Detector.hears (d : Detector) : Bool := d.listening && !d.muted

/-- Tone appears in a band (R13). A break in the open segment's tone is over (R14). -/
def Detector.appears (d : Detector) (b : Band) (now : Nat) : Detector :=
  if d.hears then
    { d with
      since := d.since.set b (some now)
      segment := d.segment.map fun g => if g.band = b then { g with stopped := none } else g }
  else d

/-- Tone in a band stops (R13, R14). -/
def Detector.stops (d : Detector) (b : Band) (now : Nat) : Detector :=
  if d.hears then
    { d with
      since := d.since.set b none
      segment := d.segment.map fun g => if g.band = b then { g with stopped := some now } else g }
  else d

/-- A band whose tone has been present since `limit` or before. -/
def presentSince (since : PerBand (Option Nat)) (limit : Nat) (b : Band) : Option Nat :=
  match since.get b with
  | some t => if t ≤ limit then some t else none
  | none => none

/-- The bands in the order of R13's choice: T2 before T1 before DIAL-BAND. -/
def bandOrder : List Band := [.t2, .t1, .dial]

/-- The band that qualifies first among those present long enough; of two that qualify together the first of `bandOrder` (R13, log 17). -/
def firstQualified (since : PerBand (Option Nat)) (now : Nat) : Option (Band × Nat) :=
  bandOrder.foldl
    (fun best b =>
      match since.get b, best with
      | some t, none => if t + qualifyTime ≤ now then some (b, t) else none
      | some t, some (c, u) => if t < u then some (b, t) else some (c, u)
      | none, best => best)
    none

/-- Tone has been present for 20 ms with no segment open: a segment opens, and an ONSET report is made (R13). -/
def Detector.qualify (d : Detector) (now : Nat) : Option (Detector × ToneReport) :=
  if d.hears && d.segment.isNone then
    match firstQualified d.since now with
    | some (b, t) => some ({ d with segment := some { band := b, onset := t, stopped := none } }, .onset b t)
    | none => none
  else none

/-- The band that opens its segment at once when another ends (R13): present since the end instant or before. -/
def successor (since : PerBand (Option Nat)) (endInstant : Nat) : Option Band :=
  bandOrder.find? fun b => (presentSince since endInstant b).isSome

/-- The open segment's tone has been absent for 20 ms: the END report, and the ONSET report of a segment that opens at once (R13, R14). -/
def Detector.ended (d : Detector) (now : Nat) : Option (Detector × ToneReport × Option ToneReport) :=
  match d.hears, d.segment with
  | true, some g =>
    match g.stopped with
    | some stop =>
      if stop + qualifyTime ≤ now then
        let report := ToneReport.ended g.band (duration g.onset stop) g.onset stop
        match successor d.since stop with
        | some b =>
          some ({ d with segment := some { band := b, onset := stop, stopped := none } }, report, some (.onset b stop))
        | none => some ({ d with segment := none }, report, none)
      else none
    | none => none
  | _, _ => none

end Sys2Proof.Machine
end

