-- ==== Sys2Proof/Machine/LineControl.lean ====
section
/-! DEFINITION. The Line Controller and the Supply Monitor (`02`): occupancy, faults, power, lending, granting and taking back a line. -/

namespace Sys2Proof.Machine

/-! ### Occupancy (R18) -/

/-- The class occupancy that a confirmed class gives (R18). -/
def ClassOcc.ofClass : LoopClass → ClassOcc
  | .unknown => .unknown
  | .onHook => .free
  | .offHook => .tenant
  | .ring => .ringing
  | .dead => .down

/-- The occupancy that shows a class occupancy. -/
def Occupancy.ofClassOcc : ClassOcc → Occupancy
  | .unknown => .unknown
  | .free => .free
  | .tenant => .tenant
  | .ringing => .ringing
  | .down => .down

/-- The occupancy: the first of R18's list that applies. A grant makes the line CALL before its context is created (R30). -/
def State.occupancyNow (s : State) (l : LineNo) : Occupancy :=
  let c := s.ctl l
  if !s.isFitted l || (!(s.t2 l).enabled && c.power == .off) then .offline
  else if c.lend = .lent then .lent
  else if c.grant.isSome || (s.call l).isSome then .call
  else Occupancy.ofClassOcc c.classOcc

/-- A LINE notice with the line's occupancy and fault status as they stand. -/
def State.lineNotice (s : State) (l : LineNo) : State :=
  s.notice (.line l (s.ctl l).occupancy (s.ctl l).fault)

/-- The occupancy is recomputed; a change sends a LINE notice and informs the Dispatcher (R18). -/
def State.recompute (s : State) (l : LineNo) : State :=
  let o := s.occupancyNow l
  if o = (s.ctl l).occupancy then s
  else ((s.setCtl l { s.ctl l with occupancy := o }).lineNotice l).tell

/-! ### Power and promotion (R24 to R29) -/

/-- 200 ms (R24). -/
def settleTime : Nat := 200

/-- A promotion begins to settle (R24). -/
def State.startPromotion (s : State) (l : LineNo) : State :=
  s.setCtl l { s.ctl l with promotion := .settling (s.now + settleTime) }

/-- A promotion is settling. -/
def Promotion.isSettling : Promotion → Bool
  | .settling _ => true
  | .none | .waiting => false

/-- Some line is READY or settles (R28). -/
def State.powerTaken (s : State) : Bool :=
  allLines.any fun l => (s.ctl l).power == .ready || (s.ctl l).promotion.isSettling

/-- With no line READY or settling, the first line on the waiting list starts its promotion and leaves the list (R28). -/
def State.startNext (s : State) : State :=
  if s.powerTaken then s
  else
    match s.waitList with
    | [] => s
    | l :: rest => (s.setWaitList rest).startPromotion l

/-- The line joins the end of the promotion waiting list (R28). -/
def State.joinWaitList (s : State) (l : LineNo) : State :=
  (s.setCtl l { s.ctl l with promotion := .waiting }).setWaitList (s.waitList ++ [l])

/-- A call in PREPARE needs its line READY (R25, R28, R105). -/
def State.needReady (s : State) (l : LineNo) : State :=
  match s.supply with
  | .normal => if (s.ctl l).promotion.isSettling then s else s.startPromotion l
  | .reserve => if s.powerTaken then s.joinWaitList l else s.startPromotion l

/-- The line leaves the waiting list, a settling promotion is abandoned, and READY steps down to SENSE, where the detector stops (R12, R24, R27, R28). -/
def State.stepDown (s : State) (l : LineNo) : State :=
  let c := s.ctl l
  let s1 := s.setCtl l { c with power := if c.power = .ready then .sense else c.power, promotion := .none }
  let s2 := if c.power = .ready then s1.setDetector l Detector.stopped else s1
  s2.setWaitList (s2.waitList.filter (· ≠ l))

/-- Under RESERVE a line whose call has ended gives up its power, which may start the next promotion (R28, R32). Under NORMAL a settling promotion runs on, a dropped call's too (R24, R25, log 39). -/
def State.yieldPower (s : State) (l : LineNo) : State :=
  match s.supply with
  | .reserve => (s.stepDown l).startNext
  | .normal => s

/-- What entering RESERVE does to one line (R27). -/
def State.reserveLine (s : State) (l : LineNo) : State :=
  match s.call l with
  | none => s.stepDown l
  | some _ => if (s.ctl l).promotion.isSettling then s.joinWaitList l else s

/-- What the return to NORMAL does to one line: a line in SENSE whose promotion is not settling starts one (R29, log 18). -/
def State.normalLine (s : State) (l : LineNo) : State :=
  if (s.ctl l).power = .sense ∧ (s.ctl l).promotion.isSettling = false then s.startPromotion l else s

/-! ### Lending (R34 to R36) -/

/-- The lend idle timer starts for the timeout of T1; a timeout of 0 leaves it idle (R36). -/
def State.lendTimerStart (s : State) : Option Nat :=
  if s.t1.lendIdle = 0 then none else some (s.now + s.t1.lendIdle * 1000)

/-- A lend begins: LENT, the idle timer if the class occupancy is FREE (R34, R36). -/
def State.beginLend (s : State) (l : LineNo) : State :=
  let c := s.ctl l
  (s.setCtl l
    { c with
      lend := .lent
      lendIdle := if c.classOcc = .free then s.lendTimerStart else none }).recompute l

/-- A lend ends (R35). -/
def State.endLend (s : State) (l : LineNo) : State :=
  ((s.setCtl l { s.ctl l with lend := .none, lendIdle := none }).recompute l).tell

/-- The class occupancy takes a value; on a LENT line the idle timer starts when it becomes FREE and becomes idle when it leaves FREE (R18, R36). -/
def State.setClassOcc (s : State) (l : LineNo) (o : ClassOcc) : State :=
  let c := s.ctl l
  if o = c.classOcc then s
  else
    (s.setCtl l
      { c with
        classOcc := o
        lendIdle := if c.lend = .lent ∧ o = .free then s.lendTimerStart else none }).recompute l

/-! ### Faults (R21 to R23) -/

/-- 300 s (R22, R23). -/
def probePeriod : Nat := 300000

/-- A CLASS report into or out of DEAD (R21). -/
def State.lineDownReports (s : State) (l : LineNo) (r : ClassReport) : State :=
  if r.new = .dead then
    (s.report (partReport .trouble .new 901 (num l))).faultActive .lineDown (num l)
  else if r.old = .dead then
    (s.report (partReport .trouble .restore 901 (num l))).faultCleared .lineDown (num l)
  else s

/-- Dial tone or second dial tone has been recognised on the line (R22). -/
def State.toneHeard (s : State) (l : LineNo) : State := s.setCtl l { s.ctl l with noTone := 0 }

/-- A REPORT call ended NO-DIAL-TONE or NO-SECOND-TONE (R22). -/
def State.countNoTone (s : State) (l : LineNo) : State :=
  let c := s.ctl l
  if c.fault = .noTone then s
  else if c.noTone + 1 < 3 then s.setCtl l { c with noTone := c.noTone + 1 }
  else
    let s1 := s.setCtl l { c with noTone := 3, fault := .noTone, probeTimer := some (s.now + probePeriod) }
    (((s1.lineNotice l).tell.report (partReport .trouble .new 902 (num l)))).faultActive .lineNoTone (num l)

/-- A probe's result at hand-back, or its drop (R23). -/
def State.probeResult (s : State) (l : LineNo) (result : Option CallResult) : State :=
  if result = some .probeOk then
    let s1 := s.setCtl l { s.ctl l with fault := .none, probeTimer := none }
    (((s1.lineNotice l).tell.report (partReport .trouble .restore 902 (num l)))).faultCleared .lineNoTone (num l)
  else s.setCtl l { s.ctl l with probeTimer := some (s.now + probePeriod) }

/-- The Line Controller applies a call's result (R32 step 1). -/
def State.lineResult (s : State) (l : LineNo) (p : Purpose) (result : Option CallResult) : State :=
  match p with
  | .probe => s.probeResult l result
  | .report =>
    if result = some .noDialTone ∨ result = some .noSecondTone then s.countNoTone l else s

/-! ### Enabling and disabling (R25) -/

/-- The line goes OFF: sensing returns to its starting values, the detector stops, faults are cleared, a lend is dropped (R10, R21, R23, R25). The fault status is NONE before the one LINE notice is formed (log 44). -/
def State.lineOff (s : State) (l : LineNo) : State :=
  let s1 := (s.setSense l Sense.reset).setDetector l Detector.stopped
  let s2 := s1.setCtl l
    { s1.ctl l with
      power := .off, promotion := .none, classOcc := .unknown, fault := .none, noTone := 0,
      probeTimer := none, lend := .none, lendIdle := none, grant := none, disablePending := false }
  let s3 := s2.setWaitList (s2.waitList.filter (· ≠ l))
  ((s3.recompute l).faultCleared .lineDown (num l)).faultCleared .lineNoTone (num l)

/-- A line that is enabled enters SENSE, and starts its promotion under NORMAL (R17, R25). -/
def State.lineOn (s : State) (l : LineNo) : State :=
  let s1 := s.setCtl l { s.ctl l with power := .sense }
  let s2 := if s.supply = .normal then s1.startPromotion l else s1
  s2.recompute l

/-- A SET of T2 changes a fitted line's enabled setting (R25). -/
def State.enabledChanged (s : State) (l : LineNo) (enabled : Bool) : State :=
  let c := s.ctl l
  if enabled then
    if c.disablePending then s.setCtl l { c with disablePending := false } else s.lineOn l
  else if c.occupancy = .call then s.setCtl l { c with disablePending := true }
  else if c.lend = .lent then (s.endLend l).lineOff l
  else s.lineOff l

/-! ### Granting and taking back (R30 to R33) -/

/-- The Line Controller would grant the line for a REPORT call (R30). -/
def State.grantable (s : State) (l : LineNo) (eligible : Bool) : Bool :=
  let c := s.ctl l
  c.fault == .none &&
    (c.occupancy == .free || (c.occupancy == .tenant && (s.t2 l).seizeTenant && eligible))

/-- The grant kind recorded (R30). -/
def State.grantKind (s : State) (l : LineNo) (eligible : Bool) : Grant :=
  if eligible && (s.t2 l).seizeTenant then .seizing else .trickle

/-- The rotation counter after a search that ended in a grant (R33). -/
def nextRotation (fitted c : Nat) : Nat := if c ≤ 1 then fitted else c - 1

/-- The line is granted: the kind is recorded, the line is CALL, the rotation counter moves (R30, R33). -/
def State.grant (s : State) (l : LineNo) (eligible : Bool) : State :=
  let s1 := s.setCtl l { s.ctl l with grant := some (s.grantKind l eligible) }
  (s1.recompute l).setRotation (nextRotation s.fitted s.rotation)

/-- The order of a search from counter value `c` (R33): c, c - 1, .., 1, then the fitted count down to c + 1. -/
def rotationOrder (fitted c : Nat) : List LineNo :=
  let down := fun n => ((List.range n).reverse.filterMap fun i => ofNum 4 (i + 1))
  down c ++ (down fitted).filter fun l => c < num l

/-- The line is handed back (R31, R32): the result is applied, under RESERVE the power is given up, a pending disable takes the line OFF, a pending lend begins, and the occupancy is recomputed. -/
def State.handBack (s : State) (l : LineNo) (p : Purpose) (result : Option CallResult) : State :=
  let s1 := (s.lineResult l p result).setCall l none
  let s2 := s1.setCtl l { s1.ctl l with grant := none }
  let s3 := s2.yieldPower l
  if (s3.ctl l).disablePending then (s3.lineOff l).tell
  else if (s3.ctl l).lend = .pending then (s3.beginLend l).tell
  else (s3.recompute l).tell

end Sys2Proof.Machine
end

