-- ==== Sys2Proof/Machine/CallControl.lean ====
section
/-! DEFINITION. The Call Controller (`07`, `08`): taking the line, dialling, the tone record, results and release, sends and replies. -/

namespace Sys2Proof.Machine

/-! ### Times of `07` and `08`, in ms -/

def cleardownTime : Nat := 1500
def dialtoneTime : Nat := 5000
def toneMark : Nat := 800
def dialToneTime : Nat := 80
def dialGapTime : Nat := 80
def pauseTime : Nat := 2000
def ringWaitTime : Nat := 45000
def handshakeTime : Nat := 20000
def guardTime : Nat := 2000
def delayTime : Nat := 250
def retryTime : Nat := 250
def gapTime : Nat := 250
def blockToneTime : Nat := 50
def blockGapTime : Nat := 50
def replyWindow : Nat := 1500
def replyTime : Nat := 1540
def overrunTime : Nat := 1140

/-! ### Access -/

/-- The call of a line changed, if there is one. -/
def State.modCall (s : State) (l : LineNo) (f : Call → Call) : State := s.setCall l ((s.call l).map f)

/-- The call enters a state, with the state timer to run for some ms. -/
def State.enterState (s : State) (l : LineNo) (st : CallState) (ms : Nat) : State :=
  s.modCall l fun c => { c with state := st, stateTimer := some (s.now + ms) }

/-- The tone sender's symbol, none for silence. -/
def State.setSender (s : State) (l : LineNo) (symbol : Option Nat) : State :=
  s.setIface l { (s.line l).iface with sender := symbol }

/-- A tone record that has heard nothing. -/
def ToneRecord.fresh : ToneRecord :=
  { openSegment := none, lastEnd := none, busyRun := 0, busyCandidate := none, ringFrom := 0 }

/-- A new call context (R104). -/
def Call.create (p : Purpose) (e : Option RxNo) (lendPending : Bool) : Call :=
  { purpose := p, receiver := e, state := .prepare, seizedAt := none, dialString := [], dialPos := 0,
    blocksAccepted := 0, sendCount := none, lendPending, cutShort := false, result := none,
    stateTimer := none, limitTimer := none, tone := ToneRecord.fresh }

/-- The result that an event gives: every end of a probe but PROBE-OK is PROBE-FAILED (R130). -/
def Call.resultOf (c : Call) (res : CallResult) : CallResult :=
  match c.purpose with
  | .report => res
  | .probe => if res = .probeOk then .probeOk else .probeFailed

/-! ### Results and release (R114, R127, R128) -/

/-- The call ends: a CALL-END notice if it has a result, the hand-back to the Line Controller, and the result to the Route Unit (R88, R114, R128, log 25). -/
def State.endContext (s : State) (l : LineNo) (c : Call) (result : Option CallResult) : State :=
  let s1 := match result with
    | some res => s.notice (.callEnd l c.receiver res c.blocksAccepted)
    | none => s
  let s2 := s1.handBack l c.purpose result
  match c.receiver with
  | some e => s2.receiverResult e result
  | none => s2

/-- The result of a call that has taken the line is set (R127): timers and sender stop, the slots are returned, the line goes on-hook, and the release guard begins. A tone segment that the detector discards stays in the call's tone record (log 45). -/
def State.releaseCall (s : State) (l : LineNo) (c : Call) (res : CallResult) : State :=
  let s1 := (s.setBusy true).setSender l none
  let s2 := (s1.returnAll (s1.line l).sending.tickets).returnAll (s1.line l).next.tickets
  let s3 := ((s2.setSlots l Slot.empty Slot.empty).setIface l Iface.reset).setDetector l Detector.stopped
  let s4 := s3.setCall l
    (some { c with state := .release, stateTimer := some (s.now + guardTime), limitTimer := none, result := some res })
  (s4.setBusy false).drain

/-- An event gives the call a result. A call in PREPARE ends at once (R114); in RELEASE the result stands (R127). -/
def State.giveResult (s : State) (l : LineNo) (res : CallResult) : State :=
  match s.call l with
  | none => s
  | some c =>
    match c.state with
    | .prepare => s.endContext l c (some (c.resultOf res))
    | .release => s
    | _ => s.releaseCall l c (c.resultOf res)

/-- A call in PREPARE is dropped with no result (R31, R106). -/
def State.dropCall (s : State) (l : LineNo) : State :=
  match s.call l with
  | some c => s.endContext l c none
  | none => s

/-! ### Taking the line (R114, R115, R116) -/

/-- The line goes off-hook, the detector begins to listen, and the call enters DIALTONE (R116). -/
def State.enterDialtone (s : State) (l : LineNo) : State :=
  let s1 := s.setIface l { (s.line l).iface with offHook := true }
  let s2 := s1.setDetector l (Detector.listen (s1.line l).toneOn s1.now)
  s2.enterState l .dialtone dialtoneTime

/-- The Call Controller takes the line (R114). -/
def State.takeLine (s : State) (l : LineNo) : State :=
  let s1 := s.setIface l { (s.line l).iface with relayOpen := true }
  let s2 := s1.modCall l fun c =>
    { c with
      seizedAt := some s.clock
      limitTimer := match c.purpose with
        | .report => some (s.now + s.t1.callLimit * 1000)
        | .probe => none }
  if (s.ctl l).classOcc = .tenant then s2.enterState l .cleardown cleardownTime else s2.enterDialtone l

/-- A call context has been created in PREPARE: with lend-pending set it ends at once, on a READY line it takes the line, otherwise the line is promoted or waits (R104, R105, R114). -/
def State.startCall (s : State) (l : LineNo) (c : Call) : State :=
  let s1 := s.setCall l (some c)
  if c.lendPending then s1.giveResult l .cutShort
  else if (s1.ctl l).power = .ready then s1.takeLine l
  else s1.needReady l

/-! ### Tone reports (R116 to R122, R141, R142) -/

/-- Busy tone at an END report in RING-WAIT (R120): whether the segment counts, is of DIAL-BAND, and its duration decide. -/
def ToneRecord.busyEnd (t : ToneRecord) (b : Band) (ms onset stop : Nat) : ToneRecord :=
  if b = .dial ∧ 350 ≤ ms ∧ ms ≤ 650 ∧ t.ringFrom ≤ onset then { t with busyCandidate := some stop }
  else { t with busyRun := 0, busyCandidate := none }

/-- Busy tone at an ONSET report in RING-WAIT (R120). -/
def ToneRecord.busyOnset (t : ToneRecord) (onset : Nat) : ToneRecord :=
  match t.busyCandidate with
  | none => t
  | some stop =>
    if 350 ≤ onset - stop ∧ onset - stop ≤ 650 then { t with busyRun := t.busyRun + 1, busyCandidate := none }
    else { t with busyRun := 0, busyCandidate := none }

/-- A segment whose reply counts: T2, its onset within the reply window (R141). -/
def counting (opened : Nat) (b : Band) (onset : Nat) : Bool :=
  b == .t2 && decide (opened ≤ onset) && decide (onset ≤ opened + replyWindow)

/-- The send is not accepted (R143, R146): RETRY, or at the third send the end of the call. -/
def State.sendFailed (s : State) (l : LineNo) (c : Call) : State :=
  if c.sendCount.getD 0 < 3 then s.enterState l (.exchange .retry) retryTime
  else s.giveResult l (if c.lendPending || c.cutShort then .cutShort else .blockFailed)

/-- ACCEPT recognised (R144). With SENDING empty the send count is absent until the next first send (R113, log 41). -/
def State.acceptBlock (s : State) (l : LineNo) (c : Call) (e : RxNo) : State :=
  let s1 := (s.setBusy true).modCall l fun c =>
    { c with blocksAccepted := min 255 (c.blocksAccepted + 1), sendCount := none }
  let s2 := (s1.applyAccept e (s1.line l).sending.tickets).resetFailures e
  let s3 := s2.setSlots l Slot.empty (s2.line l).next
  let s4 :=
    if c.lendPending || c.cutShort then s3.giveResult l .cutShort
    else if (s3.line l).next.tickets = [] then s3.giveResult l .complete
    else s3.enterState l (.exchange .gap) gapTime
  (s4.setBusy false).drain

/-- An END report in phase REPLY (R141, R142). -/
def State.replyEnd (s : State) (l : LineNo) (c : Call) (opened : Nat) (b : Band) (ms onset : Nat) : State :=
  if counting opened b onset && decide (600 ≤ ms) && decide (ms ≤ 1100) then
    match c.receiver with
    | some e => s.acceptBlock l c e
    | none => s
  else if counting opened b onset && decide (150 ≤ ms) && decide (ms ≤ 400) then s.sendFailed l c
  else if c.stateTimer = none then s.sendFailed l c
  else s

/-- A report of the detector reaches the Call Controller. The busy run that reaches 3 stays 3 in the tone record of the call in RELEASE (log 37). -/
def State.toneReport (s : State) (l : LineNo) (r : ToneReport) : State :=
  match s.call l with
  | none => s
  | some c =>
    match r with
    | .onset b onset =>
      let heard := { c.tone with openSegment := some (b, onset) }
      if c.state = .ringWait then
        let tone := heard.busyOnset onset
        let s1 := s.setCall l (some { c with tone })
        if 3 ≤ tone.busyRun then s1.giveResult l .busy else s1
      else s.setCall l (some { c with tone := heard })
    | .ended b ms onset stop =>
      let heard := { c.tone with openSegment := none, lastEnd := some (b, ms, stop) }
      match c.state with
      | .ringWait => s.setCall l (some { c with tone := heard.busyEnd b ms onset stop })
      | .handshake =>
        let s1 := s.setCall l (some { c with tone := heard })
        if b = .t1 ∧ 400 ≤ ms ∧ ms ≤ 3000 then s1.enterState l (.exchange .delay) delayTime else s1
      | .exchange (.reply opened) =>
        let c1 := { c with tone := heard }
        (s.setCall l (some c1)).replyEnd l c1 opened b ms onset
      | _ => s.setCall l (some { c with tone := heard })

/-- The part begins to send tone on the line: the detector is muted, and an open segment ends (R15). -/
def State.mute (s : State) (l : LineNo) : State :=
  let (d, report) := (s.detector l).mute s.now
  let s1 := s.setDetector l d
  match report with
  | some r => s1.toneReport l r
  | none => s1

/-- The last gap is over: the detector hears again (R15). -/
def State.unmute (s : State) (l : LineNo) : State :=
  s.setDetector l ((s.detector l).unmute (s.line l).toneOn s.now)

/-- A DIAL-BAND segment has been open for 800 ms (R116, R119). -/
def dialToneHeard (t : ToneRecord) (now : Nat) : Bool :=
  match t.openSegment with
  | some (b, onset) => b == .dial && decide (onset + toneMark ≤ now)
  | none => false

/-! ### Dialling (R117 to R121) -/

/-- The codes of '-' and 'W' (`09` section 9.7). -/
def pauseSymbol : Nat := 12
def waitSymbol : Nat := 13

/-- RING-WAIT is entered (R120, R121). -/
def State.enterRingWait (s : State) (l : LineNo) : State :=
  (s.modCall l fun c =>
    { c with tone := { c.tone with busyRun := 0, busyCandidate := none, ringFrom := s.now } }).enterState
      l .ringWait ringWaitTime

/-- The next symbol of what remains of the dial string begins, or RING-WAIT (R117, R119). A 'W' that finds second dial tone already heard is recognised at once. -/
def State.beginSymbols (l : LineNo) : List Nat → State → State
  | [], s => (s.unmute l).enterRingWait l
  | d :: rest, s =>
    if d = waitSymbol then
      let s1 := s.unmute l
      if (s1.call l).any fun c => dialToneHeard c.tone s1.now then
        State.beginSymbols l rest ((s1.toneHeard l).modCall l fun c => { c with dialPos := c.dialPos + 1 })
      else s1.enterState l .secondTone dialtoneTime
    else if d = pauseSymbol then (s.unmute l).enterState l .dialling pauseTime
    else ((s.setSender l (some d)).enterState l .dialling dialToneTime).mute l

/-- The symbol being dialled is finished: the dial position advances and the next begins (R117). -/
def State.advanceDial (s : State) (l : LineNo) : State :=
  match s.call l with
  | some c => State.beginSymbols l (c.dialString.drop (c.dialPos + 1)) (s.modCall l fun c => { c with dialPos := c.dialPos + 1 })
  | none => s

/-- DIALLING is entered: prefix and number are read, and an empty number ends the call CUT-SHORT (R117). -/
def State.beginDialling (s : State) (l : LineNo) (e : RxNo) : State :=
  let dialString := (s.t2 l).dialPrefix ++ (s.t3 e).dialNumber
  let s1 := s.modCall l fun c => { c with state := .dialling, stateTimer := none, dialString, dialPos := 0 }
  if (s.t3 e).dialNumber = [] then s1.giveResult l .cutShort else State.beginSymbols l dialString s1

/-! ### Sends (R136, R140, R145) -/

/-- A send of the SENDING block begins (R132, R140). -/
def State.beginSend (s : State) (l : LineNo) (count : Nat) : State :=
  let s1 := (s.setSender l (s.line l).sending.block.head?).modCall l fun c => { c with sendCount := some count }
  (s1.enterState l (.exchange (.transmit 0)) blockToneTime).mute l

/-- A block symbol's gap has ended: the next symbol, or the reply window (R140). -/
def State.nextBlockSymbol (s : State) (l : LineNo) (sent : Nat) : State :=
  match (s.line l).sending.block[sent + 1]? with
  | some d => (s.setSender l (some d)).enterState l (.exchange (.transmit (sent + 1))) blockToneTime
  | none => (s.unmute l).enterState l (.exchange (.reply s.now)) replyTime

/-! ### Flags and line reports (R115, R123 to R125, R146) -/

/-- A flag, lend-pending or cut-short, has been set: what it does at once in the call's state (R114, R124, R125, R135, R146). -/
def State.flagSet (s : State) (l : LineNo) : State :=
  match s.call l with
  | none => s
  | some c =>
    match c.state with
    | .exchange .delay | .exchange .gap => s.giveResult l .cutShort
    | .exchange _ => s
    | .release => s
    | _ => s.giveResult l .cutShort

/-- A CLASS report reaches a call that has taken the line (R115, R123, R128). -/
def State.callClass (s : State) (l : LineNo) (new : LoopClass) : State :=
  match s.call l with
  | none => s
  | some c =>
    match c.state, new with
    | .prepare, _ => s
    | .release, _ => s
    | .cleardown, .dead => s.giveResult l .lineDown
    | .cleardown, .ring => s.giveResult l .lineDown
    | .cleardown, _ => s
    | _, .offHook => s
    | _, .unknown => s
    | _, _ => s.giveResult l .lineDown

/-- A POLARITY report reaches the call: in RING-WAIT the answer indication (R121, R123). The busy run is not cleared on entering HANDSHAKE, only left alone there (log 46). -/
def State.callPolarity (s : State) (l : LineNo) : State :=
  match s.call l with
  | none => s
  | some c => if c.state = .ringWait then s.enterState l .handshake handshakeTime else s

/-- The class occupancy has changed under a call in PREPARE: the Dispatcher drops a REPORT call, the Line Controller a probe (R31, R106). -/
def State.prepareChange (s : State) (l : LineNo) : State :=
  match s.call l with
  | none => s
  | some c =>
    if c.state = .prepare then
      match c.purpose, (s.ctl l).classOcc, (s.ctl l).grant with
      | .probe, .free, _ => s
      | .probe, _, _ => s.dropCall l
      | .report, .ringing, _ => s.dropCall l
      | .report, .down, _ => s.dropCall l
      | .report, .tenant, some .seizing => s
      | .report, .tenant, _ => s.dropCall l
      | .report, .free, _ => s
      | .report, .unknown, _ => s
    else s

/-- The class occupancy a CLASS report gives (R18, R19): RINGING is left only on DEAD and on a settling window's report. -/
def classOccAfter (old : ClassOcc) (r : ClassReport) : ClassOcc :=
  if old = .ringing ∧ r.settling = false ∧ (r.new = .onHook ∨ r.new = .offHook) then .ringing
  else ClassOcc.ofClass r.new

/-- A CLASS report (R18 to R21, R31, R123): class occupancy and occupancy, the line-down reports, then the call. -/
def State.classReport (s : State) (l : LineNo) (r : ClassReport) : State :=
  let old := (s.ctl l).classOcc
  let s1 := s.setClassOcc l (classOccAfter old r)
  let s2 := s1.lineDownReports l r
  let s3 := if classOccAfter old r = old then s2 else s2.prepareChange l
  s3.callClass l r.new

/-- A RING-OFF report carrying a confirmed class (R19): it ends RINGING, but for RING, whose settling window is awaited. -/
def State.ringOffReport (s : State) (l : LineNo) (carried : LoopClass) : State :=
  if (s.ctl l).classOcc = .ringing ∧ carried ≠ .ring then
    (s.setClassOcc l (ClassOcc.ofClass carried)).prepareChange l
  else s

end Sys2Proof.Machine
end

