-- ==== Sys2Proof/Machine/Inputs.lean ====
section
/-! DEFINITION. The Input Monitor (`03`): readings, confirmation, reconciliation, latching, isolation and forcing. -/

namespace Sys2Proof.Machine

/-! ### Readings and confirmation (R39, R40) -/

/-- The measured class of a reading code (R39). -/
def InputClass.ofCode (code : Nat) : InputClass :=
  if code < 100 then .shortLoop else if code < 400 then .normal else if code < 800 then .active else .openLoop

/-- One reading of class `m` applied to a channel whose debounce setting is `d`, and whether it confirms (R40). -/
def InputChannel.read (x : InputChannel) (d : Nat) (m : InputClass) : InputChannel × Bool :=
  if m = x.confirmed then ({ x with measured := m, candidate := none, debounce := none }, false)
  else
    let held := if x.candidate = some m then x.debounce.getD 0 + 20 else 0
    if d ≤ held then ({ x with measured := m, candidate := none, debounce := none, confirmed := m }, true)
    else ({ x with measured := m, candidate := some m, debounce := some held }, false)

/-- A channel is reporting: neither isolated nor forced (R41). -/
def InputChannel.reporting (x : InputChannel) : Bool := !x.isolated && x.force == .none

/-- The effective state (R49). -/
def InputChannel.effective (x : InputChannel) : InputClass :=
  match x.force with
  | .none => x.confirmed
  | .normal => .normal
  | .active => .active

/-! ### Reports (R44, R47 to R49) -/

/-- An active event report of a channel (R44). -/
def T6.activeReport (e : T6) (q : Qualifier) : Report :=
  { cls := e.cls, qualifier := q, source := .input, sourceNumber := e.sourceNumber, event := e.event, zone := e.zone }

/-- A wiring report of a channel (R44). -/
def T6.wiringReport (e : T6) (code : Nat) (q : Qualifier) : Report :=
  { cls := .trouble, qualifier := q, source := .input, sourceNumber := e.sourceNumber, event := code, zone := e.zone }

/-- A test report of a channel (R49). -/
def T6.testReport (e : T6) (q : Qualifier) : Report := { e.activeReport q with cls := .routine }

/-- The reports of the wiring part of a reconciliation, in order, the reported wiring after it, and whether CHANNEL-WIRING is then active (R42); none when nothing differs. -/
def wiringChange (e : T6) (confirmed : InputClass) (reported : Wiring) : Option (List Report × Wiring × Bool) :=
  match confirmed, reported with
  | .openLoop, .none => some ([e.wiringReport e.openCode .new], .openLoop, true)
  | .openLoop, .shortLoop =>
    some ([e.wiringReport e.shortCode .restore, e.wiringReport e.openCode .new], .openLoop, true)
  | .openLoop, .openLoop => none
  | .shortLoop, .none => some ([e.wiringReport e.shortCode .new], .shortLoop, true)
  | .shortLoop, .openLoop =>
    some ([e.wiringReport e.openCode .restore, e.wiringReport e.shortCode .new], .shortLoop, true)
  | .shortLoop, .shortLoop => none
  | .normal, .openLoop | .active, .openLoop => some ([e.wiringReport e.openCode .restore], .none, false)
  | .normal, .shortLoop | .active, .shortLoop => some ([e.wiringReport e.shortCode .restore], .none, false)
  | .normal, .none | .active, .none => none

/-- The wiring part of a reconciliation (R42): its reports, then its fault entry (log 30). -/
def State.reconcileWiring (s : State) (c : ChannelNo) : State :=
  match wiringChange (s.t6 c) (s.channel c).confirmed (s.channel c).wiring with
  | none => s
  | some (reports, wiring, active) =>
    let s1 := reports.foldl State.report (s.setChannel c { s.channel c with wiring })
    if active then s1.faultActive .channelWiring (num c) else s1.faultCleared .channelWiring (num c)

/-- The alarm part of a reconciliation (R43, R45). -/
def State.reconcileAlarm (s : State) (c : ChannelNo) : State :=
  let x := s.channel c
  let e := s.t6 c
  match x.confirmed, x.alarm, x.latched with
  | .active, false, _ =>
    (s.setChannel c { x with alarm := true, latched := x.latched || e.latching }).report (e.activeReport .new)
  | .normal, true, false =>
    let s1 := s.setChannel c { x with alarm := false }
    if e.restoreReporting then s1.report (e.activeReport .restore) else s1
  | _, _, _ => s

/-- A channel is reconciled: the wiring part first, the alarm part second (R42, R43). -/
def State.reconcile (s : State) (c : ChannelNo) : State := (s.reconcileWiring c).reconcileAlarm c

/-! ### Forcing (R49 to R52) -/

/-- The force of a channel takes a value: the test report, and the reconciliation of a channel that is no longer forced and not isolated (R49). -/
def State.setForce (s : State) (c : ChannelNo) (f : Force) : State :=
  let x := s.channel c
  if x.force = f then s
  else
    let s1 := s.setChannel c { x with force := f }
    let s2 :=
      if f = .active then s1.report ((s.t6 c).testReport .testNew)
      else if x.force = .active then s1.report ((s.t6 c).testReport .testRestore)
      else s1
    if f = .none ∧ x.isolated = false then s2.reconcile c else s2

/-- Every force is released, from channel 1 to 8 (R52). -/
def State.releaseAll (s : State) : State := allChannels.foldl (fun s c => s.setForce c .none) s

/-- The FIRE interlock at a confirmation (R51). -/
def State.interlock (s : State) (c : ChannelNo) : State :=
  if (s.t6 c).cls = .fire ∧ (s.channel c).force = .normal ∧ (s.channel c).confirmed = .active then
    s.setForce c .none
  else s

/-- One reading of a channel (R39 to R41, R51). -/
def State.inputReading (s : State) (c : ChannelNo) (code : Nat) : State :=
  let (x, confirms) := (s.channel c).read (s.t6 c).debounce (InputClass.ofCode code)
  let s1 := s.setChannel c x
  if confirms then
    let s2 := s1.notice (.input c x.confirmed)
    if x.reporting then s2.reconcile c else s2.interlock c
  else s1

/-! ### Latching and isolation (R46 to R48) -/

/-- A channel is isolated (R47). -/
def State.isolateChannel (s : State) (c : ChannelNo) : State :=
  let x := s.channel c
  let s1 := if x.force = .active then s.report ((s.t6 c).testReport .testRestore) else s
  (s1.setChannel c { x with force := .none, isolated := true }).report (partReport .trouble .new 905 (num c))

/-- A channel is put back into supervision (R48). -/
def State.deIsolateChannel (s : State) (c : ChannelNo) : State :=
  ((s.setChannel c { s.channel c with isolated := false }).report (partReport .trouble .restore 905 (num c))).reconcile c

/-- A latch is cleared (R46). -/
def State.unlatchChannel (s : State) (c : ChannelNo) : State :=
  let x := s.channel c
  let s1 := s.setChannel c { x with latched := false }
  if x.reporting then s1.reconcile c else s1

end Sys2Proof.Machine
end

