-- ==== Sys2Proof/Machine/Dispatcher.lean ====
section
/-! DEFINITION. The Dispatcher (`06`): the gate, the selection pass, URGENT-PENDING, the held-back list and the grace reclaim; and the exit from SERVICE (`10` R172), whose last step is the gate. -/

namespace Sys2Proof.Machine

def State.setDispatcher (s : State) (d : Dispatcher) : State := { s with dispatcher := d }

/-! ### The selection pass (R100 to R104) -/

/-- The record is WAITING and its target is READY; the target. -/
def State.readyTarget (s : State) (r : Record) : Option RxNo :=
  if r.state = .waiting then
    match s.target r with
    | some e => if (s.rx e).state = .ready then some e else none
    | none => none
  else none

/-- The chosen record: the first in queue order that is WAITING with a READY target (R100). -/
def State.chosen (s : State) : Option (Record × RxNo) :=
  s.inOrder.findSome? fun r => (s.readyTarget r).map fun e => (r, e)

/-- The line the search ends on (R102): in rotation order the first FREE line that would be granted, else the first TENANT line that would be. -/
def State.searchLine (s : State) (eligible : Bool) : Option LineNo :=
  let order := rotationOrder s.fitted s.rotation
  match order.find? fun l => (s.ctl l).occupancy == .free && s.grantable l eligible with
  | some l => some l
  | none => order.find? fun l => (s.ctl l).occupancy == .tenant && s.grantable l eligible

/-- The line is given back after a grant that led to no call (R103). -/
def State.giveBack (s : State) (l : LineNo) : State :=
  ((s.setCtl l { s.ctl l with grant := none }).recompute l).tell

/-- A selection pass (R100); each round starts a call on one of at most four lines, and the fuel exceeds their number. -/
def State.passFuel : Nat → State → State
  | 0, s => s
  | n + 1, s =>
    match s.chosen with
    | none => s
    | some (r, e) =>
      match s.searchLine (s.eligible r) with
      | none => s
      | some l =>
        let s1 := s.grant l (s.eligible r)
        match s1.makeCalling e with
        | some s2 =>
          State.passFuel n (s2.startCall l (Call.create .report (some e) ((s2.ctl l).lend == .pending)))
        | none => State.passFuel n (s1.giveBack l)

def State.pass (s : State) : State := s.passFuel 8

/-! ### URGENT-PENDING, the held-back list and the FIRE-wait timer (R37, R108 to R110) -/

/-- The lines that are LENT. -/
def State.lentLines (s : State) : List LineNo := allLines.filter fun l => (s.ctl l).lend == .lent

/-- The records that a lend could hold back: WAITING, seize-eligible, with a READY target (R37). -/
def State.urgentRecords (s : State) : List Record :=
  s.inOrder.filter fun r => (s.readyTarget r).isSome && s.eligible r

/-- The URGENT-PENDING condition (R37). -/
def State.urgentNow (s : State) : Bool :=
  s.dispatcher.gateOpen && !s.urgentRecords.isEmpty && !(allLines.any fun l => s.isFitted l && s.grantable l true)
    && !s.lentLines.isEmpty

/-- The condition is evaluated; when it begins, one notice names the first such record and the LENT lines (R37, R108). -/
def State.evaluateUrgent (s : State) : State :=
  let s1 := s.setDispatcher { s.dispatcher with urgent := s.urgentNow }
  match s.dispatcher.urgent, s.urgentNow, s.urgentRecords with
  | false, true, r :: _ => s1.notice (.urgentPending r.ticket r.report.cls s.lentLines)
  | _, _, _ => s1

/-- The tickets of the records held back, in queue order (R109). -/
def State.heldBack (s : State) : List Nat :=
  if s.dispatcher.urgent then
    (s.inOrder.filter fun r => r.report.cls == .fire && (s.readyTarget r).isSome).map Record.ticket
  else []

/-- The held-back list brought up to date (R109). -/
def State.heldAfter (s : State) : List (Nat × Nat) :=
  let kept := s.dispatcher.held.filter fun x => s.heldBack.contains x.1
  kept ++ ((s.heldBack.filter fun t => !(kept.any fun x => x.1 == t)).map fun t => (t, s.clock))

/-- The expiry of the FIRE-wait timer for a held-back list (R110). -/
def fireExpiry (grace : Nat) (held : List (Nat × Nat)) : Option Nat :=
  match held with
  | [] => none
  | (_, since) :: _ => if grace = 0 then none else some (since + grace)

/-- The FIRE-wait timer follows the list and the grace; an expiry that has passed after a move, or after an expiry, is taken at once (R110). -/
def State.settleFireTimer (s : State) : State :=
  let x := fireExpiry s.t1.lendGrace s.dispatcher.held
  let s1 := s.setDispatcher { s.dispatcher with fireTimer := x }
  if expired x s.clock && (decide (x ≠ s.dispatcher.fireTimer) || s.work.expired) then
    s1.setWork { s1.work with fireDue := true }
  else s1

/-- The held-back list and the timer after an act (R109, R110). -/
def State.settleHeld (s : State) : State :=
  (s.setDispatcher { s.dispatcher with held := s.heldAfter }).settleFireTimer

/-! ### Acting (R99) -/

/-- The Dispatcher acts once (R99). -/
def State.act (s : State) : State :=
  let s1 := s.setWork { s.work with told := false }
  ((if s1.dispatcher.gateOpen then s1.pass else s1).evaluateUrgent).settleHeld

/-- The expiry of the FIRE-wait timer: the lowest-numbered LENT line ends its lend, and the Dispatcher is told (R38, R110). -/
def State.graceReclaim (s : State) : State :=
  let s1 := s.setWork { s.work with fireDue := false, expired := true }
  match s1.lentLines with
  | [] => s1.tell
  | l :: _ => (s1.endLend l).tell

/-- The Dispatcher takes what it has been told, and expiries of its own timer, until nothing is left. A grace reclaim takes one of four lends and an act starts a call on one of four lines or changes nothing, so the fuel exceeds what can happen. -/
def State.actFuel : Nat → State → State
  | 0, s => s
  | n + 1, s =>
    if s.work.fireDue then State.actFuel n s.graceReclaim
    else if s.work.told then State.actFuel n s.act
    else s

/-! ### The gate (R75, R97, R98) -/

/-- The expiry of the periodic test timer started now; a test interval of 0 keeps it stopped (R75). -/
def State.testExpiry (s : State) : Option Nat :=
  if s.t1.testInterval = 0 then none else some (s.now + s.t1.testInterval * 3600000)

/-- The gate opens: the queue is told, and the Dispatcher acts (R97). -/
def State.openGate (s : State) : State :=
  let s1 := s.setDispatcher { s.dispatcher with gateOpen := true }
  let s2 :=
    if s.queue.gateOpened then s1
    else s1.setQueue { s1.queue with gateOpened := true, testTimer := s.testExpiry }
  s2.tell

/-- The gate closes: the condition is false without a notice, the list empty, the timer idle (R98). -/
def State.closeGate (s : State) : State :=
  s.setDispatcher { gateOpen := false, urgent := false, held := [], fireTimer := none }

/-- The gate recomputed from mode and hold (R97). -/
def State.settleGate (s : State) : State :=
  let wanted := s.mode == .operate && s.hold == .released
  if wanted = s.dispatcher.gateOpen then s else if wanted then s.openGate else s.closeGate

/-! ### The exit from SERVICE (R52, R95, R172) and the end of a command -/

/-- The exit from SERVICE (R172). -/
def State.serviceExit (s : State) (cause : ModeCause) : State :=
  let s1 := s.setMode .operate
  let s2 := s1.notice (.mode .operate s1.hold cause)
  (((s2.evaluateRoutes.rebuild).reexamine).releaseAll).settleGate

/-- A FIRE record has entered in SERVICE: the forced exit (R171). -/
def State.settleExit (s : State) : State :=
  let s1 := s.setWork { s.work with exitDue := false }
  if s.work.exitDue ∧ s.mode = .service then s1.serviceExit .fire else s1

/-- The end of a command's work: a forced exit that is due, what the Call Controllers still have to take, and the acts of the Dispatcher (log 4). -/
def State.settle (s : State) : State :=
  (s.settleExit.drain.actFuel 64).setWork Work.idle

end Sys2Proof.Machine
end

