-- ==== Sys2Proof/Machine/Settings.lean ====
section
/-! DEFINITION. The Settings Store and Loader (`10`): GET and SET, the store's arrangement, SAVE, and the load. -/

namespace Sys2Proof.Machine

/-! ### The shape of the tables (`09` section 9.7) -/

/-- The size of a table in entries; 0 for a number that names none. -/
def tableSize : Nat → Nat
  | 1 => 1
  | 2 => 4
  | 3 => 12
  | 4 => 8
  | 5 => 5
  | 6 => 8
  | _ => 0

/-- The bytes of an entry image. -/
def entrySize : Nat → Nat
  | 1 => 18
  | 2 => 7
  | 3 => 32
  | 4 => 2
  | 5 => 1
  | 6 => 15
  | _ => 0

/-- The most entries of one frame. -/
def perFrame : Nat → Nat
  | 1 => 1
  | 2 => 4
  | 3 => 6
  | 4 => 8
  | 5 => 5
  | 6 => 8
  | _ => 0

/-- The entry images of a table, in order. -/
def Tables.images (t : Tables) : Nat → List (List Byte)
  | 1 => [t.t1.image]
  | 2 => t.t2.toList.map T2.image
  | 3 => t.t3.toList.map T3.image
  | 4 => t.t4.toList.map T4.image
  | 5 => t.t5.toList.map T5.image
  | 6 => t.t6.toList.map T6.image
  | _ => []

/-- One entry image decoded into a table at a place counted from 0, and whether a setting was clamped or rounded; none when a coded setting is outside its codes (R165). -/
def Tables.write (t : Tables) (table i : Nat) (image : List Byte) : Option (Tables × Bool) :=
  match table with
  | 1 => (T1.decode image).map fun (e, f) => ({ t with t1 := e }, f)
  | 2 => (T2.decode image).map fun (e, f) => ({ t with t2 := t.t2.setIfInBounds i e }, f)
  | 3 => (T3.decode image).map fun (e, f) => ({ t with t3 := t.t3.setIfInBounds i e }, f)
  | 4 => (T4.decode image).map fun (e, f) => ({ t with t4 := t.t4.setIfInBounds i e }, f)
  | 5 => (T5.decode image).map fun (e, f) => ({ t with t5 := t.t5.setIfInBounds i e }, f)
  | 6 => (T6.decode image).map fun (e, f) => ({ t with t6 := t.t6.setIfInBounds i e }, f)
  | _ => none

/-- Entry images decoded one after another from a place on; an image at a place that `skip` names is checked and not written (R167). -/
def Tables.writeAll (table : Nat) (skip : Nat → Bool) : Nat → List (List Byte) → Tables → Option (Tables × Bool)
  | _, [], t => some (t, false)
  | i, image :: rest, t =>
    match t.write table i image with
    | none => none
    | some (t1, f) =>
      (Tables.writeAll table skip (i + 1) rest (if skip i then t else t1)).map fun (t2, g) => (t2, f || g)

/-- The first `count` pieces of `n` bytes. -/
def pieces (n count : Nat) (bs : List Byte) : List (List Byte) :=
  (List.range count).map fun i => (bs.drop (i * n)).take n

/-! ### GET (R166) -/

/-- The range check of GET and SET: table, count, first entry (R166). -/
def rangeOk (table first count : Nat) : Bool :=
  decide (1 ≤ table) && decide (table ≤ 6) && decide (1 ≤ count) && decide (count ≤ perFrame table)
    && decide (1 ≤ first) && decide (first + count - 1 ≤ tableSize table)

/-- The image of an entry as GET returns it: zeros for a T2 entry of a line beyond the fitted count (R166). -/
def State.getImage (s : State) (table i : Nat) : List Byte :=
  if table = 2 ∧ s.fitted ≤ i then List.replicate 7 0 else (s.tables.images table).getD i []

/-- The answer to GET. -/
def State.getAnswer (s : State) (table first count : Nat) : Answer :=
  if rangeOk table first count then
    .withFields
      ([u8 table, u8 first, u8 count] ++ (List.range count).flatMap fun i => s.getImage table (first - 1 + i))
  else .plain .range

/-! ### SET (R167) -/

/-- No route whose chain was unbroken becomes broken (R167, the CHAIN check). -/
def chainKept (old new : Tables) : Bool :=
  allRoutes.all fun r =>
    (walk old.t3 (old.t4[r.val]).head).broken || !(walk new.t3 (new.t4[r.val]).head).broken

/-- A record that the part holds is FIRE. -/
def State.holdsFire (s : State) : Bool := s.queue.records.any fun r => r.report.cls == .fire

/-- What a SET of T1 does beside the writing (R72, R73, R75, R110, R173); `s` has the new table. -/
def State.afterT1 (s : State) (old : T1) : State :=
  let before := s.setTables { s.tables with t1 := old }
  let changed := s.queue.records.any fun r =>
    r.state == .waiting && before.eligible r != s.eligible r
  let s1 := if changed then s.tell else s
  let s2 := if s.t1.highMark ≠ old.highMark ∨ s.t1.lowMark ≠ old.lowMark then s1.settlePressure else s1
  let s3 :=
    if s.t1.testInterval ≠ old.testInterval ∧ s2.queue.gateOpened = true then
      s2.setQueue { s2.queue with testTimer := s2.testExpiry }
    else s2
  let s4 := if s.t1.lendGrace ≠ old.lendGrace then s3.settleFireTimer else s3
  if old.holdLimit = 0 ∧ s4.holdsFire = true then s4.startHoldLimit else s4

/-- What a SET of T2 does to each fitted line whose enabled setting it changed (R25), in line-number order (log 33). -/
def State.afterT2 (s : State) (old : Tables) : State :=
  allLines.foldl
    (fun s l =>
      if s.isFitted l && (s.t2 l).enabled != (old.t2[l.val]).enabled then s.enabledChanged l (s.t2 l).enabled else s)
    s

/-- What a SET of T3 does: failure counts within changed attempt limits, and the routes evaluated (R82, R92). -/
def State.afterT3 (s : State) (old : Tables) : State :=
  State.evaluateRoutes <|
    allReceivers.foldl
      (fun s e =>
        if (s.t3 e).attemptLimit ≠ (old.t3[e.val]).attemptLimit then
          s.setRx e ((s.rx e).limited (s.t3 e).attemptLimit)
        else s)
      s

/-- What the written settings do at once (R167). -/
def State.afterSet (s : State) (table : Nat) (old : Tables) : State :=
  match table with
  | 1 => s.afterT1 old.t1
  | 2 => s.afterT2 old
  | 3 => s.afterT3 old
  | 4 => s.evaluateRoutes
  | 5 => s.reportRoutes
  | _ => s

/-- A SET whose length has been checked (R167). -/
def State.writeTables (s : State) (table first count : Nat) (bs : List Byte) : State × Answer :=
  if !rangeOk table first count then (s, .plain .range)
  else if (table = 3 ∨ table = 4 ∨ table = 5) ∧ s.mode = .operate then (s, .plain .mode)
  else if s.save.isSome then (s, .plain .busy)
  else
    let skip := fun i => decide (table = 2 ∧ s.fitted ≤ i)
    match Tables.writeAll table skip (first - 1) (pieces (entrySize table) count bs) s.tables with
    | none => (s, .plain .range)
    | some (new, clamped) =>
      if (table = 3 ∨ table = 4) ∧ chainKept s.tables new = false then (s, .plain .chain)
      else ((s.setTables new).afterSet table s.tables, { Answer.plain .ok with clamped })

/-! ### The store's arrangement (R168) -/

/-- The base offset of a section in the arrangement of SAVE. -/
def sectionBase : Nat → Nat
  | 1 => 32
  | 2 => 64
  | 3 => 96
  | 4 => 480
  | 5 => 496
  | 6 => 512
  | _ => 0

/-- The six tables. -/
def allTables : List Nat := [1, 2, 3, 4, 5, 6]

/-- The data of a section. -/
def Tables.sectionBytes (t : Tables) (table : Nat) : List Byte := (t.images table).flatten

/-- The 24 bytes of offsets, counts and section checks. -/
def Tables.directoryBody (t : Tables) : List Byte :=
  allTables.flatMap fun k => be16 (sectionBase k) ++ [u8 (tableSize k), checkByte (t.sectionBytes k)]

/-- The directory with its own check byte. -/
def Tables.directory (t : Tables) : List Byte := t.directoryBody ++ [checkByte t.directoryBody]

/-- The parts of the arrangement: base offset and data. -/
def Tables.parts (t : Tables) : List (Nat × List Byte) :=
  (0, t.directory) :: allTables.map fun k => (sectionBase k, t.sectionBytes k)

/-- The byte of data at an address of the arrangement; none between the parts. -/
def partsByte : List (Nat × List Byte) → Nat → Option Byte
  | [], _ => none
  | (base, bs) :: rest, a => if base ≤ a ∧ a < base + bs.length then bs[a - base]? else partsByte rest a

/-- The byte that a SAVE writes at an address: data, or on a page's unused bytes a free value (log 11). -/
def State.savedByte (s : State) (a : Nat) : Byte := (partsByte s.tables.parts a).getD (Config.pagePad s.free a)

/-- The number of pages, and the address of a page in writing order: the sections' 38 pages, then the directory's two (R169). -/
def pageCount : Nat := 40

def pageAddress (p : Nat) : Nat := if p < 38 then 32 + 16 * p else 16 * (p - 38)

/-- The bytes that a SAVE writes on a page. -/
def State.pageBytes (s : State) (p : Nat) : List Byte :=
  (List.range 16).map fun i => s.savedByte (pageAddress p + i)

/-- The time of a page (R169). -/
def pageTime : Nat := 10

/-! ### SAVE (R169) -/

/-- SAVE is taken, or refused while one is writing. -/
def State.startSave (s : State) : State × Answer :=
  match s.save with
  | some _ => (s, .plain .busy)
  | none =>
    (s.setSave (some { page := 0, startMode := s.mode, pageEnds := s.now + pageTime }), .plain .ok)

/-- Every page has read back equal (R169): the STORE-SECTION entries are reported cleared in table-number order (log 48), and then a SAVE begun in SERVICE removes STORE-CORRUPT, which lets the hold limit start (R161, R173). -/
def State.saveDone (s : State) (startMode : Mode) : State :=
  let s1 := allTables.foldl (fun s k => s.faultCleared .storeSection k) (s.setSave none)
  if startMode = .service ∧ s1.storeCorrupt = true then
    let s2 := s1.removeStoreCorrupt
    if s2.holdsFire then s2.startHoldLimit else s2
  else s1

/-- A page has read back unequal: the SAVE stops, STORE-CORRUPT is active, and the hold-limit timer is idle (R169, R173). -/
def State.saveFailed (s : State) : State :=
  ((s.setSave none).setHoldTimer none).faultActive .storeCorrupt 0

/-- A page has been written and read back; `differ` says in which bits it reads back otherwise (R169, log 13). -/
def State.pageWritten (s : State) (w : Save) (differ : List Byte) : State :=
  let mask := padTo 16 0 differ
  let stored := List.zipWith (· ^^^ ·) (s.pageBytes w.page) mask
  let s1 := { s with store := storeWriteBytes s.store (pageAddress w.page) stored, free := s.free + 1 }
  if mask.all (· == 0) then
    if w.page + 1 < pageCount then
      s1.setSave (some { w with page := w.page + 1, pageEnds := s.now + pageTime })
    else s1.saveDone w.startMode
  else s1.saveFailed

/-- The page that a reset finds being written holds free values; a directory page is left so that the directory's own check fails (R169, log 12). -/
def tornStore (m : List Host.Cell) (free page : Nat) : List Host.Cell :=
  let a := pageAddress page
  let m1 := storeWriteBytes m a ((List.range 16).map fun i => Config.tornByte free (a + i))
  if 38 ≤ page ∧ byteSum (storeBytes m1 0 25) = 0 then
    let b := if page = 38 then 15 else 24
    storeWrite b (storeRead m1 b ^^^ 1) m1
  else m1

/-! ### The end of the hold (R173) -/

/-- The hold becomes RELEASED, with its notice, and the Dispatcher is told (R97, R173). -/
def State.releaseHold (s : State) (cause : ModeCause) : State :=
  let s1 := (s.setHold .released).setHoldTimer none
  (s1.notice (.mode s1.mode s1.hold cause)).settleGate

/-! ### The load (R170) -/

/-- A section loaded from the store: base offset, count and check byte of the directory; none when the section is bad (R170 steps 2 and 3). -/
def loadSection (m : List Host.Cell) (table : Nat) (t : Tables) : Option Tables :=
  let d := 4 * (table - 1)
  let base := rd16 (storeRead m d) (storeRead m (d + 1))
  let count := min (storeRead m (d + 2)).toNat (tableSize table)
  let n := count * entrySize table
  let bs := storeBytes m base n
  if count = 0 then some t
  else if storeSize < base + n then none
  else if byteSum bs + storeRead m (d + 3) ≠ 0 then none
  else (Tables.writeAll table (fun _ => false) 0 (pieces (entrySize table) count bs) t).map Prod.fst

/-- One table loaded, or STORE-SECTION reported (R170). -/
def State.loadTable (s : State) (table : Nat) : State :=
  match loadSection s.store table s.tables with
  | some t => s.setTables t
  | none => s.faultActive .storeSection table

/-- The load (R170): the directory's check, then the sections in order. -/
def State.loadTables (s : State) : State :=
  if byteSum (storeBytes s.store 0 25) ≠ 0 then s.faultActive .storeCorrupt 0
  else allTables.foldl State.loadTable s

end Sys2Proof.Machine
end

