-- ==== Sys2Proof/Machine/Lists.lean ====
section
/-! DEFINITION. What the Host Link gives in the responses of its own requests (`09` R155 to R158, R162, layouts of section 9.7). -/

namespace Sys2Proof.Machine

/-- The seconds from the part clock to a time, 0 when it is past or absent. -/
def State.secondsTo (s : State) (due : Option Nat) : Nat := due.getD 0 - s.clock

/-- IDENT (R155). -/
def State.identFields (s : State) : List Byte :=
  be16 430 ++ [u8 s.fitted, flagCode s.holdStrap, 8, 32, 12] ++ be16 2048

/-- STATUS (R156). -/
def State.statusFields (s : State) : List Byte :=
  [u8 s.mode.code, u8 s.hold.code, u8 (gateCode s.dispatcher.gateOpen), u8 s.supply.code, u8 s.rotation,
    u8 s.ordinaryCount, flagCode s.lossRecord.isSome]
    ++ be16 s.queue.lostTally
    ++ [u8 s.queue.heldLosses, u8 s.queue.deferred, flagCode s.queue.pressure, flagCode s.dispatcher.urgent,
      u8 s.dispatcher.held.length]
    ++ be16 (s.secondsTo s.dispatcher.fireTimer)
    ++ [flagCode s.link.noticesLost, u8 s.link.faults.length] ++ be32 s.clock

/-- A list of directory entries: its count and four places. Of an accepted list longer than four, the count and the first four entries (log 35). -/
def entriesImage (es : List RxNo) : List Byte := u8 es.length :: padTo 4 0 (es.map fun e => u8 (num e))

/-- A record image (`09` section 9.7). -/
def State.recordImage (s : State) (r : Record) : List Byte :=
  be16 r.ticket ++ [u8 r.report.cls.rank, u8 r.report.qualifier.code, u8 r.report.source.code]
    ++ be16 r.report.sourceNumber ++ be16 r.report.event ++ be16 r.report.zone ++ [u8 (num r.route)]
    ++ entriesImage r.pendingList ++ entriesImage r.acceptedList
    ++ [u8 r.state.code, u8 r.age, u8 r.repeats] ++ be32 r.enteredAt
    ++ [rxCode (s.target r), flagCode (s.eligible r)]

/-- QUEUE-LIST from a start position (R157). -/
def State.queueListFields (s : State) (start : Nat) : List Byte :=
  let page := (s.inOrder.drop (start - 1)).take 6
  [u8 s.queue.records.length, u8 start, u8 page.length] ++ page.flatMap s.recordImage

/-- One directory entry of RECEIVER-LIST (R158). -/
def State.receiverImage (s : State) (e : RxNo) : List Byte :=
  [u8 (num e), u8 (s.rx e).state.code, u8 (s.rx e).failures, u8 (s.t3 e).attemptLimit]
    ++ be16 (s.secondsTo (s.rx e).due) ++ [flagCode (s.t3 e).dialNumber.isEmpty]

/-- One route of RECEIVER-LIST (R158). -/
def State.routeImage (s : State) (r : RouteNo) : List Byte :=
  [u8 (num r), u8 (s.t4 r).mode.code, flagCode (s.route r).valid] ++ entriesImage (s.route r).chain

def State.receiverListFields (s : State) : List Byte :=
  allReceivers.flatMap s.receiverImage ++ allRoutes.flatMap s.routeImage

/-- The call of a line in LINE-LIST: state, purpose, receiver entry, seized at, blocks accepted; an item the call does not have is a free value (log 31). -/
def State.callImage (s : State) (l : LineNo) : List Byte :=
  let absent := fun k => Config.absentByte s.now (16 * l.val + k)
  match s.call l with
  | none => [0, 0, 0, absent 11, absent 12, absent 13, absent 14, absent 15]
  | some c =>
    [u8 c.state.code, u8 c.purpose.code, rxCode c.receiver]
      ++ (match c.seizedAt with
        | some k => be32 k
        | none => [absent 11, absent 12, absent 13, absent 14])
      ++ [u8 c.blocksAccepted]

/-- One line of LINE-LIST (R158, log 19). -/
def State.lineImage (s : State) (l : LineNo) : List Byte :=
  if s.isFitted l then
    let c := s.ctl l
    let u := s.sense l
    [u8 (num l), u8 c.occupancy.code, u8 c.fault.code, u8 c.power.code, u8 c.lend.code, u8 c.noTone,
      u8 u.confirmed.code, u8 (polarityCode u.polarity)] ++ s.callImage l
  else u8 (num l) :: List.replicate 15 0

def State.lineListFields (s : State) : List Byte := allLines.flatMap s.lineImage

/-- The code of a candidate, 0 when absent. -/
def candidateCode (c : Option InputClass) : Nat :=
  match c with
  | some m => m.code
  | none => 0

/-- One channel of CHANNEL-LIST (R158). -/
def State.channelImage (s : State) (c : ChannelNo) : List Byte :=
  let x := s.channel c
  [u8 (num c), u8 x.measured.code, u8 (candidateCode x.candidate)] ++ be16 (x.debounce.getD 65535)
    ++ [u8 x.confirmed.code, u8 x.effective.code, flagCode x.alarm, u8 x.wiring.code, flagCode x.latched,
      flagCode x.isolated, u8 x.force.code]

def State.channelListFields (s : State) : List Byte := allChannels.flatMap s.channelImage

/-- FAULT-READ (R162). -/
def State.faultFields (s : State) : List Byte :=
  u8 s.link.faults.length
    :: s.link.faults.flatMap fun e => [u8 e.kind.code, u8 e.inst, if e.active then 1 else 2]

end Sys2Proof.Machine
end

