-- ==== Sys2Proof/Machine/CallEvents.lean ====
section
/-! DEFINITION. The timer commands of a call, from CLEARDOWN to RELEASE (`07`) and through the phases of EXCHANGE (`08`). -/

namespace Sys2Proof.Machine

/-- The call of a line whose state timer's expiry has come, when its state passes a test. -/
def State.timedCall (s : State) (l : LineNo) (p : CallState → Bool) : Option Call :=
  match s.call l with
  | some c => if p c.state && expired c.stateTimer s.now then some c else none
  | none => none

/-- CLEARDOWN_END (R115). -/
def execCleardownEnd (t : Nat) (line : LineNo) (s : State) : Host.Outcome State Fault Refusal :=
  let s := s.advance t
  .next
    (match s.timedCall line (· == .cleardown) with
    | some _ => (s.enterDialtone line).settle
    | none => s)

/-- Dial tone is recognised (R22, R116, R130). -/
def State.dialToneRecognised (s : State) (l : LineNo) (c : Call) : State :=
  let s1 := (s.toneHeard l).modCall l fun c => { c with stateTimer := none }
  match c.purpose, c.receiver with
  | .probe, _ => s1.giveResult l .probeOk
  | .report, some e => s1.beginDialling l e
  | .report, none => s1

/-- DIAL_TONE_RECOGNISED (R116). -/
def execDialToneRecognised (t : Nat) (line : LineNo) (s : State) : Host.Outcome State Fault Refusal :=
  let s := s.advance t
  .next
    (match s.call line with
    | some c =>
      if c.state = .dialtone ∧ dialToneHeard c.tone s.now = true then (s.dialToneRecognised line c).settle else s
    | none => s)

/-- DIALTONE_TIMEOUT (R116). -/
def execDialtoneTimeout (t : Nat) (line : LineNo) (s : State) : Host.Outcome State Fault Refusal :=
  let s := s.advance t
  .next
    (match s.timedCall line (· == .dialtone) with
    | some _ => (s.giveResult line .noDialTone).settle
    | none => s)

/-- DIAL_SYMBOL_TONE_END (R117): the tone stops and its gap begins. -/
def execDialSymbolToneEnd (t : Nat) (line : LineNo) (s : State) : Host.Outcome State Fault Refusal :=
  let s := s.advance t
  .next
    (match s.timedCall line (· == .dialling) with
    | some _ =>
      if (s.line line).iface.sender.isSome then
        ((s.setSender line none).enterState line .dialling dialGapTime).settle
      else s
    | none => s)

/-- DIAL_SYMBOL_END (R117): the gap of a tone symbol, or a pause, is over. -/
def execDialSymbolEnd (t : Nat) (line : LineNo) (s : State) : Host.Outcome State Fault Refusal :=
  let s := s.advance t
  .next
    (match s.timedCall line (· == .dialling) with
    | some _ => if (s.line line).iface.sender.isNone then (s.advanceDial line).settle else s
    | none => s)

/-- SECOND_TONE_RECOGNISED (R22, R119). -/
def execSecondToneRecognised (t : Nat) (line : LineNo) (s : State) : Host.Outcome State Fault Refusal :=
  let s := s.advance t
  .next
    (match s.call line with
    | some c =>
      if c.state = .secondTone ∧ dialToneHeard c.tone s.now = true then
        (((s.toneHeard line).modCall line fun c => { c with stateTimer := none }).advanceDial line).settle
      else s
    | none => s)

/-- SECOND_TONE_TIMEOUT (R119). -/
def execSecondToneTimeout (t : Nat) (line : LineNo) (s : State) : Host.Outcome State Fault Refusal :=
  let s := s.advance t
  .next
    (match s.timedCall line (· == .secondTone) with
    | some _ => (s.giveResult line .noSecondTone).settle
    | none => s)

/-- RING_WAIT_TIMEOUT (R121). -/
def execRingWaitTimeout (t : Nat) (line : LineNo) (s : State) : Host.Outcome State Fault Refusal :=
  let s := s.advance t
  .next
    (match s.timedCall line (· == .ringWait) with
    | some _ => (s.giveResult line .noAnswer).settle
    | none => s)

/-- HANDSHAKE_TIMEOUT (R122). -/
def execHandshakeTimeout (t : Nat) (line : LineNo) (s : State) : Host.Outcome State Fault Refusal :=
  let s := s.advance t
  .next
    (match s.timedCall line (· == .handshake) with
    | some _ => (s.giveResult line .noHandshake).settle
    | none => s)

/-- The call time limit expires (R124, R146). -/
def State.limitReached (s : State) (l : LineNo) (c : Call) : State :=
  match c.state with
  | .exchange _ => (s.modCall l fun c => { c with cutShort := true, limitTimer := none }).flagSet l
  | _ => s.giveResult l .cutShort

/-- CALL_LIMIT_EXPIRY (R124). -/
def execCallLimitExpiry (t : Nat) (line : LineNo) (s : State) : Host.Outcome State Fault Refusal :=
  let s := s.advance t
  .next
    (match s.call line with
    | some c => if expired c.limitTimer s.now then (s.limitReached line c).settle else s
    | none => s)

/-- RELEASE_GUARD_END (R128). -/
def execReleaseGuardEnd (t : Nat) (line : LineNo) (s : State) : Host.Outcome State Fault Refusal :=
  let s := s.advance t
  .next
    (match s.timedCall line (· == .release) with
    | some c => (s.endContext line c c.result).settle
    | none => s)

/-! ### EXCHANGE (`08`) -/

/-- The first claim at the end of DELAY (R136). -/
def State.firstClaim (s : State) (l : LineNo) (c : Call) : State :=
  match c.receiver with
  | none => s
  | some e =>
    let s1 := s.claimSending l e 4
    if (s1.line l).sending.tickets = [] then s1.giveResult l .cutShort
    else (s1.claimNext l e 4).beginSend l 1

/-- DELAY_END (R136). -/
def execDelayEnd (t : Nat) (line : LineNo) (s : State) : Host.Outcome State Fault Refusal :=
  let s := s.advance t
  .next
    (match s.timedCall line (· == .exchange .delay) with
    | some c => (s.firstClaim line c).settle
    | none => s)

/-- The block symbol being sent in phase TRANSMIT: how many are finished. -/
def CallState.transmitting : CallState → Option Nat
  | .exchange (.transmit n) => some n
  | _ => none

/-- BLOCK_SYMBOL_TONE_END (R132): the tone stops and its gap begins. -/
def execBlockSymbolToneEnd (t : Nat) (line : LineNo) (s : State) : Host.Outcome State Fault Refusal :=
  let s := s.advance t
  .next
    (match s.timedCall line (·.transmitting.isSome) with
    | some c =>
      if (s.line line).iface.sender.isSome then
        ((s.setSender line none).enterState line c.state blockGapTime).settle
      else s
    | none => s)

/-- BLOCK_SYMBOL_END (R140): the gap of a block symbol is over. -/
def execBlockSymbolEnd (t : Nat) (line : LineNo) (s : State) : Host.Outcome State Fault Refusal :=
  let s := s.advance t
  .next
    (match s.timedCall line (·.transmitting.isSome) with
    | some c =>
      if (s.line line).iface.sender.isNone then
        (s.nextBlockSymbol line (c.state.transmitting.getD 0)).settle
      else s
    | none => s)

/-- When the reply window opened, in phase REPLY. -/
def CallState.replying : CallState → Option Nat
  | .exchange (.reply opened) => some opened
  | _ => none

/-- A counting segment is open (R141); its onset instant. -/
def Call.countingOpen (c : Call) : Option Nat :=
  match c.state.replying, c.tone.openSegment with
  | some opened, some (b, onset) => if counting opened b onset then some onset else none
  | _, _ => none

/-- The reply timer expires: a counting segment open for less than 1140 ms is waited for, otherwise the send has failed (R142). -/
def State.replyExpired (s : State) (l : LineNo) (c : Call) : State :=
  let c1 := { c with stateTimer := none }
  let s1 := s.setCall l (some c1)
  match c.countingOpen with
  | some onset => if s.now < onset + overrunTime then s1 else s1.sendFailed l c1
  | none => s1.sendFailed l c1

/-- REPLY_TIMEOUT (R142). -/
def execReplyTimeout (t : Nat) (line : LineNo) (s : State) : Host.Outcome State Fault Refusal :=
  let s := s.advance t
  .next
    (match s.timedCall line (·.replying.isSome) with
    | some c => (s.replyExpired line c).settle
    | none => s)

/-- COUNTING_SEGMENT_OVERRUN (R142): the reply timer has expired, and a counting segment is still open 1140 ms after its onset. -/
def execCountingSegmentOverrun (t : Nat) (line : LineNo) (s : State) : Host.Outcome State Fault Refusal :=
  let s := s.advance t
  .next
    (match s.call line with
    | some c =>
      match c.countingOpen with
      | some onset =>
        if c.stateTimer = none ∧ onset + overrunTime ≤ s.now then (s.sendFailed line c).settle else s
      | none => s
    | none => s)

/-- RETRY_END (R143): the SENDING block is sent again. -/
def execRetryEnd (t : Nat) (line : LineNo) (s : State) : Host.Outcome State Fault Refusal :=
  let s := s.advance t
  .next
    (match s.timedCall line (· == .exchange .retry) with
    | some c => (s.beginSend line (c.sendCount.getD 0 + 1)).settle
    | none => s)

/-- The end of the gap (R145). -/
def State.gapOver (s : State) (l : LineNo) (c : Call) : State :=
  match c.receiver with
  | none => s
  | some e =>
    if (s.line l).next.tickets = [] then s.giveResult l .complete
    else ((s.moveNext l).claimNext l e 4).beginSend l 1

/-- GAP_END (R145). -/
def execGapEnd (t : Nat) (line : LineNo) (s : State) : Host.Outcome State Fault Refusal :=
  let s := s.advance t
  .next
    (match s.timedCall line (· == .exchange .gap) with
    | some c => (s.gapOver line c).settle
    | none => s)

end Sys2Proof.Machine
end

