-- ==== Sys2Proof/Machine/LineEvents.lean ====
section
/-! DEFINITION. The commands of the lines and of the supply (`01`, `02`). -/

namespace Sys2Proof.Machine

/-- A polarity change reaches the Call Controller while a call exists (R9, R20). -/
def State.polarityReport (s : State) (l : LineNo) : State := s.callPolarity l

/-- A sample taken in SENSE or READY (R1 to R10, R18 to R21). -/
def State.loopSample (s : State) (l : LineNo) (volts : Int) : State :=
  let (u, report, change) := (s.sense l).sample (clipVolts volts) s.now
  let s1 := s.setSense l u
  let s2 := match report with
    | some r => s1.classReport l r
    | none => s1
  match change with
  | some _ => s2.polarityReport l
  | none => s2

/-- LOOP_SAMPLE (R1, R10): a line that is OFF is not sampled. An eighth sample taken before a step down to OFF of the same instant completes its window, with the window's reports (log 32). -/
def execLoopSample (t : Nat) (line : LineNo) (volts : Int) (s : State) : Host.Outcome State Fault Refusal :=
  let s := s.advance t
  .next (if (s.ctl line).power = .off then s else (s.loopSample line volts).settle)

/-- RING_OFF_TIMER_EXPIRY (R6, R7, R19): the report carries the confirmed class. -/
def execRingOffTimerExpiry (t : Nat) (line : LineNo) (s : State) : Host.Outcome State Fault Refusal :=
  let s := s.advance t
  .next
    (if expired (s.sense line).ringOff s.now then
      ((s.setSense line (s.sense line).ringOffExpired).ringOffReport line (s.sense line).confirmed).settle
    else s)

/-- TONE_APPEARS (R12, R13, R15). -/
def execToneAppears (t : Nat) (line : LineNo) (band : Band) (s : State) : Host.Outcome State Fault Refusal :=
  let s := s.advance t
  .next
    (if ((s.line line).toneOn).get band then s
    else
      s.setLine line
        { s.line line with
          toneOn := ((s.line line).toneOn).set band true
          detector := (s.detector line).appears band s.now })

/-- TONE_STOPS (R13, R14, R15). -/
def execToneStops (t : Nat) (line : LineNo) (band : Band) (s : State) : Host.Outcome State Fault Refusal :=
  let s := s.advance t
  .next
    (if ((s.line line).toneOn).get band then
      s.setLine line
        { s.line line with
          toneOn := ((s.line line).toneOn).set band false
          detector := (s.detector line).stops band s.now }
    else s)

/-- TONE_QUALIFIED (R13): the ONSET report goes to the Call Controller. -/
def execToneQualified (t : Nat) (line : LineNo) (s : State) : Host.Outcome State Fault Refusal :=
  let s := s.advance t
  .next
    (match (s.detector line).qualify s.now with
    | some (d, report) => ((s.setDetector line d).toneReport line report).settle
    | none => s)

/-- The report of a segment that opens at another's end instant (R13), if the detector still listens. -/
def State.followingOnset (s : State) (l : LineNo) (report : Option ToneReport) : State :=
  match report with
  | some r => if (s.detector l).hears then s.toneReport l r else s
  | none => s

/-- TONE_ENDED (R14): the END report, then the ONSET report of a segment that opens at once (R13). -/
def execToneEnded (t : Nat) (line : LineNo) (s : State) : Host.Outcome State Fault Refusal :=
  let s := s.advance t
  .next
    (match (s.detector line).ended s.now with
    | some (d, report, following) =>
      (((s.setDetector line d).toneReport line report).followingOnset line following).settle
    | none => s)

/-- The opposite of a level is what the supply state stands at (R26). -/
def opposes (failed : Bool) (supply : Supply) : Bool :=
  match supply with
  | .normal => failed
  | .reserve => !failed

/-- 1 s (R26). -/
def supplyWait : Nat := 1000

/-- MAINS_FAIL_INPUT (R26): the input changes its level; the wait starts when the level opposes the supply state, and ends otherwise. -/
def execMainsFailInput (t : Nat) (failed : Bool) (s : State) : Host.Outcome State Fault Refusal :=
  let s := s.advance t
  .next
    (if failed = s.mainsFail then s
    else
      { s with
        mainsFail := failed
        supplyTimer := if opposes failed s.supply then some (s.now + supplyWait) else none })

/-- The supply enters RESERVE (R26, R27). -/
def State.enterReserve (s : State) : State :=
  let s1 := State.startNext (allLines.foldl State.reserveLine (s.setSupply .reserve))
  (s1.report (partReport .trouble .new 903 0)).faultActive .supplyReserve 0

/-- The supply returns to NORMAL (R26, R29). -/
def State.returnToNormal (s : State) : State :=
  let s1 := allLines.foldl State.normalLine ((s.setSupply .normal).setWaitList [])
  (s1.report (partReport .trouble .restore 903 0)).faultCleared .supplyReserve 0

/-- SUPPLY_CHANGE (R26): the wait of 1 s is over. It does not fall in the start-up load (log 29). -/
def execSupplyChange (t : Nat) (s : State) : Host.Outcome State Fault Refusal :=
  let s := s.advance t
  .next
    (if expired s.supplyTimer s.now && !s.loading then
      (match s.supply with
        | .normal => s.enterReserve
        | .reserve => s.returnToNormal).settle
    else s)

/-- The call of the line is in PREPARE. -/
def State.inPrepare (s : State) (l : LineNo) : Bool :=
  match s.call l with
  | some c => c.state == .prepare
  | none => false

/-- The promotion of a line is complete: READY, its call in PREPARE takes the line, and the Dispatcher is told (R24, R105, R114). -/
def State.promoted (s : State) (l : LineNo) : State :=
  let s1 := s.setCtl l { s.ctl l with power := .ready, promotion := .none }
  (if s1.inPrepare l then s1.takeLine l else s1).tell

/-- The end of the settle of a promotion, if it settles. -/
def Promotion.ends : Promotion → Option Nat
  | .settling e => some e
  | .none | .waiting => Option.none

/-- PROMOTION_COMPLETE (R24). -/
def execPromotionComplete (t : Nat) (line : LineNo) (s : State) : Host.Outcome State Fault Refusal :=
  let s := s.advance t
  .next (if expired (s.ctl line).promotion.ends s.now then (s.promoted line).settle else s)

/-- A PROBE call is created (R23, R130). -/
def State.startProbe (s : State) (l : LineNo) : State :=
  let s1 := (s.setCtl l { s.ctl l with grant := some .trickle, probeTimer := none }).recompute l
  s1.startCall l (Call.create .probe none false)

/-- The conditions of a probe (R23). -/
def State.mayProbe (s : State) (l : LineNo) : Bool :=
  (s.ctl l).occupancy == .free && s.dispatcher.gateOpen && (s.call l).isNone

/-- PROBE_TIMER_EXPIRY (R23). -/
def execProbeTimerExpiry (t : Nat) (line : LineNo) (s : State) : Host.Outcome State Fault Refusal :=
  let s := s.advance t
  .next
    (if expired (s.ctl line).probeTimer s.now then
      (if s.mayProbe line then s.startProbe line
        else s.setCtl line { s.ctl line with probeTimer := some (s.now + probePeriod) }).settle
    else s)

/-- LEND_IDLE_EXPIRY (R35, R36). -/
def execLendIdleExpiry (t : Nat) (line : LineNo) (s : State) : Host.Outcome State Fault Refusal :=
  let s := s.advance t
  .next (if expired (s.ctl line).lendIdle s.now then (s.endLend line).settle else s)

end Sys2Proof.Machine
end

