-- ==== Sys2Proof/Machine/LinkEvents.lean ====
section
/-! DEFINITION. The commands of the serial link that are not requests (`09` R149 to R152, R160). -/

namespace Sys2Proof.Machine

/-- INCOMING_BYTE (R149, R150; log 8). -/
def execIncomingByte (t : Nat) (b : Byte) (s : State) : Host.Outcome State Fault Refusal :=
  let s := s.advance t
  .next (s.setLink (s.link.byte s.now b))

/-- The byte that comes next is the last expected one. -/
def Receiver.lastExpected : Receiver → Bool
  | .body _ _ expect => decide (expect ≤ 1)
  | .silent | .hunt | .length => false

/-- FRAME_RECEIVED (R149, R150, R152): the last expected byte of a frame arrives, and the frame is checked. -/
def execFrameReceived (t : Nat) (last : Byte) (s : State) : Host.Outcome State Fault Refusal :=
  let s := s.advance t
  .next (if s.link.receiver.lastExpected then s.setLink (s.link.byte s.now last) else s)

/-- INTER_BYTE_TIMEOUT (R151): the partial frame is discarded. -/
def execInterByteTimeout (t : Nat) (s : State) : Host.Outcome State Fault Refusal :=
  let s := s.advance t
  .next
    (if expired s.link.byteTimer s.now then
      s.setLink { s.link with receiver := .hunt, byteTimer := none }
    else s)

/-- The frame being sent has ended, and the transmitter chooses anew, unless a waiting request is decoded first (R152, R160, log 7). -/
def Link.sent (k : Link) (decodeFirst : Bool) : Link :=
  let k1 := k.frameEnded
  if decodeFirst && k1.inHand.isNone && !k1.requests.isEmpty then k1 else k1.transmit

/-- FRAME_SENT (R152, R160). -/
def execFrameSent (t : Nat) (decodeFirst : Bool) (s : State) : Host.Outcome State Fault Refusal :=
  let s := s.advance t
  .next
    (match s.link.transmitter with
    | .idle => s
    | .response _ | .notice _ => s.setLink (s.link.sent decodeFirst))

end Sys2Proof.Machine
end

