-- ==== Sys2Proof/Machine/QueueEvents.lean ====
section
/-! DEFINITION. The commands of the inputs, the queue, the receivers, the Dispatcher and the start hold that are not requests (`03` to `06`, `10` R173). -/

namespace Sys2Proof.Machine

/-- INPUT_READING (R39 to R45, R51): no reading is taken before the load is done. -/
def execInputReading (t : Nat) (channel : ChannelNo) (code : BitVec 10) (s : State) :
    Host.Outcome State Fault Refusal :=
  let s := s.advance t
  .next (if s.loading then s else (s.inputReading channel code.toNat).settle)

/-- The part clock has reached a further whole minute of a record (R72). -/
def Record.minuteDue (r : Record) (clock : Nat) : Bool :=
  decide (r.age < 255) && decide (r.enteredAt + 60 * (r.age + 1) ≤ clock)

/-- A record's age increases; a WAITING deferred record that becomes eligible on age is told to the Dispatcher (R72). -/
def State.ageRecord (s : State) (r : Record) : State :=
  let s1 := s.modRecord r.ticket fun x => { x with age := r.age + 1 }
  if r.report.cls.deferred && r.state == .waiting && decide (r.age < s.t1.urgencyAge)
      && decide (s.t1.urgencyAge ≤ r.age + 1) then s1.tell
  else s1

/-- AGE_TICK (R72). -/
def execAgeTick (t : Nat) (ticket : Nat) (s : State) : Host.Outcome State Fault Refusal :=
  let s := s.advance t
  .next
    (match s.find ticket with
    | some r => if r.minuteDue s.clock then (s.ageRecord r).settle else s
    | none => s)

/-- A report of a test (R75, R76). -/
def testReport (event zone : Nat) : Report :=
  { cls := .routine, qualifier := .status, source := .part, sourceNumber := 0, event, zone }

/-- PERIODIC_TEST_EXPIRY (R75): the report, then the timer again. -/
def execPeriodicTestExpiry (t : Nat) (s : State) : Host.Outcome State Fault Refusal :=
  let s := s.advance t
  .next
    (if expired s.queue.testTimer s.now then
      let s1 := s.report (testReport 910 0)
      (s1.setQueue { s1.queue with testTimer := s1.testExpiry }).settle
    else s)

/-- BACKOFF_END (R90). -/
def execBackoffEnd (t : Nat) (receiver : RxNo) (s : State) : Host.Outcome State Fault Refusal :=
  let s := s.advance t
  .next
    (if (s.rx receiver).state = .backoff ∧ expired (s.rx receiver).due s.clock = true then
      ((s.setRx receiver { s.rx receiver with state := .ready, due := none }).tell).settle
    else s)

/-- REST_END (R91): the queue is re-examined, then the Dispatcher told. -/
def execRestEnd (t : Nat) (receiver : RxNo) (s : State) : Host.Outcome State Fault Refusal :=
  let s := s.advance t
  .next
    (if (s.rx receiver).state = .exhausted ∧ expired (s.rx receiver).due s.clock = true then
      (((s.setRx receiver RxStatus.reset).reexamine).tell).settle
    else s)

/-- FIRE_WAIT_EXPIRY (R38, R110). -/
def execFireWaitExpiry (t : Nat) (s : State) : Host.Outcome State Fault Refusal :=
  let s := s.advance t
  .next
    (if expired s.dispatcher.fireTimer s.clock then
      (s.setWork { s.work with fireDue := true }).settle
    else s)

/-- HOLD_LIMIT_EXPIRY (R173). -/
def execHoldLimitExpiry (t : Nat) (s : State) : Host.Outcome State Fault Refusal :=
  let s := s.advance t
  .next (if expired s.holdTimer s.now then (s.releaseHold .holdLimit).settle else s)

/-- SAVE_PAGE_WRITTEN (R169). -/
def execSavePageWritten (t : Nat) (differ : List Byte) (s : State) : Host.Outcome State Fault Refusal :=
  let s := s.advance t
  .next
    (match s.save with
    | some w => if w.pageEnds ≤ s.now then (s.pageWritten w differ).settle else s
    | none => s)

end Sys2Proof.Machine
end

