-- ==== Sys2Proof/Machine/Requests.lean ====
section
/-! DEFINITION. The commands that are requests of the host (`09` R153, catalogue of section 9.7), each as the rule of its owner gives. -/

namespace Sys2Proof.Machine

/-- A request is served when the Host Link decodes it (R153): the length is checked, then its owner takes or refuses it, and the response is formed after the whole effect (log 6, log 23). `badFields` are the response fields of a BAD-LENGTH refusal. -/
def State.serve (s : State) (kind : Byte) (payload : List Byte) (lengthOk : Bool) (badFields : List Byte)
    (owner : State → State × Answer) : State :=
  if s.decoding kind payload then
    if lengthOk then ((owner s).1.settle).respond kind (owner s).2
    else s.respond kind { Answer.plain .badLength with fields := badFields }
  else s

/-- A request that reads and does not change what it reads: OK with response fields. -/
def reading (fields : State → List Byte) (s : State) : State × Answer := (s, .withFields (fields s))

/-- UNKNOWN_KIND (R153). -/
def execUnknownKind (t : Nat) (kind : Byte) (payload : List Byte) (s : State) : Host.Outcome State Fault Refusal :=
  let s := s.advance t
  .next
    (if s.decoding kind payload && !catalogue.contains kind then s.respond kind (.plain .unknownKind) else s)

/-- ECHO (R155). -/
def execEcho (t : Nat) (payload : List Byte) (s : State) : Host.Outcome State Fault Refusal :=
  .next ((s.advance t).serve 0x01 payload (payload.length ≤ 197) [] (reading fun _ => payload))

/-- IDENT (R155). -/
def execIdent (t : Nat) (payload : List Byte) (s : State) : Host.Outcome State Fault Refusal :=
  .next ((s.advance t).serve 0x02 payload payload.isEmpty [] (reading State.identFields))

/-- The owner's part of STATUS: the notices-lost flag is cleared once it has been read (R156). -/
def State.statusRequest (s : State) : State × Answer :=
  (s.setLink { s.link with noticesLost := false }, .withFields s.statusFields)

/-- STATUS (R156). -/
def execStatus (t : Nat) (payload : List Byte) (s : State) : Host.Outcome State Fault Refusal :=
  .next ((s.advance t).serve 0x03 payload payload.isEmpty [] State.statusRequest)

/-- The byte at a place of a payload whose length has been checked. -/
def argument (payload : List Byte) (i : Nat) : Nat := (payload.getD i 0).toNat

/-- The two-byte number at a place of a payload whose length has been checked. -/
def argument16 (payload : List Byte) (i : Nat) : Nat := rd16 (payload.getD i 0) (payload.getD (i + 1) 0)

/-- The owner's part of QUEUE-LIST (R157). -/
def State.queueListRequest (payload : List Byte) (s : State) : State × Answer :=
  if argument payload 0 = 0 then (s, .plain .range)
  else (s, .withFields (s.queueListFields (argument payload 0)))

/-- QUEUE_LIST (R157). -/
def execQueueList (t : Nat) (payload : List Byte) (s : State) : Host.Outcome State Fault Refusal :=
  .next ((s.advance t).serve 0x04 payload (payload.length == 1) [] (State.queueListRequest payload))

/-- RECEIVER_LIST (R158). -/
def execReceiverList (t : Nat) (payload : List Byte) (s : State) : Host.Outcome State Fault Refusal :=
  .next ((s.advance t).serve 0x05 payload payload.isEmpty [] (reading State.receiverListFields))

/-- LINE_LIST (R158). -/
def execLineList (t : Nat) (payload : List Byte) (s : State) : Host.Outcome State Fault Refusal :=
  .next ((s.advance t).serve 0x06 payload payload.isEmpty [] (reading State.lineListFields))

/-- CHANNEL_LIST (R158). -/
def execChannelList (t : Nat) (payload : List Byte) (s : State) : Host.Outcome State Fault Refusal :=
  .next ((s.advance t).serve 0x07 payload payload.isEmpty [] (reading State.channelListFields))

/-- FAULT_READ (R162). -/
def execFaultRead (t : Nat) (payload : List Byte) (s : State) : Host.Outcome State Fault Refusal :=
  .next ((s.advance t).serve 0x08 payload payload.isEmpty [] (reading State.faultFields))

/-- The owner's part of FAULT-CLEAR (R163). -/
def State.faultClearRequest (s : State) : State × Answer :=
  (s.setFaults (s.link.faults.filter fun e => !clearable e), .withFields [u8 (s.link.faults.countP clearable)])

/-- FAULT_CLEAR (R163). -/
def execFaultClear (t : Nat) (payload : List Byte) (s : State) : Host.Outcome State Fault Refusal :=
  .next ((s.advance t).serve 0x09 payload payload.isEmpty [] State.faultClearRequest)

/-! ### Reports (R76 to R78) -/

/-- The answer to RAISE and TEST-CALL after an admission (R77). -/
def Admitted.answer : Admitted → Answer
  | .new ticket => .withFields (be16 ticket)
  | .evicting ticket => { Answer.withFields (be16 ticket) with evicted := true }
  | .joined ticket => { Answer.withFields (be16 ticket) with coalesced := true }
  | .lost => { Answer.plain .full with fields := be16 0 }

/-- A refusal of RAISE or TEST-CALL: the ticket field is 0 (R153). -/
def noTicket (status : Status) : Answer := { Answer.plain status with fields := be16 0 }

/-- A report admitted and answered (R76, R77). -/
def State.admitAnswer (s : State) (rep : Report) : State × Answer := ((s.admission rep).1, (s.admission rep).2.answer)

/-- The report of a RAISE whose checks pass (R77). -/
def raisedReport (payload : List Byte) : Option Report :=
  let sourceNumber := argument16 payload 2
  let event := argument16 payload 4
  let zone := argument16 payload 6
  match ReportClass.ofRank (argument payload 0), Qualifier.ofCode (argument payload 1) with
  | some cls, some qualifier =>
    if sourceNumber ≤ 999 ∧ event ≤ 999 ∧ zone ≤ 999 ∧ ¬(901 ≤ event ∧ event ≤ 921) then
      some { cls, qualifier, source := .host, sourceNumber, event, zone }
    else none
  | _, _ => none

/-- The owner's part of RAISE (R77). -/
def State.raiseRequest (payload : List Byte) (s : State) : State × Answer :=
  match raisedReport payload with
  | some rep => s.admitAnswer rep
  | none => (s, noTicket .range)

/-- RAISE (R77). -/
def execRaise (t : Nat) (payload : List Byte) (s : State) : Host.Outcome State Fault Refusal :=
  .next ((s.advance t).serve 0x10 payload (payload.length == 8) (be16 0) (State.raiseRequest payload))

/-- The line whose NEXT holds a ticket. -/
def State.nextHolder (s : State) (ticket : Nat) : Option LineNo :=
  allLines.find? fun l => (s.line l).next.tickets.contains ticket

/-- The ticket is taken out of a line's NEXT (R139). -/
def State.dropNext (s : State) (l : LineNo) (ticket : Nat) : State :=
  s.setSlots l (s.line l).sending
    { (s.line l).next with tickets := (s.line l).next.tickets.filter (· ≠ ticket) }

/-- NEXT after a withdrawal: filled up with the flags clear, and its block composed again (R139). -/
def State.refillNext (s : State) (l : LineNo) : State :=
  match s.call l with
  | some c =>
    match c.receiver with
    | some e =>
      if c.lendPending || c.cutShort then s.setSlots l (s.line l).sending (s.makeSlot l (s.line l).next.tickets)
      else s.claimNext l e (4 - (s.line l).next.tickets.length)
    | none => s
  | none => s

/-- A record is withdrawn (R71, R78, R139). Of a STAGED LOSS record the ticket leaves NEXT first, then held losses enter as a new LOSS record, which recomposes NEXT, and then NEXT is filled up (log 42). -/
def State.withdrawRecord (s : State) (r : Record) : State :=
  match s.nextHolder r.ticket with
  | some l => ((s.dropNext l r.ticket).removeRecord r).refillNext l
  | none => s.removeRecord r

/-- The owner's part of WITHDRAW (R78). -/
def State.withdrawRequest (payload : List Byte) (s : State) : State × Answer :=
  if argument16 payload 0 = 0 then (s, .plain .range)
  else
    match s.find (argument16 payload 0) with
    | none => (s, .plain .notFound)
    | some r =>
      if r.report.cls = .fire then (s, .plain .guarded)
      else if r.state = .inFlight then (s, .plain .inFlight)
      else (s.withdrawRecord r, .plain .ok)

/-- WITHDRAW (R78). -/
def execWithdraw (t : Nat) (payload : List Byte) (s : State) : Host.Outcome State Fault Refusal :=
  .next ((s.advance t).serve 0x11 payload (payload.length == 2) [] (State.withdrawRequest payload))

/-- The owner's part of TEST-CALL (R76). -/
def State.testCallRequest (payload : List Byte) (s : State) : State × Answer :=
  if 999 < argument16 payload 0 then (s, noTicket .range)
  else
    s.admitAnswer
      { cls := .routine, qualifier := .status, source := .part, sourceNumber := 0, event := 911,
        zone := argument16 payload 0 }

/-- TEST_CALL (R76). -/
def execTestCall (t : Nat) (payload : List Byte) (s : State) : Host.Outcome State Fault Refusal :=
  .next ((s.advance t).serve 0x12 payload (payload.length == 2) (be16 0) (State.testCallRequest payload))

/-! ### Lending and aborting (R34, R35, R126) -/

/-- LEND of a usable line (R34, R125). A lend that becomes PENDING is told to the Dispatcher, which evaluates the URGENT-PENDING condition on every change of a lend state (R37, log 38). -/
def State.lendLine (s : State) (l : LineNo) : State × Answer :=
  match (s.ctl l).occupancy, (s.ctl l).lend with
  | .call, .none =>
    ((((s.setCtl l { s.ctl l with lend := .pending }).modCall l fun c => { c with lendPending := true }).flagSet l).tell,
      .plain .okPending)
  | .call, _ => (s, .plain .okPending)
  | _, .lent => (s, .plain .ok)
  | _, _ => (s.beginLend l, .plain .ok)

/-- The owner's part of LEND (R34). A line in CALL whose disable is pending counts as disabled here, by its T2 entry (log 34). -/
def State.lendRequest (payload : List Byte) (s : State) : State × Answer :=
  match ofNum 4 (argument payload 0) with
  | none => (s, .plain .range)
  | some l => if s.usable l then s.lendLine l else (s, .plain .notFound)

/-- LEND (R34). -/
def execLend (t : Nat) (payload : List Byte) (s : State) : Host.Outcome State Fault Refusal :=
  .next ((s.advance t).serve 0x18 payload (payload.length == 1) [] (State.lendRequest payload))

/-- The owner's part of RECLAIM (R35). A line in CALL whose disable is pending counts as disabled here, by its T2 entry (log 34). A PENDING lend that ends is told to the Dispatcher (R37, log 38). -/
def State.reclaimRequest (payload : List Byte) (s : State) : State × Answer :=
  match ofNum 4 (argument payload 0) with
  | none => (s, .plain .range)
  | some l =>
    if s.usable l then
      match (s.ctl l).lend with
      | .none => (s, .plain .notFound)
      | .lent => (s.endLend l, .plain .ok)
      | .pending =>
        (((s.setCtl l { s.ctl l with lend := .none }).modCall l fun c => { c with lendPending := false }).tell,
          .plain .ok)
    else (s, .plain .notFound)

/-- RECLAIM (R35). -/
def execReclaim (t : Nat) (payload : List Byte) (s : State) : Host.Outcome State Fault Refusal :=
  .next ((s.advance t).serve 0x19 payload (payload.length == 1) [] (State.reclaimRequest payload))

/-- A block slot of the line holds a FIRE record (R126). -/
def State.slotsHoldFire (s : State) (l : LineNo) : Bool :=
  s.queue.records.any fun r =>
    r.report.cls == .fire
      && ((s.line l).sending.tickets.contains r.ticket || (s.line l).next.tickets.contains r.ticket)

/-- The owner's part of ABORT-CALL (R126). -/
def State.abortRequest (payload : List Byte) (s : State) : State × Answer :=
  match ofNum 4 (argument payload 0) with
  | none => (s, .plain .range)
  | some l =>
    match s.call l with
    | none => (s, .plain .notFound)
    | some c =>
      if c.state = .release then (s, .plain .busy)
      else if s.slotsHoldFire l then (s, .plain .guarded)
      else (s.giveResult l .aborted, .plain .ok)

/-- ABORT_CALL (R126). -/
def execAbortCall (t : Nat) (payload : List Byte) (s : State) : Host.Outcome State Fault Refusal :=
  .next ((s.advance t).serve 0x28 payload (payload.length == 1) [] (State.abortRequest payload))

/-! ### Input channels (R46 to R52) -/

/-- The eight codes of a FORCE, one for each channel; none when one is outside the four. -/
def forceCodes (payload : List Byte) : Option (List (ChannelNo × Option Force)) :=
  allChannels.mapM fun c => (forceOf (payload.getD c.val 0)).map fun f => (c, f)

/-- A code of FORCE meets an isolated channel, or would hold a FIRE-class channel at NORMAL while it is ACTIVE (R50). -/
def State.forceGuarded (s : State) (c : ChannelNo) (f : Option Force) : Bool :=
  (f.isSome && (s.channel c).isolated)
    || (f == some .normal && (s.t6 c).cls == .fire && (s.channel c).confirmed == .active)

/-- A FORCE that passes its checks, channel by channel (R50). -/
def State.applyForces (s : State) (codes : List (ChannelNo × Option Force)) : State :=
  codes.foldl
    (fun s x =>
      match x.2 with
      | some f => s.setForce x.1 f
      | none => s)
    s

/-- The owner's part of FORCE (R50). -/
def State.forceRequest (payload : List Byte) (s : State) : State × Answer :=
  if s.mode = .operate then (s, .plain .mode)
  else
    match forceCodes payload with
    | none => (s, .plain .range)
    | some codes =>
      if codes.any fun x => s.forceGuarded x.1 x.2 then (s, .plain .guarded)
      else (s.applyForces codes, .plain .ok)

/-- FORCE (R50). -/
def execForce (t : Nat) (payload : List Byte) (s : State) : Host.Outcome State Fault Refusal :=
  .next ((s.advance t).serve 0x20 payload (payload.length == 8) [] (State.forceRequest payload))

/-- The owner's part of FORCE-CANCEL-ALL (R52); an exit from SERVICE that a FIRE record forces is made when its admission is complete, before the next channel (R171). -/
def State.forceCancelRequest (s : State) : State × Answer :=
  (allChannels.foldl (fun s c => (s.setForce c .none).settleExit) s, .plain .ok)

/-- FORCE_CANCEL_ALL (R52). -/
def execForceCancelAll (t : Nat) (payload : List Byte) (s : State) : Host.Outcome State Fault Refusal :=
  .next ((s.advance t).serve 0x21 payload payload.isEmpty [] State.forceCancelRequest)

/-- A request that names one channel: RANGE outside 1..8. -/
def State.channelRequest (payload : List Byte) (act : ChannelNo → State → State × Answer) (s : State) :
    State × Answer :=
  match ofNum 8 (argument payload 0) with
  | none => (s, .plain .range)
  | some c => act c s

/-- ISOLATE (R47). -/
def execIsolate (t : Nat) (payload : List Byte) (s : State) : Host.Outcome State Fault Refusal :=
  .next
    ((s.advance t).serve 0x22 payload (payload.length == 1) []
      (State.channelRequest payload fun c s =>
        if (s.channel c).isolated then (s, .plain .ok) else (s.isolateChannel c, .plain .ok)))

/-- DE_ISOLATE (R48). -/
def execDeIsolate (t : Nat) (payload : List Byte) (s : State) : Host.Outcome State Fault Refusal :=
  .next
    ((s.advance t).serve 0x23 payload (payload.length == 1) []
      (State.channelRequest payload fun c s =>
        if (s.channel c).isolated then (s.deIsolateChannel c, .plain .ok) else (s, .plain .ok)))

/-- UNLATCH (R46). -/
def execUnlatch (t : Nat) (payload : List Byte) (s : State) : Host.Outcome State Fault Refusal :=
  .next
    ((s.advance t).serve 0x24 payload (payload.length == 1) []
      (State.channelRequest payload fun c s =>
        if (s.channel c).latched = false then (s, .plain .ok)
        else if (s.channel c).confirmed = .active then (s, .plain .busy)
        else (s.unlatchChannel c, .plain .ok)))

/-! ### Settings, modes and the start hold (R166 to R173) -/

/-- GET (R166). -/
def execGet (t : Nat) (payload : List Byte) (s : State) : Host.Outcome State Fault Refusal :=
  .next
    ((s.advance t).serve 0x30 payload (payload.length == 3) []
      (fun s => (s, s.getAnswer (argument payload 0) (argument payload 1) (argument payload 2))))

/-- The length of a SET (R153): exactly what its table and count ask for, when it names a table. -/
def setLengthOk (payload : List Byte) : Bool :=
  decide (3 ≤ payload.length)
    && (decide (entrySize (argument payload 0) = 0)
      || payload.length == 3 + argument payload 2 * entrySize (argument payload 0))

/-- SET (R167). -/
def execSet (t : Nat) (payload : List Byte) (s : State) : Host.Outcome State Fault Refusal :=
  .next
    ((s.advance t).serve 0x31 payload (setLengthOk payload) []
      (fun s => s.writeTables (argument payload 0) (argument payload 1) (argument payload 2) (payload.drop 3)))

/-- SAVE (R169). -/
def execSave (t : Nat) (payload : List Byte) (s : State) : Host.Outcome State Fault Refusal :=
  .next ((s.advance t).serve 0x32 payload payload.isEmpty [] State.startSave)

/-- SERVICE is entered (R171). -/
def State.enterService (s : State) : State :=
  let s1 := s.setMode .service
  (s1.notice (.mode s1.mode s1.hold .request)).settleGate

/-- The owner's part of MODE (R171). -/
def State.modeRequest (payload : List Byte) (s : State) : State × Answer :=
  match Mode.ofCode (argument payload 0) with
  | none => (s, .plain .range)
  | some m =>
    if m = s.mode then (s, .plain .ok)
    else
      match m with
      | .operate => (s.serviceExit .request, .plain .ok)
      | .service => if s.holdsFire then (s, .plain .guarded) else (s.enterService, .plain .ok)

/-- MODE (R171). -/
def execMode (t : Nat) (payload : List Byte) (s : State) : Host.Outcome State Fault Refusal :=
  .next ((s.advance t).serve 0x33 payload (payload.length == 1) [] (State.modeRequest payload))

/-- The owner's part of RELEASE (R173). -/
def State.releaseRequest (s : State) : State × Answer :=
  match s.hold with
  | .released => (s, .plain .ok)
  | .held =>
    if s.storeCorrupt then (s, .plain .guarded)
    else (s.releaseHold .release, .plain .ok)

/-- RELEASE (R173). -/
def execRelease (t : Nat) (payload : List Byte) (s : State) : Host.Outcome State Fault Refusal :=
  .next ((s.advance t).serve 0x34 payload payload.isEmpty [] State.releaseRequest)

end Sys2Proof.Machine
end

