-- ==== Sys2Proof/Machine/StartUp.lean ====
section
/-! DEFINITION. The commands of reset and start-up: RESET and LOADER_DONE (`10` R170, R174). -/

namespace Sys2Proof.Machine

/-- The fitted count that the two line-count straps give (R170). -/
def fittedCount (firstClosed secondClosed : Bool) : Nat :=
  match firstClosed, secondClosed with
  | false, false => 1
  | true, false => 2
  | false, true => 3
  | true, true => 4

/-- What a reset leaves in the store: a SAVE that is writing stops at its page (R169). -/
def State.storeAfterReset (s : State) : List Host.Cell :=
  match s.save with
  | some w => tornStore s.store s.free w.page
  | none => s.store

/-- RESET: every block takes its values after reset (R11, R17, R53, R55, R85, R112, R131, R164, R170). -/
def execReset (firstClosed secondClosed holdAsserted : Bool) (s : State) : Host.Outcome State Fault Refusal :=
  .next
    (State.afterReset (fittedCount firstClosed secondClosed) holdAsserted s.mainsFail (fun l => (s.line l).toneOn)
      s.storeAfterReset s.pending (if s.save.isSome then s.free + 1 else s.free))

/-- The hold at the end of the load (R173). -/
def State.settleHold (s : State) : State :=
  s.setHold (if s.holdStrap || s.t1.holdFlag || s.storeCorrupt then .held else .released)

/-- STARTED: the receiver enters HUNT, and the notice is the first that is formed (R151, R159, R174). -/
def State.sendStarted (s : State) : State :=
  let s1 := s.setLink { s.link with receiver := .hunt }
  s1.notice (.started s1.fitted s1.mode s1.hold s1.supply s1.link.faults.length)

/-- The occupancies once T2 is loaded: a fitted line that T2 disables is OFFLINE (R17). No notice is formed before STARTED. -/
def State.settleOccupancies (s : State) : State :=
  allLines.foldl (fun s l => s.setCtl l { s.ctl l with occupancy := s.occupancyNow l }) s

/-- The fitted enabled lines enter SENSE (R17). -/
def State.powerLines (s : State) : State :=
  allLines.foldl (fun s l => if s.usable l then s.lineOn l else s) s

/-- The end of start-up (R174). -/
def State.finishLoad (s : State) : State :=
  let s1 := (s.loadTables.settleOccupancies.settleHold).evaluateRoutes
  let s2 := if s1.supply = .reserve then s1.faultActive .supplyReserve 0 else s1
  let s3 := s2.sendStarted.settleGate
  let s4 := (s3.setLoading false).powerLines
  if s4.supply = .reserve then s4.report (partReport .trouble .new 903 0) else s4

/-- LOADER_DONE (R170, R174). -/
def execLoaderDone (t : Nat) (s : State) : Host.Outcome State Fault Refusal :=
  let s := s.advance t
  .next (if s.loading then s.finishLoad.settle else s)

end Sys2Proof.Machine
end

