-- ==== Sys2Proof/Machine/Dispatch.lean ====
section
/-! DEFINITION. `exec`: one arm for each command, a direct call of its meaning. -/

namespace Sys2Proof.Machine

def exec (i : Instr) (s : State) : Host.Outcome State Fault Refusal :=
  match i with
  | .reset firstClosed secondClosed holdAsserted => Sys2Proof.Machine.execReset firstClosed secondClosed holdAsserted s
  | .loaderDone t => Sys2Proof.Machine.execLoaderDone t s
  | .loopSample t line volts => Sys2Proof.Machine.execLoopSample t line volts s
  | .ringOffTimerExpiry t line => Sys2Proof.Machine.execRingOffTimerExpiry t line s
  | .toneQualified t line => Sys2Proof.Machine.execToneQualified t line s
  | .toneEnded t line => Sys2Proof.Machine.execToneEnded t line s
  | .mainsFailInput t failed => Sys2Proof.Machine.execMainsFailInput t failed s
  | .supplyChange t => Sys2Proof.Machine.execSupplyChange t s
  | .promotionComplete t line => Sys2Proof.Machine.execPromotionComplete t line s
  | .probeTimerExpiry t line => Sys2Proof.Machine.execProbeTimerExpiry t line s
  | .lendIdleExpiry t line => Sys2Proof.Machine.execLendIdleExpiry t line s
  | .inputReading t channel code => Sys2Proof.Machine.execInputReading t channel code s
  | .ageTick t ticket => Sys2Proof.Machine.execAgeTick t ticket s
  | .periodicTestExpiry t => Sys2Proof.Machine.execPeriodicTestExpiry t s
  | .backoffEnd t receiver => Sys2Proof.Machine.execBackoffEnd t receiver s
  | .restEnd t receiver => Sys2Proof.Machine.execRestEnd t receiver s
  | .fireWaitExpiry t => Sys2Proof.Machine.execFireWaitExpiry t s
  | .cleardownEnd t line => Sys2Proof.Machine.execCleardownEnd t line s
  | .dialToneRecognised t line => Sys2Proof.Machine.execDialToneRecognised t line s
  | .dialtoneTimeout t line => Sys2Proof.Machine.execDialtoneTimeout t line s
  | .dialSymbolToneEnd t line => Sys2Proof.Machine.execDialSymbolToneEnd t line s
  | .dialSymbolEnd t line => Sys2Proof.Machine.execDialSymbolEnd t line s
  | .secondToneRecognised t line => Sys2Proof.Machine.execSecondToneRecognised t line s
  | .secondToneTimeout t line => Sys2Proof.Machine.execSecondToneTimeout t line s
  | .ringWaitTimeout t line => Sys2Proof.Machine.execRingWaitTimeout t line s
  | .handshakeTimeout t line => Sys2Proof.Machine.execHandshakeTimeout t line s
  | .callLimitExpiry t line => Sys2Proof.Machine.execCallLimitExpiry t line s
  | .releaseGuardEnd t line => Sys2Proof.Machine.execReleaseGuardEnd t line s
  | .delayEnd t line => Sys2Proof.Machine.execDelayEnd t line s
  | .blockSymbolToneEnd t line => Sys2Proof.Machine.execBlockSymbolToneEnd t line s
  | .blockSymbolEnd t line => Sys2Proof.Machine.execBlockSymbolEnd t line s
  | .replyTimeout t line => Sys2Proof.Machine.execReplyTimeout t line s
  | .retryEnd t line => Sys2Proof.Machine.execRetryEnd t line s
  | .gapEnd t line => Sys2Proof.Machine.execGapEnd t line s
  | .frameReceived t last => Sys2Proof.Machine.execFrameReceived t last s
  | .interByteTimeout t => Sys2Proof.Machine.execInterByteTimeout t s
  | .frameSent t decodeFirst => Sys2Proof.Machine.execFrameSent t decodeFirst s
  | .unknownKind t kind payload => Sys2Proof.Machine.execUnknownKind t kind payload s
  | .echo t payload => Sys2Proof.Machine.execEcho t payload s
  | .ident t payload => Sys2Proof.Machine.execIdent t payload s
  | .status t payload => Sys2Proof.Machine.execStatus t payload s
  | .queueList t payload => Sys2Proof.Machine.execQueueList t payload s
  | .receiverList t payload => Sys2Proof.Machine.execReceiverList t payload s
  | .lineList t payload => Sys2Proof.Machine.execLineList t payload s
  | .channelList t payload => Sys2Proof.Machine.execChannelList t payload s
  | .faultRead t payload => Sys2Proof.Machine.execFaultRead t payload s
  | .faultClear t payload => Sys2Proof.Machine.execFaultClear t payload s
  | .raise t payload => Sys2Proof.Machine.execRaise t payload s
  | .withdraw t payload => Sys2Proof.Machine.execWithdraw t payload s
  | .testCall t payload => Sys2Proof.Machine.execTestCall t payload s
  | .lend t payload => Sys2Proof.Machine.execLend t payload s
  | .reclaim t payload => Sys2Proof.Machine.execReclaim t payload s
  | .force t payload => Sys2Proof.Machine.execForce t payload s
  | .forceCancelAll t payload => Sys2Proof.Machine.execForceCancelAll t payload s
  | .isolate t payload => Sys2Proof.Machine.execIsolate t payload s
  | .deIsolate t payload => Sys2Proof.Machine.execDeIsolate t payload s
  | .unlatch t payload => Sys2Proof.Machine.execUnlatch t payload s
  | .abortCall t payload => Sys2Proof.Machine.execAbortCall t payload s
  | .get t payload => Sys2Proof.Machine.execGet t payload s
  | .set t payload => Sys2Proof.Machine.execSet t payload s
  | .save t payload => Sys2Proof.Machine.execSave t payload s
  | .savePageWritten t differ => Sys2Proof.Machine.execSavePageWritten t differ s
  | .mode t payload => Sys2Proof.Machine.execMode t payload s
  | .release t payload => Sys2Proof.Machine.execRelease t payload s
  | .holdLimitExpiry t => Sys2Proof.Machine.execHoldLimitExpiry t s
  | .incomingByte t b => Sys2Proof.Machine.execIncomingByte t b s
  | .toneAppears t line band => Sys2Proof.Machine.execToneAppears t line band s
  | .toneStops t line band => Sys2Proof.Machine.execToneStops t line band s
  | .countingSegmentOverrun t line => Sys2Proof.Machine.execCountingSegmentOverrun t line s

end Sys2Proof.Machine
end

