-- ==== Sys2Proof/Safety.lean ====
section
/-! DEFINITION. The terms in which claims are stated: groups of state that a command leaves alone, what a record is known by, and the conditions that hold of a part that runs as the manual says. -/

namespace Sys2Proof.Machine

/-! ### Groups of state -/

/-- What only commands of their own change: clock, pins, working tables, store, SAVE, supply, waiting commands, the receiving side of the Host Link and the response in hand, and the tone on the lines. -/
structure Base where
  now : Nat
  mainsFail : Bool
  fitted : Nat
  holdStrap : Bool
  loading : Bool
  tables : Tables
  store : List Host.Cell
  save : Option Save
  supply : Supply
  supplyTimer : Option Nat
  pending : List Instr
  free : Nat
  receiver : Receiver
  byteTimer : Option Nat
  requests : List Request
  requestsLost : Bool
  inHand : Option (List Byte)
  toneOn : LineNo → PerBand Bool

def State.base (s : State) : Base :=
  { now := s.now, mainsFail := s.mainsFail, fitted := s.fitted, holdStrap := s.holdStrap, loading := s.loading,
    tables := s.tables, store := s.store, save := s.save, supply := s.supply, supplyTimer := s.supplyTimer,
    pending := s.pending, free := s.free, receiver := s.link.receiver, byteTimer := s.link.byteTimer,
    requests := s.link.requests, requestsLost := s.link.requestsLost, inHand := s.link.inHand,
    toneOn := fun l => (s.line l).toneOn }

/-- What an act of the Dispatcher leaves unchanged: base, mode, hold, hold-limit timer, channels, routes and queue. -/
structure Steady where
  base : Base
  mode : Mode
  hold : Hold
  holdTimer : Option Nat
  channels : Vector InputChannel 8
  routes : Vector RouteEval 8
  queue : Queue

def State.steady (s : State) : Steady :=
  { base := s.base, mode := s.mode, hold := s.hold, holdTimer := s.holdTimer, channels := s.channels,
    routes := s.routes, queue := s.queue }

/-- What forcing and reconciling leave of a channel: its readings and its isolation. -/
def InputChannel.readings (x : InputChannel) : InputClass × Option InputClass × Option Nat × InputClass × Bool :=
  (x.measured, x.candidate, x.debounce, x.confirmed, x.isolated)

/-- The readings of every channel. -/
def State.readings (s : State) : ChannelNo → InputClass × Option InputClass × Option Nat × InputClass × Bool :=
  fun c => (s.channel c).readings

/-- What an act of the Dispatcher leaves of a line that has no lend pending. -/
structure LineCore where
  sense : Sense
  toneOn : PerBand Bool
  power : Power
  classOcc : ClassOcc
  fault : LineFault
  noTone : Nat
  probeTimer : Option Nat
  disablePending : Bool
  sending : Slot
  next : Slot

def Line.core (x : Line) : LineCore :=
  { sense := x.sense, toneOn := x.toneOn, power := x.ctl.power, classOcc := x.ctl.classOcc, fault := x.ctl.fault,
    noTone := x.ctl.noTone, probeTimer := x.ctl.probeTimer, disablePending := x.ctl.disablePending,
    sending := x.sending, next := x.next }

/-- A line but for its promotion, which another line's may start. -/
def Line.parked (x : Line) : Line := { x with ctl := { x.ctl with promotion := .none } }

/-- What a record is known by as long as the queue holds it: its ticket and its report. -/
def State.reports (s : State) : List (Nat × Report) := s.queue.records.map fun r => (r.ticket, r.report)

/-! ### Requests and their responses -/

/-- The request is the oldest that waits, and no response is in hand (R152, R153). -/
def State.Asked (s : State) (kind : Byte) (payload : List Byte) : Prop :=
  s.link.inHand = none ∧ s.link.requests.head? = some { kind, payload }

/-- The frame of a response: kind, status code, flags byte with REQUESTS-LOST as it stands, response fields (R153). -/
def Link.responseTo (k : Link) (kind : Byte) (code flags : Nat) (fields : List Byte) : List Byte :=
  frame kind (u8 code :: u8 (flags + if k.requestsLost then 8 else 0) :: fields)

/-- The Host Link with a response in hand: the requests-lost flag is cleared with it, and an IDLE transmitter begins it (R152, R160). -/
def Link.holding (k : Link) (f : List Byte) : Link :=
  { k with
    inHand := some f, requestsLost := false
    transmitter := if k.transmitter = .idle then .response f else k.transmitter }

/-- A state in which a response has been formed and nothing else has happened. -/
def State.answered (s : State) (kind : Byte) (code flags : Nat) (fields : List Byte) : State :=
  s.setLink (s.link.holding (s.link.responseTo kind code flags fields))

/-- The response that `s` waits for is in hand in `t`. -/
def Answered (s t : State) (kind : Byte) (code flags : Nat) (fields : List Byte) : Prop :=
  t.link.inHand = some (s.link.responseTo kind code flags fields) ∧ t.link.requestsLost = false

/-! ### Lines and calls -/

/-- A line whose call has ended and which waits out the release guard (R127, R128): on-hook, relay closed, sender silent, detector stopped, slots empty, the result kept; the call's tone record stays (log 45). -/
def Line.released (x : Line) (c : Call) (result : CallResult) (now : Nat) : Line :=
  { x with
    iface := { offHook := false, relayOpen := false, sender := none }
    detector := { listening := false, muted := false, since := ⟨none, none, none⟩, segment := none }
    sending := { tickets := [], block := [] }, next := { tickets := [], block := [] }
    call := some { c with
      state := .release, stateTimer := some (now + 2000), limitTimer := none, result := some result } }

/-- The result of a call by its purpose (R130): a probe has two. -/
def resultFor (p : Purpose) (result : CallResult) : CallResult :=
  match p with
  | .report => result
  | .probe => if result = .probeOk then .probeOk else .probeFailed

/-- The state timer of the line's call, which is in a state, has expired at an instant. -/
def State.TimerEnds (s : State) (line : LineNo) (c : Call) (t : Nat) : Prop :=
  s.call line = some c ∧ ∃ e, c.stateTimer = some e ∧ e ≤ max s.now t

/-! ### Conditions of a part that runs as the manual says -/

/-- No block has been told anything that it has not acted on (log 4, log 5). -/
def State.Rested (s : State) : Prop := s.work = Work.idle

/-- The gate is OPEN exactly in OPERATE with the hold RELEASED (R97), and a CLOSED gate has no URGENT-PENDING condition, no record held back and no FIRE-wait timer (R98). -/
def State.GateKept (s : State) : Prop :=
  s.dispatcher.gateOpen = (s.mode == .operate && s.hold == .released) ∧
    (s.dispatcher.gateOpen = false → s.dispatcher = Dispatcher.reset)

/-- The fitted count is 1..4 (R170) and the rotation counter names one of the fitted lines (R33). -/
def State.RotationKept (s : State) : Prop := 1 ≤ s.fitted ∧ s.fitted ≤ 4 ∧ 1 ≤ s.rotation ∧ s.rotation ≤ s.fitted

/-- The buffers of the Host Link hold at most two requests (R152) and sixteen notices (R159). -/
def State.BuffersKept (s : State) : Prop := s.link.requests.length ≤ 2 ∧ s.link.notices.length ≤ 16

/-- In OPERATE no channel is forced (R50, R52), and an isolated channel never is (R47, R50). -/
def State.ForceKept (s : State) : Prop :=
  ∀ c, (s.mode = .operate ∨ (s.channel c).isolated = true) → (s.channel c).force = .none

/-- At most 32 ordinary records and one LOSS record (R62, R63), each with a ticket 1..65535 of its own (R56, R58). -/
def State.QueueKept (s : State) : Prop :=
  s.ordinaryCount ≤ 32 ∧ (s.queue.records.countP fun r => r.reserved) ≤ 1 ∧
    (s.queue.records.map Record.ticket).Nodup ∧
    (∀ r ∈ s.queue.records, 1 ≤ r.ticket ∧ r.ticket ≤ 65535) ∧
    1 ≤ s.queue.ticketCounter ∧ s.queue.ticketCounter ≤ 65535

/-- The record in the reserved slot is the one that carries the LOSS report (R63); no other source gives that report (R77). -/
def State.LossKept (s : State) : Prop := ∀ r ∈ s.queue.records, r.reserved = true ↔ r.report = lossReport

/-- The instances of a fault kind (`09` section 9.5). -/
def FaultKind.instances : FaultKind → List Nat
  | .storeCorrupt | .supplyReserve | .commFailure | .queueLoss => [0]
  | .storeSection => [1, 2, 3, 4, 5, 6]
  | .lineDown | .lineNoTone => [1, 2, 3, 4]
  | .routeInvalid | .channelWiring => [1, 2, 3, 4, 5, 6, 7, 8]

/-- The fault list holds one entry for each kind and instance that it holds, and only instances there are (R161). -/
def State.FaultsKept (s : State) : Prop :=
  (s.link.faults.map fun e => (e.kind, e.inst)).Nodup ∧ ∀ e ∈ s.link.faults, e.inst ∈ e.kind.instances

/-- The deferred count is the number of deferred records that are WAITING or STRANDED, and the pressure stands as the marks ask of that count (R73). -/
def State.PressureKept (s : State) : Prop :=
  (s.queue.deferred = s.queue.records.countP fun r =>
      decide (2 < r.report.cls.rank) && (r.state == .waiting || r.state == .stranded)) ∧
    (s.queue.pressure = true → s.t1.lowMark < s.queue.deferred) ∧
    (s.queue.pressure = false → s.queue.deferred < s.t1.highMark)

/-! ### Settings within their ranges (`10` R165) -/

def T1.InRange (e : T1) : Prop :=
  (60 ≤ e.callLimit ∧ e.callLimit ≤ 600) ∧ (2 ≤ e.retryBase ∧ e.retryBase ≤ 60) ∧
    (30 ≤ e.retryCap ∧ e.retryCap ≤ 900) ∧ (60 ≤ e.rest ∧ e.rest ≤ 3600) ∧
    (4 ≤ e.urgencyAge ∧ e.urgencyAge ≤ 60) ∧ (4 ≤ e.highMark ∧ e.highMark ≤ 32) ∧ e.lowMark < e.highMark ∧
    e.testInterval ≤ 168 ∧ e.holdLimit ≤ 600 ∧ e.lendGrace ≤ 300 ∧ e.lendIdle ≤ 3600

def T2.InRange (e : T2) : Prop := e.dialPrefix.length ≤ 4 ∧ ∀ d ∈ e.dialPrefix, d ≤ 13

def T3.InRange (e : T3) : Prop :=
  e.dialNumber.length ≤ 20 ∧ (∀ d ∈ e.dialNumber, d ≤ 13) ∧ (4 ≤ e.account.length ∧ e.account.length ≤ 8) ∧
    (∀ d ∈ e.account, d ≤ 9) ∧ (1 ≤ e.attemptLimit ∧ e.attemptLimit ≤ 15) ∧ e.next ≤ 12

def T4.InRange (e : T4) : Prop := e.head ≤ 12

def T6.InRange (e : T6) : Prop :=
  e.sourceNumber ≤ 999 ∧ e.event ≤ 999 ∧ e.zone ≤ 999 ∧ (20 ≤ e.debounce ∧ e.debounce ≤ 2000 ∧ e.debounce % 20 = 0) ∧
    e.openCode ≤ 999 ∧ e.shortCode ≤ 999

/-- Every setting of every table is within its range. -/
def Tables.InRange (t : Tables) : Prop :=
  t.t1.InRange ∧ (∀ i : LineNo, (t.t2[i.val]).InRange) ∧ (∀ i : RxNo, (t.t3[i.val]).InRange) ∧
    (∀ i : RouteNo, (t.t4[i.val]).InRange) ∧ (∀ i : ChannelNo, (t.t6[i.val]).InRange)

end Sys2Proof.Machine
end

