-- ==== Sys2Proof/Certificates/Slice0/Obligations.lean ====
section
/-! DEFINITION. The statements for the provers. Each is a proposition about the model, in the words of a rule of spec/ or derived from several. -/

open Sys2Proof Sys2Proof.Machine

/-! ### Figures of the manual that statements use -/

/-- The window class of R3, from the confirmed class and the eight samples. -/
def classOfWindow (confirmed : LoopClass) (window : List Int) : LoopClass :=
  let average := (window.map fun v => v.natAbs).sum / 8
  if (∃ v ∈ window, 650 ≤ v) ∧ ∃ v ∈ window, v ≤ -650 then .ring
  else if (if confirmed = .onHook then 280 else 320) ≤ average then .onHook
  else if 40 ≤ average then .offHook
  else .dead

/-- The window makes `w` the confirmed class: a settling window, or the end of a full run of a class that is not the confirmed one (R4, R7). -/
def Confirms (u : Sense) (window : List Int) (w : LoopClass) : Prop :=
  w = classOfWindow u.confirmed window ∧
    (u.settling = true ∨
      (w ≠ u.confirmed ∧ (if w = .dead then 25 else 4) ≤ if u.candidate = some w then u.run + 1 else 1))

/-- The class occupancy after the unit's confirmation of `w`: RINGING is left only for DEAD and by a settling window (R18, R19). -/
def occupancyAfter (u : Sense) (before : ClassOcc) (w : LoopClass) : ClassOcc :=
  match w with
  | .ring => .ringing
  | .dead => .down
  | .unknown => .unknown
  | .onHook => if before = .ringing ∧ u.settling = false then .ringing else .free
  | .offHook => if before = .ringing ∧ u.settling = false then .ringing else .tenant

/-- The occupancy that shows a class occupancy (R18). -/
def shown (o : ClassOcc) : Occupancy :=
  match o with
  | .unknown => .unknown
  | .free => .free
  | .tenant => .tenant
  | .ringing => .ringing
  | .down => .down

/-- The measured class of a reading code (R39). -/
def classOfReading (code : Nat) : InputClass :=
  if code ≤ 99 then .shortLoop else if code ≤ 399 then .normal else if code ≤ 799 then .active else .openLoop

/-- The wiring that a confirmed state reports (R42). -/
def wiringOf (m : InputClass) : Wiring :=
  match m with
  | .openLoop => .openLoop
  | .shortLoop => .shortLoop
  | .normal | .active => .none

/-- A report of the part about itself: source kind PART, source number 0, class TROUBLE (R21, R22, R26, R47). -/
def trouble (qualifier : Qualifier) (event zone : Nat) : Report :=
  { cls := .trouble, qualifier, source := .part, sourceNumber := 0, event, zone }

/-- The reports that reconcile a channel's reported wiring with a confirmed state (R42, R44). -/
def wiringReports (e : T6) (before : Wiring) (m : InputClass) : List Report :=
  let raised := fun (code : Nat) (q : Qualifier) =>
    ({ cls := .trouble, qualifier := q, source := .input, sourceNumber := e.sourceNumber, event := code, zone := e.zone } : Report)
  let code := fun w : Wiring => match w with
    | .none => []
    | .openLoop => [e.openCode]
    | .shortLoop => [e.shortCode]
  if wiringOf m = before then []
  else ((code before).map fun k => raised k .restore) ++ (code (wiringOf m)).map fun k => raised k .new

/-- The active event report of a channel (R44). -/
def eventReport (e : T6) (q : Qualifier) : Report :=
  { cls := e.cls, qualifier := q, source := .input, sourceNumber := e.sourceNumber, event := e.event, zone := e.zone }

/-- The report that reconciles a channel's standing alarm with a confirmed state, if there is one (R43, R44). -/
def alarmReports (e : T6) (x : InputChannel) (m : InputClass) : List Report :=
  match m, x.alarm, x.latched with
  | .active, false, _ => [eventReport e .new]
  | .normal, true, false => if e.restoreReporting then [eventReport e .restore] else []
  | _, _, _ => []

/-- The channel once it has been reconciled with the confirmed state `m` (R42, R43, R45). -/
def reconciled (e : T6) (x : InputChannel) (m : InputClass) : InputChannel :=
  { x with
    wiring := wiringOf m
    alarm := if m = .active then true else if m = .normal ∧ x.latched = false then false else x.alarm
    latched := if m = .active ∧ x.alarm = false ∧ e.latching = true then true else x.latched }

/-- The reports of a force that takes a value: the test report, and what the reconciliation of a channel that is forced no longer raises (R49). -/
def forceReports (e : T6) (x : InputChannel) (f : Force) : List Report :=
  let test := fun q => ({ eventReport e q with cls := .routine } : Report)
  if f = x.force then []
  else
    (if f = .active then [test .testNew] else if x.force = .active then [test .testRestore] else []) ++
      if f = .none ∧ x.isolated = false then wiringReports e x.wiring x.confirmed ++ alarmReports e x x.confirmed else []

/-- A channel whose force has taken a value (R49). -/
def forcedChannel (e : T6) (x : InputChannel) (f : Force) : InputChannel :=
  if f = .none ∧ x.force ≠ .none ∧ x.isolated = false then reconciled e { x with force := .none } x.confirmed
  else { x with force := f }

/-- The reports of several channels enter behind every record, in channel order; shown where none of them is there to join and the queue has room. -/
def Enter (s u : State) (reports : List Report) : Prop :=
  (∀ r ∈ s.queue.records, r.report.source ≠ .input) → reports.Pairwise (fun a b => { a with cls := b.cls } ≠ b) →
    s.ordinaryCount + reports.length ≤ 32 → ∃ new, u.reports = s.reports ++ new ∧ new.map Prod.snd = reports

/-- The symbol at a position of a dial string begins: a tone symbol for 80 ms, a pause of 2 s, a 'W' that waits 5 s for second dial tone; past the last symbol RING-WAIT begins for 45 s (R117, R119, R120, R121). `x` is the line after. -/
def NextSymbol (before x : Line) (dialString : List Nat) (dialPos now : Nat) : Prop :=
  ∃ c1, x.call = some c1 ∧ c1.dialPos = dialPos ∧ c1.dialString = dialString ∧
    (∀ d, dialString[dialPos]? = some d → d < 12 →
      c1.state = .dialling ∧ c1.stateTimer = some (now + 80) ∧ x.iface = { before.iface with sender := some d } ∧
        x.detector.muted = true) ∧
    (dialString[dialPos]? = some 12 →
      c1.state = .dialling ∧ c1.stateTimer = some (now + 2000) ∧ x.iface = before.iface ∧ x.detector.muted = false) ∧
    (dialString[dialPos]? = some 13 →
      c1.state = .secondTone ∧ c1.stateTimer = some (now + 5000) ∧ x.iface = before.iface ∧
        x.detector.muted = false) ∧
    (dialString[dialPos]? = none →
      c1.state = .ringWait ∧ c1.stateTimer = some (now + 45000) ∧ c1.tone.busyRun = 0 ∧ c1.tone.ringFrom = now ∧
        x.iface = before.iface ∧ x.detector.muted = false)

/-- The position past every 'W' that stands from a position on. -/
def pastWaits (dialString : List Nat) (dialPos : Nat) : Nat :=
  dialPos + ((dialString.drop dialPos).takeWhile fun d => d = 13).length

/-- The backoff of R89 after failure `f`: the base doubled for each failure before it, at most the cap. -/
def backoffTime (base cap f : Nat) : Nat := min (base * 2 ^ (f - 1)) cap

/-- The classes from the best rank to the worst (R57). -/
def ranked : List ReportClass := [.fire, .supervisory, .trouble, .plant, .routine]

/-- The records in queue order: class rank first, then order of admission (R59). -/
def inRank (s : State) : List Record :=
  (ranked.map fun c => s.queue.records.filter fun r => r.report.cls = c).flatten

/-- The first entry of a pending list whose receiver is not EXHAUSTED (R84). -/
def firstUsable (s : State) (pendingList : List RxNo) : Option RxNo :=
  pendingList.find? fun e => (s.rx e).state ≠ .exhausted

/-- A record that is WAITING and whose target is READY (R100). -/
def waitsForReady (s : State) (r : Record) : Bool :=
  decide (r.state = .waiting) && (match firstUsable s r.pendingList with
    | some e => decide ((s.rx e).state = .ready)
    | none => false)

/-- R74. -/
def seizes (s : State) (r : Record) : Bool :=
  decide (r.report.cls = .fire ∨ r.report.cls = .supervisory ∨ s.t1.urgencyAge ≤ r.age ∨ s.queue.pressure = true)

/-- The line would be granted for a seize-eligible record (R30). -/
def Grants (s : State) (l : LineNo) : Prop :=
  (s.ctl l).fault = .none ∧
    ((s.ctl l).occupancy = .free ∨ ((s.ctl l).occupancy = .tenant ∧ (s.t2 l).seizeTenant = true))

/-- The occupancy and idle timer of a lend that begins now (R34, R36). -/
def Lends (s u : State) (l : LineNo) (now : Nat) : Prop :=
  (u.ctl l).lend = .lent ∧ (u.ctl l).occupancy = .lent ∧
    (u.ctl l).lendIdle =
      if (s.ctl l).classOcc = .free ∧ s.t1.lendIdle ≠ 0 then some (now + s.t1.lendIdle * 1000) else none

/-- The records in a state's queue that wait for a receiver, in queue order (R67). -/
def waitingFor (s : State) (e : RxNo) : List Record :=
  (inRank s).filter fun r => r.state = .waiting ∧ firstUsable s r.pendingList = some e

/-- A slot holds the records of some tickets in queue order, with the block that they compose (R137). -/
def SlotHolds (s : State) (slot : Slot) (account : List Nat) (tickets : List Nat) : Prop :=
  let held := (inRank s).filter fun r => r.ticket ∈ tickets
  slot = { tickets := held.map Record.ticket, block := composeBlock account (held.map Record.report) }

/-- Every record that the slots of a line held in `s` is back in `u`: WAITING if it has a target, else STRANDED, with all it had, and the LOSS record with the held losses added (R64, R68). -/
def SlotsAreReturned (s u : State) (l : LineNo) : Prop :=
  (∀ r ∈ s.queue.records, r.ticket ∈ (s.line l).sending.tickets ++ (s.line l).next.tickets →
      r.state = .staged ∨ r.state = .inFlight →
      { r with
          state := if (firstUsable s r.pendingList).isSome then .waiting else .stranded
          repeats := if r.reserved then min 255 (r.repeats + s.queue.heldLosses) else r.repeats } ∈ u.queue.records ∧
        (r.reserved = true → u.queue.heldLosses = 0)) ∧
    (u.line l).sending.tickets = [] ∧ (u.line l).next.tickets = [] ∧ u.reports = s.reports

/-- The record that an admission without an eviction makes now, WAITING (R56, R58, R60, R65). -/
def newRecord (s : State) (rep : Report) (clock : Nat) : Record :=
  { ticket := s.ticketToGive, report := rep, route := s.classRoute rep.cls
    pendingList := s.buildPending (s.classRoute rep.cls) [], acceptedList := [], state := .waiting, age := 0, repeats := 0
    enteredAt := clock, reserved := false }

/-- The state with other records in its queue. -/
def withRecords (s : State) (rs : List Record) : State := { s with queue := { s.queue with records := rs } }

/-- The LOSS record has left the queue (R64, R71): QUEUE-LOSS is cleared if no losses are held, else a new LOSS record has entered with the others in its repeat count. -/
def LossLeaves (s u : State) : Prop :=
  (s.queue.heldLosses = 0 → u.lossRecord = none ∧ u.queue.heldLosses = 0 ∧
    (s.FaultsKept → ⟨.queueLoss, 0, true⟩ ∉ u.link.faults)) ∧
  (s.queue.heldLosses ≠ 0 → u.queue.heldLosses = 0 ∧
    (∃ y, u.lossRecord = some y ∧ y.report = lossReport ∧ y.repeats = s.queue.heldLosses - 1 ∧ y.acceptedList = [] ∧
      y.age = 0) ∧
    (⟨.queueLoss, 0, true⟩ ∈ u.link.faults ↔ ⟨.queueLoss, 0, true⟩ ∈ s.link.faults))

/-- The call to `e` on a line waits for its reply, and the END report of an ACCEPT is due (R14, R141). -/
def HearsAccept (s : State) (line : LineNo) (c : Call) (e : RxNo) (t : Nat) : Prop :=
  s.call line = some c ∧ c.receiver = some e ∧ (s.ctl line).occupancy = .call ∧ (s.ctl line).lend ≠ .lent ∧
    ∃ opened onset stop, c.state = .exchange (.reply opened) ∧ opened ≤ onset ∧ onset ≤ opened + 1500 ∧
      600 ≤ stop - onset ∧ stop - onset ≤ 1100 ∧ stop + 20 ≤ max s.now t ∧
      (s.line line).detector =
        { listening := true, muted := false, since := ⟨none, none, none⟩
          segment := some { band := .t2, onset, stopped := some stop } }

/-- The URGENT-PENDING condition of R37. -/
def UrgentHolds (s : State) : Prop :=
  s.dispatcher.gateOpen = true ∧ (∃ r ∈ s.queue.records, waitsForReady s r = true ∧ seizes s r = true) ∧
    (∀ l : LineNo, l.val < s.fitted → ¬Grants s l) ∧ ∃ l, (s.ctl l).lend = .lent

/-- The walk of a chain passes the entries of a list in turn from a current entry, each with a number to dial, and comes to `last` (R81). -/
def Passes (t3 : Vector T3 12) : Nat → List RxNo → Nat → Prop
  | current, [], last => current = last
  | current, e :: rest, last => current = num e ∧ (t3[e.val]).dialNumber ≠ [] ∧ Passes t3 (t3[e.val]).next rest last

/-- The chain of a valid route (R81). -/
def IsRouteChain (t3 : Vector T3 12) (head : Nat) (chain : List RxNo) : Prop :=
  chain ≠ [] ∧ chain.length ≤ 4 ∧ chain.Nodup ∧ Passes t3 head chain 0

/-- The walk of a chain ends at step 2, with four entries passed and a further one current, or at step 4, at an entry met again (R81). -/
def WalkBreaks (t3 : Vector T3 12) (head : Nat) : Prop :=
  ∃ (passed : List RxNo) (e : RxNo), passed.Nodup ∧ Passes t3 head passed (num e) ∧ (passed.length = 4 ∨ e ∈ passed)

/-- Every route has the validity and chain of its walk (R81). -/
def RoutesAreWalked (u : State) : Prop :=
  (∀ (r : RouteNo) (chain : List RxNo), IsRouteChain u.tables.t3 (u.t4 r).head chain →
    u.route r = { valid := true, chain }) ∧
  ∀ r : RouteNo, (∀ chain, ¬IsRouteChain u.tables.t3 (u.t4 r).head chain) → u.route r = { valid := false, chain := [] }

/-- ROUTE-INVALID is active exactly for an invalid route that a class names (R82). -/
def InvalidRoutesAreReported (u : State) : Prop :=
  ∀ r : RouteNo, ⟨.routeInvalid, num r, true⟩ ∈ u.link.faults ↔
    (u.route r).valid = false ∧ ∃ cls, u.classRoute cls = r

/-- The search for a line ends on `line`: the first FREE line without a fault in rotation order, or, with none FREE and the record seize-eligible, the first that would be granted (R30, R102). -/
def SearchEnds (s : State) (eligible : Prop) (line : LineNo) : Prop :=
  let free := fun l => (s.ctl l).occupancy = .free ∧ (s.ctl l).fault = .none
  ∃ before after, rotationOrder s.fitted s.rotation = before ++ line :: after ∧
    ((free line ∧ ∀ k ∈ before, ¬free k) ∨
      (eligible ∧ (∀ k, ¬free k) ∧ Grants s line ∧ ∀ k ∈ before, ¬Grants s k))

/-- A REPORT call to a receiver stands on the line that was granted, with the failures the receiver had; the rotation counter has moved down by one (R30, R33, R86, R104). -/
def CallBegun (s u : State) (line : LineNo) (e : RxNo) (seizing : Bool) : Prop :=
  (∃ c, u.call line = some c ∧ c.purpose = .report ∧ c.receiver = some e) ∧ (u.rx e).state = .calling ∧
    (u.rx e).failures = (s.rx e).failures ∧ (u.ctl line).occupancy = .call ∧
    (u.ctl line).grant = some (if seizing = true ∧ (s.t2 line).seizeTenant = true then .seizing else .trickle) ∧
    u.rotation = if s.rotation ≤ 1 then s.fitted else s.rotation - 1

/-! ### The layouts of section 9.7, written out -/

/-- A number in two bytes, most significant first. -/
def twoBytes (n : Nat) : List Byte := [u8 (n / 256), u8 n]

/-- A number in four bytes, most significant first. -/
def fourBytes (n : Nat) : List Byte := [u8 (n / 16777216), u8 (n / 65536), u8 (n / 256), u8 n]

/-- The flags of yes and no. -/
def yes (b : Bool) : Byte := if b then 1 else 0

/-- The code of a value, from its place among the values that have the codes from `first` on. -/
def code {α : Type} [DecidableEq α] (first : Nat) (values : List α) (x : α) : Byte := u8 (first + values.idxOf x)

/-- The first `n` places of a list of bytes, 0 beyond its length. -/
def places (n : Nat) (bs : List Byte) : List Byte := (List.range n).map fun i => bs.getD i 0

/-- Directory entries in `n` places, 0 beyond their number. -/
def entries (n : Nat) (es : List RxNo) : List Byte := places n (es.map fun e => u8 (num e))

/-- The code of a qualifier, its block symbol. -/
def qualifierByte (q : Qualifier) : Byte :=
  match q with
  | .new => 1
  | .restore => 3
  | .status => 6
  | .testNew => 7
  | .testRestore => 8

/-- A record image, 31 bytes. -/
def recordBytes (s : State) (r : Record) : List Byte :=
  twoBytes r.ticket ++
    [code 1 ranked r.report.cls, qualifierByte r.report.qualifier, code 1 [.input, .host, .part] r.report.source] ++
    twoBytes r.report.sourceNumber ++ twoBytes r.report.event ++ twoBytes r.report.zone ++ [u8 (num r.route)] ++
    [u8 r.pendingList.length] ++ entries 4 r.pendingList ++ [u8 r.acceptedList.length] ++ entries 4 r.acceptedList ++
    [code 1 [.waiting, .staged, .inFlight, .stranded] r.state, u8 r.age, u8 r.repeats] ++ fourBytes r.enteredAt ++
    [match firstUsable s r.pendingList with
      | some e => u8 (num e)
      | none => 0, yes (seizes s r)]

/-- A directory entry of RECEIVER-LIST; a due time is a part clock. -/
def receiverBytes (s : State) (e : RxNo) : List Byte :=
  [u8 (num e), code 1 [.ready, .calling, .backoff, .exhausted] (s.rx e).state, u8 (s.rx e).failures,
      u8 (s.t3 e).attemptLimit] ++
    twoBytes ((s.rx e).due.getD 0 - s.now / 1000) ++ [yes (decide ((s.t3 e).dialNumber = []))]

/-- A route of RECEIVER-LIST. -/
def routeBytes (s : State) (r : RouteNo) : List Byte :=
  [u8 (num r), code 1 [.any, .each] (s.t4 r).mode, yes (s.route r).valid, u8 (s.route r).chain.length] ++
    entries 4 (s.route r).chain

/-- A call state in LINE-LIST. -/
def callStateByte (st : CallState) : Byte :=
  match st with
  | .prepare => 1
  | .cleardown => 2
  | .dialtone => 3
  | .dialling => 4
  | .secondTone => 5
  | .ringWait => 6
  | .handshake => 7
  | .exchange _ => 8
  | .release => 9

/-- A line of LINE-LIST. What seized at and blocks accepted show when the call has none is not said (log 31), and of a line beyond the fitted count every byte but its number is 0 (log 19). -/
def IsLineBytes (s : State) (l : LineNo) (bs : List Byte) : Prop :=
  if l.val < s.fitted then
    ∃ seized blocks, seized.length = 4 ∧
      bs = [u8 (num l), code 0 [.offline, .unknown, .free, .tenant, .ringing, .down, .lent, .call] (s.ctl l).occupancy,
          code 0 [.none, .noTone] (s.ctl l).fault, code 0 [.off, .sense, .ready] (s.ctl l).power,
          code 0 [.none, .pending, .lent] (s.ctl l).lend, u8 (s.ctl l).noTone,
          code 0 [.unknown, .onHook, .offHook, .ring, .dead] (s.sense l).confirmed,
          code 0 [none, some .positive, some .negative] (s.sense l).polarity] ++
        (match s.call l with
          | none => [0, 0, 0]
          | some c => [callStateByte c.state, code 1 [.report, .probe] c.purpose, match c.receiver with
            | some e => u8 (num e)
            | none => 0]) ++ seized ++ [blocks] ∧
      ∀ c, s.call l = some c → blocks = u8 c.blocksAccepted ∧
        ∀ k, c.seizedAt = some k → k < 4294967296 → seized = fourBytes k
  else bs = u8 (num l) :: List.replicate 15 0

/-- A channel of CHANNEL-LIST. -/
def channelBytes (s : State) (c : ChannelNo) : List Byte :=
  let x := s.channel c
  let classes := [InputClass.normal, .active, .openLoop, .shortLoop]
  [u8 (num c), code 1 classes x.measured, match x.candidate with
      | some m => code 1 classes m
      | none => 0] ++
    twoBytes (x.debounce.getD 65535) ++
    [code 1 classes x.confirmed, match x.force with
      | .none => code 1 classes x.confirmed
      | .normal => 1
      | .active => 2, yes x.alarm, match x.wiring with
      | .none => 0
      | .openLoop => 3
      | .shortLoop => 4, yes x.latched, yes x.isolated, code 0 [.none, .normal, .active] x.force]

def t1Bytes (e : T1) : List Byte :=
  twoBytes e.callLimit ++ [u8 e.retryBase] ++ twoBytes e.retryCap ++ twoBytes e.rest ++
    [u8 e.urgencyAge, u8 e.highMark, u8 e.lowMark, u8 e.testInterval] ++ twoBytes e.holdLimit ++ twoBytes e.lendGrace ++
    twoBytes e.lendIdle ++ [yes e.holdFlag]

def t2Bytes (e : T2) : List Byte :=
  [yes e.enabled, yes e.seizeTenant, u8 e.dialPrefix.length] ++ places 4 (e.dialPrefix.map u8)

def t3Bytes (e : T3) : List Byte :=
  [u8 e.dialNumber.length] ++ places 20 (e.dialNumber.map u8) ++ [u8 e.account.length] ++ places 8 (e.account.map u8) ++
    [u8 e.attemptLimit, u8 e.next]

def t4Bytes (e : T4) : List Byte := [u8 e.head, code 1 [.any, .each] e.mode]

def t6Bytes (e : T6) : List Byte :=
  twoBytes e.sourceNumber ++ twoBytes e.event ++ [code 1 ranked e.cls] ++ twoBytes e.zone ++
    [yes e.latching, yes e.restoreReporting] ++ twoBytes e.debounce ++ twoBytes e.openCode ++ twoBytes e.shortCode

/-- Whether the image of an entry of a table has a setting clamped or rounded; none where it does not decode (R165). -/
def clampsOf (table : Nat) (image : List Byte) : Option Bool :=
  [none, (T1.decode image).map Prod.snd, (T2.decode image).map Prod.snd, (T3.decode image).map Prod.snd,
    (T4.decode image).map Prod.snd, (T5.decode image).map Prod.snd, (T6.decode image).map Prod.snd].getD table none

/-- The entries of a table, and the bytes of an entry image. -/
def entriesOf (table : Nat) : Nat := [0, 1, 4, 12, 8, 5, 8].getD table 0
def imageLength (table : Nat) : Nat := [0, 18, 7, 32, 2, 1, 15].getD table 0

/-- A byte of a list as a number, 0 beyond its length. -/
def numberAt (bs : List Byte) (i : Nat) : Nat := (bs.getD i 0).toNat

/-- The directory's four bytes of a table (R168): where its section begins, and how many entries are loaded, at most the table's size (R170). -/
def sectionBegin (store : List Host.Cell) (table : Nat) : Nat :=
  (storeRead store (4 * table - 4)).toNat * 256 + (storeRead store (4 * table - 3)).toNat
def loadedCount (store : List Host.Cell) (table : Nat) : Nat :=
  min (storeRead store (4 * table - 2)).toNat (entriesOf table)

/-- The image of an entry, counted from 0, in a table's section. -/
def storedImage (store : List Host.Cell) (table i : Nat) : List Byte :=
  (List.range (imageLength table)).map fun k => storeRead store (sectionBegin store table + i * imageLength table + k)

/-- A section with entries to load is bad: they pass byte 2047, their sum with the section's check is not 0, or one of them does not decode (R170). -/
def SectionIsBad (store : List Host.Cell) (table : Nat) : Prop :=
  let images := (List.range (loadedCount store table)).map (storedImage store table)
  images ≠ [] ∧
    (2047 < sectionBegin store table + images.length * imageLength table - 1 ∨
      images.flatten.sum + storeRead store (4 * table - 1) ≠ 0 ∨ ∃ image ∈ images, clampsOf table image = none)

/-- Entry `i` of a table after the load: decoded from a section that is not bad, and as it was beyond the count and in a bad section (R170). -/
def EntryLoads {α : Type} (store : List Host.Cell) (table i : Nat) (decode : List Byte → Option (α × Bool))
    (new old : α) : Prop :=
  let loads := ¬SectionIsBad store table ∧ i < loadedCount store table
  (loads → ∃ f, decode (storedImage store table i) = some (new, f)) ∧ (¬loads → new = old)

/-- The entry images of a table. -/
def tableBytes (t : Tables) (table : Nat) : List (List Byte) :=
  [[], [t1Bytes t.t1], t.t2.toList.map t2Bytes, t.t3.toList.map t3Bytes, t.t4.toList.map t4Bytes,
    t.t5.toList.map fun r => [u8 (num r)], t.t6.toList.map t6Bytes].getD table []

/-- The arrangement of SAVE (R168): the directory at 0, with each table's base, count and check and its own check, and the six sections. -/
def arrangement (t : Tables) : List (Nat × List Byte) :=
  let bases := [(1, 32), (2, 64), (3, 96), (4, 480), (5, 496), (6, 512)]
  let data := fun k => (tableBytes t k).flatten
  let check := fun bs : List Byte => -(bs.foldl (· + ·) 0)
  let body := (bases.map fun (k, base) => twoBytes base ++ [u8 (tableBytes t k).length, check (data k)]).flatten
  (0, body ++ [check body]) :: bases.map fun (k, base) => (base, data k)

/-! ### The step, the reset and the load -/

/-- A step runs the command at the front of the queue with the queue's rest; an empty queue idles (log 2). -/
def Obligations.StepRunsFrontCommand : Prop :=
  (∀ (c : Instr) (rest : List Instr) (s : State),
      s.pending = c :: rest → step s = exec c { s with pending := rest }) ∧
    ∀ s : State, s.pending = [] → step s = .next s

/-- Every command answers a next state, in every state, for the part has no fault that stops it (log 28); and between steps no block has anything left to act on (log 4, log 5). -/
def Obligations.EveryStepCompletesAndRests : Prop :=
  (∀ (c : Instr) (s : State), ∃ t, exec c s = .next t) ∧
  (∀ s t : State, s.Rested → step s = .next t → t.Rested)

/-- RESET gives every block the values its chapter states (R11, R17, R26, R53, R55, R85, R112, R131, R164, R170, R171), and the working tables the built-in defaults of R165; the supply state is taken from the mains-fail input as it stands. A SAVE that is writing stops at its page: no byte of another page changes, and a directory page leaves a directory whose check fails (R169); the store's canonical form is the model's (log 9), and StepKeepsStoreAndTables keeps it. That RESET keeps the level of that input and the waiting commands is the model's (log 10). The routes and the hold before the load are the model's (log 14) and are not stated. -/
def Obligations.ResetGivesStartingValues : Prop :=
  (∀ (first second strap : Bool) (s : State), ∃ t, exec (.reset first second strap) s = .next t ∧
      t.fitted = 1 + first.toNat + 2 * second.toNat ∧ t.holdStrap = strap ∧ t.now = 0 ∧ t.loading = true ∧
      t.mode = .operate ∧ t.holdTimer = none ∧ t.save = none ∧ t.rotation = t.fitted ∧ t.waitList = [] ∧
      (∀ l : LineNo,
        (t.line l).sense =
            { window := [], confirmed := .unknown, candidate := none, run := 0, settling := false, ringOff := none,
              polarity := none, polarityRun := none } ∧
          (t.line l).detector.listening = false ∧
          (t.line l).ctl =
            { power := .off, promotion := .none, classOcc := .unknown,
              occupancy := if l.val < t.fitted then .unknown else .offline, fault := .none, noTone := 0,
              probeTimer := none, lend := .none, lendIdle := none, grant := none, disablePending := false } ∧
          (t.line l).iface = { offHook := false, relayOpen := false, sender := none } ∧ (t.line l).call = none ∧
          (t.line l).sending = { tickets := [], block := [] } ∧ (t.line l).next = { tickets := [], block := [] }) ∧
      (∀ c : ChannelNo,
        t.channel c =
          { measured := .normal, candidate := none, debounce := none, confirmed := .normal, alarm := false,
            wiring := .none, latched := false, isolated := false, force := .none }) ∧
      t.queue =
        { records := [], ticketCounter := 1, lostTally := 0, heldLosses := 0, deferred := 0, pressure := false,
          testTimer := none, gateOpened := false } ∧
      (∀ e : RxNo, t.rx e = { state := .ready, failures := 0, due := none }) ∧
      t.dispatcher = { gateOpen := false, urgent := false, held := [], fireTimer := none } ∧
      t.link =
        { receiver := .silent, byteTimer := none, requests := [], requestsLost := false, inHand := none, notices := [],
          noticesLost := false, transmitter := .idle, faults := [] } ∧
      t.supply = (if s.mainsFail then .reserve else .normal) ∧ t.supplyTimer = none ∧
      (s.save = none → t.store = s.store) ∧ t.mainsFail = s.mainsFail ∧ t.pending = s.pending) ∧
  (∀ (first second strap : Bool) (s : State), ∃ t, exec (.reset first second strap) s = .next t ∧
      t.t1 =
        { callLimit := 180, retryBase := 10, retryCap := 300, rest := 600, urgencyAge := 16, highMark := 16,
          lowMark := 12, testInterval := 24, holdLimit := 120, lendGrace := 30, lendIdle := 120, holdFlag := false } ∧
      (∀ l : LineNo, t.t2 l = { enabled := true, seizeTenant := false, dialPrefix := [] }) ∧
      (∀ e : RxNo, t.t3 e = { dialNumber := [], account := [0, 0, 0, 0], attemptLimit := 4, next := 0 }) ∧
      (∀ r : RouteNo, t.t4 r = { head := 0, mode := .any }) ∧
      (t.classRoute .fire = 0 ∧ t.classRoute .supervisory = 0 ∧ t.classRoute .trouble = 1 ∧ t.classRoute .plant = 2 ∧
        t.classRoute .routine = 1) ∧
      ∀ c : ChannelNo,
        t.t6 c =
          { sourceNumber := num c, event := 100 + num c, cls := .trouble, zone := num c, latching := false,
            restoreReporting := true, debounce := 500, openCode := 920, shortCode := 921 }) ∧
  ∀ (first second strap : Bool) (w : Save) (s : State), Memory.wf s.store = true → s.save = some w → w.page < 40 →
    let base := if w.page < 38 then 32 + 16 * w.page else 16 * (w.page - 38)
    ∃ t, exec (.reset first second strap) s = .next t ∧
      (∀ a, (a < base ∨ base + 16 ≤ a) → storeRead t.store a = storeRead s.store a) ∧
      (38 ≤ w.page → ((List.range 25).map (storeRead t.store)).sum ≠ 0)

/-- LOADER_DONE after a reset: the tables that the load reads from the store if the directory's check holds (SavedTablesLoadBack says what they are for a store that a SAVE wrote), else the defaults with STORE-CORRUPT and no section read; the receiver in HUNT, the hold by R173, the gate by R97, and the fitted enabled lines in SENSE (R170, R173, R174). Every route is evaluated (R81, R82). SUPPLY-RESERVE is active exactly where the supply is RESERVE, and the queue then holds the report of event 903, ticket 1, and else nothing (R26, R174). The first frame is STARTED, with the number of entries that the fault list had before that report could be STRANDED (R159, R174). -/
def Obligations.LoaderDoneStartsThePart : Prop :=
  ∀ (t fitted free : Nat) (strap mains : Bool) (tone : LineNo → PerBand Bool) (store : List Host.Cell)
    (pending : List Instr), 1 ≤ fitted → fitted ≤ 4 →
    let s := State.afterReset fitted strap mains tone store pending free
    let corrupt := byteSum (storeBytes store 0 25) ≠ 0
    ∃ u, exec (.loaderDone t) s = .next u ∧
      u.loading = false ∧ u.link.receiver = .hunt ∧ u.mode = .operate ∧
      (corrupt → u.tables = s.tables) ∧
      (¬corrupt → u.tables = s.loadTables.tables) ∧
      (u.storeCorrupt = true ↔ corrupt) ∧
      (u.hold = .held ↔ (strap = true ∨ u.t1.holdFlag = true ∨ corrupt)) ∧
      (u.dispatcher.gateOpen = true ↔ u.hold = .released) ∧
      (∀ l : LineNo, (u.ctl l).power = if u.usable l then .sense else .off) ∧
      (∀ l : LineNo, (u.ctl l).occupancy = if u.usable l then .unknown else .offline) ∧
      u.rotation = fitted ∧ u.store = store ∧ u.now = t ∧
      (corrupt → ∀ k, ⟨.storeSection, k, true⟩ ∉ u.link.faults) ∧ RoutesAreWalked u ∧ InvalidRoutesAreReported u ∧
      u.supply = (if mains then .reserve else .normal) ∧
      (⟨.supplyReserve, 0, true⟩ ∈ u.link.faults ↔ mains = true) ∧
      u.reports = (if mains then [(1, trouble .new 903 0)] else []) ∧
      u.link.transmitter =
        .notice
          (frame 0x80
            [u8 fitted, 1, if u.hold = .held then 1 else 2, if mains then 2 else 1,
              u8 (u.link.faults.countP fun e => e.kind ≠ .commFailure)])

/-! ### What every step keeps -/

/-- The state after reset meets the conditions that every step keeps. Its straps and inputs are the model's (log 10), so are its erased store and the canonical form (log 9), and so is the condition that no block has work left (log 4, log 5). -/
def Obligations.ResetMeetsTheInvariants : Prop :=
  State.reset.Rested ∧ State.reset.GateKept ∧ State.reset.RotationKept ∧ State.reset.BuffersKept ∧
    State.reset.FaultsKept ∧ State.reset.ForceKept ∧ State.reset.QueueKept ∧ State.reset.LossKept ∧
    State.reset.PressureKept ∧ Memory.wf State.reset.store = true ∧ State.reset.tables.InRange

/-- The store keeps its canonical form (the form is the model's choice, log 9), and every setting of the working tables stays within its range, whatever a SET or the store carries (R165, R167, R170). -/
def Obligations.StepKeepsStoreAndTables : Prop :=
  (∀ s t : State, Memory.wf s.store = true → step s = .next t → Memory.wf t.store = true) ∧
  ∀ s t : State, s.tables.InRange → step s = .next t → t.tables.InRange

/-- The gate stays OPEN exactly in OPERATE with the hold RELEASED, and CLOSED it holds nothing (R97, R98). No channel is forced in OPERATE, nor while isolated (R47, R50, R52). -/
def Obligations.StepKeepsGateAndForces : Prop :=
  (∀ s t : State, s.GateKept → step s = .next t → t.GateKept) ∧
  ∀ s t : State, s.ForceKept → step s = .next t → t.ForceKept

/-- Every step keeps the rotation counter on a fitted line (R33), the request buffer and the notice buffer within their bounds (R152, R159), and the fault list at one entry for each kind and instance, which makes 34 at most (R161). -/
def Obligations.StepKeepsBounds : Prop :=
  (∀ s t : State, s.RotationKept → step s = .next t → t.RotationKept) ∧
  (∀ s t : State, s.BuffersKept → step s = .next t → t.BuffersKept) ∧
  (∀ s t : State, s.FaultsKept → step s = .next t → t.FaultsKept) ∧
  ∀ s : State, s.FaultsKept → s.link.faults.length ≤ 34

/-- The queue keeps its capacity, its one LOSS record and a ticket of its own for each record (R56, R58, R62, R63), and the record in the reserved slot stays the one that carries the LOSS report (R63, R77). -/
def Obligations.StepKeepsQueue : Prop :=
  (∀ s t : State, s.QueueKept → step s = .next t → t.QueueKept) ∧
  ∀ s t : State, s.QueueKept → s.LossKept → step s = .next t → t.LossKept

/-- The deferred count is what the queue holds, and the pressure stands as the marks ask: above the low mark while it is ON, below the high mark while it is OFF (R73). Every step of a part that has loaded keeps this, and the load of a part that has been reset makes it so. -/
def Obligations.StepKeepsPressure : Prop :=
  (∀ s t : State, s.loading = false → s.tables.InRange → s.PressureKept → step s = .next t → t.PressureKept) ∧
  ∀ (t fitted free : Nat) (strap mains : Bool) (tone : LineNo → PerBand Bool) (store : List Host.Cell)
    (pending : List Instr) (u : State), 1 ≤ fitted → fitted ≤ 4 →
    exec (.loaderDone t) (State.afterReset fitted strap mains tone store pending free) = .next u → u.PressureKept

/-- The tables change by RESET, LOADER_DONE and SET alone, and the store by RESET and SAVE_PAGE_WRITTEN alone. Only RESET turns the clock back or reads the straps again, only MAINS_FAIL_INPUT touches the level of its input, and only SUPPLY_CHANGE and RESET touch the supply state (R26, R167 to R170). -/
def Obligations.OnlyTheirCommandsChangeSettingsAndPins : Prop :=
  (∀ (c : Instr) (s t : State), exec c s = .next t →
      ((∀ a b h, c ≠ .reset a b h) → (∀ n, c ≠ .loaderDone n) → (∀ n p, c ≠ .set n p) → t.tables = s.tables) ∧
        ((∀ a b h, c ≠ .reset a b h) → (∀ n d, c ≠ .savePageWritten n d) → t.store = s.store)) ∧
  (∀ (c : Instr) (s t : State), exec c s = .next t → (∀ a b h, c ≠ .reset a b h) →
      s.now ≤ t.now ∧ t.fitted = s.fitted ∧ t.holdStrap = s.holdStrap ∧
        ((∀ n x, c ≠ .mainsFailInput n x) → t.mainsFail = s.mainsFail) ∧
        ((∀ n, c ≠ .supplyChange n) → t.supply = s.supply))

/-! ### Line sensing and tones (`01`) -/

/-- A sample in OFF does nothing but move the clock; the first to seventh sample of a window is clipped and held (R1). The eighth sample completes the window, which is emptied: its class is applied to candidate, run count, settling flag and ring-off timer (R3, R4, R6, R7), and the sign of a counted window to polarity and polarity run, a RING window and one of raw sum 0 not being counted (R8). A disable that is pending could take the line OFF in the same step and is left out. -/
def Obligations.SamplesFillAndSettleTheWindow : Prop :=
  (∀ (t : Nat) (line : LineNo) (volts : Int) (s : State), s.Rested →
      ((s.ctl line).power = .off → exec (.loopSample t line volts) s = .next (s.advance t)) ∧
        ((s.ctl line).power ≠ .off → (s.sense line).window.length < 7 →
          exec (.loopSample t line volts) s =
            .next
              ((s.advance t).setSense line
                { s.sense line with window := (s.sense line).window ++ [max (-1500) (min 1500 volts)] }))) ∧
  (∀ (t : Nat) (line : LineNo) (volts : Int) (s : State),
      (s.ctl line).power ≠ .off → (s.ctl line).disablePending = false → (s.sense line).window.length = 7 →
      let u := s.sense line
      let w := classOfWindow u.confirmed (u.window ++ [max (-1500) (min 1500 volts)])
      let run := if u.candidate = some w then u.run + 1 else 1
      let full := if w = .dead then 25 else 4
      let confirms := u.settling = true ∨ (w ≠ u.confirmed ∧ full ≤ run)
      ∃ v, exec (.loopSample t line volts) s = .next v ∧ (v.sense line).window = [] ∧
        (confirms →
          (v.sense line).confirmed = w ∧ (v.sense line).candidate = none ∧ (v.sense line).run = 0 ∧
            (v.sense line).settling = false) ∧
        (¬confirms →
          (v.sense line).confirmed = u.confirmed ∧ (v.sense line).settling = false ∧
            (w = u.confirmed → (v.sense line).candidate = none ∧ (v.sense line).run = 0) ∧
            (w ≠ u.confirmed → (v.sense line).candidate = some w ∧ (v.sense line).run = run)) ∧
        (v.sense line).ringOff =
          if w = .ring ∧ (confirms ∨ u.ringOff.isSome = true) then some (max s.now t + 6000) else u.ringOff) ∧
  (∀ (t : Nat) (line : LineNo) (volts : Int) (s : State),
      (s.ctl line).power ≠ .off → (s.ctl line).disablePending = false → (s.sense line).window.length = 7 →
      let u := s.sense line
      let window := u.window ++ [max (-1500) (min 1500 volts)]
      let sign : Polarity := if 0 < window.sum then .positive else .negative
      let counted := classOfWindow u.confirmed window ≠ .ring ∧ window.sum ≠ 0
      let run := match u.polarityRun with
        | some (p, n) => if p = sign then n + 1 else 1
        | none => 1
      ∃ v, exec (.loopSample t line volts) s = .next v ∧
        (¬counted → (v.sense line).polarity = u.polarity ∧ (v.sense line).polarityRun = u.polarityRun) ∧
        (counted → u.polarity = some sign →
          (v.sense line).polarity = u.polarity ∧ (v.sense line).polarityRun = none) ∧
        (counted → u.polarity ≠ some sign → 4 ≤ run →
          (v.sense line).polarity = some sign ∧ (v.sense line).polarityRun = none) ∧
        (counted → u.polarity ≠ some sign → run < 4 →
          (v.sense line).polarity = u.polarity ∧ (v.sense line).polarityRun = some (sign, run)))

/-- The ring-off timer expires: idle; in RING the settling window is prepared; in RINGING a carried class other than RING gives the class occupancy (R6, R7, R19). -/
def Obligations.RingOffEndsRinging : Prop :=
  ∀ (t : Nat) (line : LineNo) (s : State) (e : Nat),
    (s.sense line).ringOff = some e → e ≤ max s.now t → (s.ctl line).disablePending = false →
    (s.ctl line).lend ≠ .pending →
    let u := s.sense line
    ∃ v, exec (.ringOffTimerExpiry t line) s = .next v ∧
      (u.confirmed = .ring →
        v.sense line = { u with ringOff := none, candidate := none, run := 0, settling := true } ∧
          (v.ctl line).classOcc = (s.ctl line).classOcc) ∧
      (u.confirmed ≠ .ring →
        v.sense line = { u with ringOff := none } ∧
          ((s.ctl line).classOcc ≠ .ringing → (v.ctl line).classOcc = (s.ctl line).classOcc) ∧
          ((s.ctl line).classOcc = .ringing → u.confirmed = .onHook → (v.ctl line).classOcc = .free) ∧
          ((s.ctl line).classOcc = .ringing → u.confirmed = .offHook → (v.ctl line).classOcc = .tenant) ∧
          ((s.ctl line).classOcc = .ringing → u.confirmed = .dead → (v.ctl line).classOcc = .down))

/-- Tone that appears is in qualification, and tone that stops no longer is, while the detector listens and is not muted; an open segment of the band notes it (R12 to R15). Log 16 holds the tone on the line as an input. Tone present for 20 ms opens a segment, and the call notes its band and onset instant (R13); that the band present longest opens it is the model's reading (log 17), and of bands that appeared together T2 goes before T1 before DIAL-BAND. In RING-WAIT an onset after a candidate moves the busy run, and the onset that makes it 3 ends the call BUSY (R120, R127), where the run stays 3 (log 37). The slots are empty before EXCHANGE. That a released call's tone record stays as it was is the model's choice (log 45). -/
def Obligations.TonesReachTheDetector : Prop :=
  (∀ (t : Nat) (line : LineNo) (band : Band) (s : State),
      let x := s.line line
      let hears := x.detector.listening = true ∧ x.detector.muted = false
      (x.toneOn.get band = false →
        exec (.toneAppears t line band) s =
          .next
            ((s.advance t).setLine line
              { x with
                toneOn := x.toneOn.set band true
                detector :=
                  if hears then
                    { x.detector with
                      since := x.detector.since.set band (some (max s.now t))
                      segment := x.detector.segment.map fun g => if g.band = band then { g with stopped := none } else g }
                  else x.detector })) ∧
      (x.toneOn.get band = true →
        exec (.toneStops t line band) s =
          .next
            ((s.advance t).setLine line
              { x with
                toneOn := x.toneOn.set band false
                detector :=
                  if hears then
                    { x.detector with
                      since := x.detector.since.set band none
                      segment := x.detector.segment.map fun g =>
                        if g.band = band then { g with stopped := some (max s.now t) } else g }
                  else x.detector }))) ∧
  ∀ (t : Nat) (line : LineNo) (band : Band) (onset : Nat) (s : State), s.Rested →
    let x := s.line line
    let x1 := { x with detector := { x.detector with segment := some { band, onset, stopped := none } } }
    x.detector.listening = true → x.detector.muted = false → x.detector.segment = none →
    x.detector.since.get band = some onset → onset + 20 ≤ max s.now t →
    let place := fun b : Band => [Band.t2, .t1, .dial].idxOf b
    (∀ b other, b ≠ band → x.detector.since.get b = some other →
      onset < other ∨ (onset = other ∧ place band < place b)) →
    (x.call = none → exec (.toneQualified t line) s = .next ((s.advance t).setLine line x1)) ∧
    (∀ c, x.call = some c → c.state ≠ .ringWait →
      exec (.toneQualified t line) s =
        .next
          ((s.advance t).setLine line
            { x1 with call := some { c with tone := { c.tone with openSegment := some (band, onset) } } })) ∧
    (∀ c, x.call = some c → c.state = .ringWait → c.tone.busyRun ≤ 2 →
      let heard := fun (run : Nat) =>
        Host.Outcome.next (φ := Fault) (ρ := Refusal)
          ((s.advance t).setLine line
            { x1 with
              call := some { c with
                tone := { c.tone with openSegment := some (band, onset), busyRun := run, busyCandidate := none } } })
      (c.tone.busyCandidate = none → exec (.toneQualified t line) s = heard c.tone.busyRun) ∧
      ∀ stop, c.tone.busyCandidate = some stop →
        (350 ≤ onset - stop → onset - stop ≤ 650 → c.tone.busyRun < 2 →
          exec (.toneQualified t line) s = heard (c.tone.busyRun + 1)) ∧
        (onset - stop < 350 ∨ 650 < onset - stop → exec (.toneQualified t line) s = heard 0)) ∧
    (∀ c stop, x.call = some c → c.state = .ringWait → c.tone.busyCandidate = some stop → c.tone.busyRun = 2 →
      350 ≤ onset - stop → onset - stop ≤ 650 → x.sending.tickets = [] → x.next.tickets = [] →
      exec (.toneQualified t line) s =
        .next
          ((s.advance t).setLine line
            (x.released
              { c with
                tone := { c.tone with openSegment := some (band, onset), busyRun := 3, busyCandidate := none } }
              (resultFor c.purpose .busy) (max s.now t))))

/-- A segment ends when its tone has been absent for 20 ms: the call notes band, duration and end instant (R14). A tone of another band that has been present since the end instant opens its segment at once, with that onset; of several T2 goes before T1 before DIAL-BAND (R13). The READY tone ends HANDSHAKE (R122, R135). In RING-WAIT busy tone's candidate is kept, and lost again where a segment follows at once (R120); that a segment from before RING-WAIT leaves run 0 and no candidate is the model's reading (log 22). -/
def Obligations.SegmentEnds : Prop :=
  ∀ (t : Nat) (line : LineNo) (g : Segment) (stop : Nat) (opens : Option Band) (s : State), s.Rested →
    let x := s.line line
    let ms := min (stop - g.onset) 65535
    x.detector.listening = true → x.detector.muted = false → x.detector.segment = some g → g.stopped = some stop →
    stop + 20 ≤ max s.now t →
    ([Band.t2, .t1, .dial].find? fun b => (x.detector.since.get b).any fun since => since ≤ stop) = opens →
    let x1 := { x with
      detector := { x.detector with segment := opens.map fun b => { band := b, onset := stop, stopped := none } } }
    (x.call = none → exec (.toneEnded t line) s = .next ((s.advance t).setLine line x1)) ∧
    (∀ c, x.call = some c →
      let c1 := { c with
        tone := { c.tone with openSegment := opens.map fun b => (b, stop), lastEnd := some (g.band, ms, stop) } }
      (c.state = .ringWait →
        exec (.toneEnded t line) s =
          .next
            ((s.advance t).setLine line
              { x1 with
                call := some { c1 with
                  tone :=
                    if g.band = .dial ∧ 350 ≤ ms ∧ ms ≤ 650 ∧ c.tone.ringFrom ≤ g.onset ∧ opens = none then
                      { c1.tone with busyCandidate := some stop }
                    else { c1.tone with busyRun := 0, busyCandidate := none } } })) ∧
      (c.state = .handshake → g.band = .t1 → 400 ≤ ms → ms ≤ 3000 →
        exec (.toneEnded t line) s =
          .next
            ((s.advance t).setLine line
              { x1 with
                call := some { c1 with state := .exchange .delay, stateTimer := some (max s.now t + 250) } })) ∧
      (c.state ≠ .ringWait → (c.state = .handshake → ¬(g.band = .t1 ∧ 400 ≤ ms ∧ ms ≤ 3000)) →
          (∀ opened, c.state ≠ .exchange (.reply opened)) →
        exec (.toneEnded t line) s = .next ((s.advance t).setLine line { x1 with call := some c1 })))

/-! ### Occupancy, power, supply and lending (`02`) -/

/-- A window that confirms a class sets the class occupancy (R18, R19). Without a call the occupancy shows it, or LENT above it, and the lend idle timer follows it (R36); DEAD raises 901 NEW with LINE-DOWN, and DEAD left 901 RESTORE (R21). A call in PREPARE is dropped as R31 and R106 give; a call that has taken the line ends LINE-DOWN but for OFF-HOOK, and in CLEARDOWN but for ON-HOOK (R20, R115, R123). A confirmed reversal of polarity is the answer indication of RING-WAIT (R121). That the lend idle timer counts in ms is the model's reading (log 21). A window that confirms class and polarity together, and what the Dispatcher does at once behind an OPEN gate, are left out. That the busy run stays as it was on entering HANDSHAKE is the model's choice (log 46). That a released call's tone record stays as it was is the model's choice too (log 45), and that its send count does is the model's reading (log 41). -/
def Obligations.ClassReportsSetOccupancy : Prop :=
  (∀ (t : Nat) (line : LineNo) (volts : Int) (w : LoopClass) (s : State), s.Rested →
      (s.ctl line).power ≠ .off → (s.ctl line).disablePending = false → (s.sense line).window.length = 7 →
      let x := s.ctl line
      let u := s.sense line
      Confirms u (u.window ++ [max (-1500) (min 1500 volts)]) w →
      let o := occupancyAfter u x.classOcc w
      ∃ v, exec (.loopSample t line volts) s = .next v ∧ (v.ctl line).classOcc = o ∧
        (s.call line = none → x.grant = none → s.dispatcher.gateOpen = false → line.val < s.fitted →
          (o = x.classOcc → v.ctl line = x) ∧
          (o ≠ x.classOcc →
            (v.ctl line).occupancy = (if x.lend = .lent then .lent else shown o) ∧
            (v.ctl line).lendIdle =
              if x.lend = .lent ∧ o = .free ∧ s.t1.lendIdle ≠ 0 then some (max s.now t + s.t1.lendIdle * 1000)
              else none) ∧
          (w = .dead → ⟨.lineDown, num line, true⟩ ∈ v.link.faults ∧
            (s.joinable (trouble .new 901 (num line)) = none → s.ordinaryCount < 32 →
              v.reports = s.reports ++ [(s.ticketToGive, trouble .new 901 (num line))])) ∧
          (w ≠ .dead → u.confirmed = .dead →
            (s.FaultsKept → ⟨.lineDown, num line, true⟩ ∉ v.link.faults) ∧
            (s.joinable (trouble .restore 901 (num line)) = none → s.ordinaryCount < 32 →
              v.reports = s.reports ++ [(s.ticketToGive, trouble .restore 901 (num line))])) ∧
          (w ≠ .dead → u.confirmed ≠ .dead → v.reports = s.reports)) ∧
        (∀ c, s.call line = some c → c.state = .prepare → s.dispatcher.gateOpen = false → x.lend = .none →
          line.val < s.fitted → o ≠ x.classOcc →
          let dropped := match c.purpose with
            | .probe => o ≠ .free
            | .report => o = .ringing ∨ o = .down ∨ (o = .tenant ∧ x.grant ≠ some .seizing)
          (¬dropped → v.call line = some c ∧ (v.ctl line).occupancy = .call) ∧
          (dropped →
            v.call line = none ∧ (v.ctl line).grant = none ∧ (v.ctl line).occupancy = shown o ∧
              (c.purpose = .report → ∀ e, c.receiver = some e →
                v.rx e = { state := .ready, failures := (s.rx e).failures, due := none }))) ∧
        (∀ c, s.call line = some c → c.state ≠ .prepare → c.state ≠ .release → x.occupancy = .call → x.lend ≠ .lent →
          let ends := w = .dead ∨ w = .ring ∨ (w = .onHook ∧ c.state ≠ .cleardown)
          (ends →
            v.call line = some
                { c with
                  state := .release, stateTimer := some (max s.now t + 2000), limitTimer := none
                  result := some (resultFor c.purpose .lineDown) } ∧
              (v.line line).iface = { offHook := false, relayOpen := false, sender := none } ∧
              (v.line line).sending.tickets = [] ∧ (v.line line).next.tickets = []) ∧
          (¬ends → c.state ≠ .ringWait → v.call line = some c))) ∧
  (∀ (t : Nat) (line : LineNo) (volts : Int) (p : Polarity) (s : State), s.Rested →
      (s.ctl line).power ≠ .off → (s.ctl line).disablePending = false → (s.sense line).window.length = 7 →
      let u := s.sense line
      let window := u.window ++ [max (-1500) (min 1500 volts)]
      (∀ w, ¬Confirms u window w) → classOfWindow u.confirmed window ≠ .ring →
      u.polarity = some (if p = .positive then .negative else .positive) → u.polarityRun = some (p, 3) →
      (if p = .positive then 0 < window.sum else window.sum < 0) →
      ∃ v, exec (.loopSample t line volts) s = .next v ∧ (v.sense line).polarity = some p ∧
        (v.line line).ctl = s.ctl line ∧
        ∀ c, s.call line = some c →
          (c.state = .ringWait →
            v.call line = some { c with state := .handshake, stateTimer := some (max s.now t + 20000) }) ∧
          (c.state ≠ .ringWait → v.call line = some c))

/-- A level that opposes the supply state starts the wait of 1 s, and one that does not ends it. When the wait is over the supply state changes, and the return to NORMAL leaves the promotion waiting list empty (R26, R29). -/
def Obligations.SupplyFollowsTheMains : Prop :=
  (∀ (t : Nat) (failed : Bool) (s : State),
      (failed = s.mainsFail → exec (.mainsFailInput t failed) s = .next (s.advance t)) ∧
        (failed ≠ s.mainsFail →
          exec (.mainsFailInput t failed) s =
            .next
              { s.advance t with
                mainsFail := failed
                supplyTimer :=
                  if (failed = true ∧ s.supply = .normal) ∨ (failed = false ∧ s.supply = .reserve) then
                    some (max s.now t + 1000)
                  else none })) ∧
  (∀ (t e : Nat) (s : State), s.loading = false → s.supplyTimer = some e → e ≤ max s.now t →
      ∃ u, exec (.supplyChange t) s = .next u ∧ u.supplyTimer = none ∧
        (s.supply = .normal → u.supply = .reserve) ∧
        (s.supply = .reserve → u.supply = .normal ∧ u.waitList = []))

/-- RESERVE entered: lines without a call give up READY and promotion, and lines in calls whose promotion settles wait in number order; the first of them starts at once if no line is READY (R27, R28). NORMAL again: every line in SENSE that does not settle starts its promotion, whether it waits on the list or not, and the list is empty (R29); that one with a disable pending still does is the model's reading (log 18). Under RESERVE a call that needs READY starts its promotion if no line is READY or settles, and waits otherwise (R28); a line whose call ends gives its power to the first that waits (R32). 903 NEW and RESTORE tell the change (R26). The gate is CLOSED but for the probe, so that no call begins in the same step. -/
def Obligations.PowerIsSharedUnderReserve : Prop :=
  (∀ (t e : Nat) (s : State), s.Rested → s.loading = false → s.supplyTimer = some e → e ≤ max s.now t →
      s.dispatcher.gateOpen = false →
      let settles := fun l => ∃ e, (s.ctl l).promotion = .settling e
      let started := Promotion.settling (max s.now t + 200)
      (s.supply = .normal → s.waitList = [] →
        ∃ u joined, exec (.supplyChange t) s = .next u ∧ joined.Nodup ∧ joined.Pairwise (· < ·) ∧
          (∀ l, l ∈ joined ↔ s.call l ≠ none ∧ settles l) ∧
          (∀ l, (u.ctl l).power =
            if s.call l = none ∧ (s.ctl l).power = .ready then .sense else (s.ctl l).power) ∧
          (∀ l, s.call l = none → (u.ctl l).promotion = .none) ∧
          (∀ l, s.call l ≠ none → l ∉ joined → (u.ctl l).promotion = (s.ctl l).promotion) ∧
          ((∃ l, s.call l ≠ none ∧ (s.ctl l).power = .ready) →
            u.waitList = joined ∧ ∀ l ∈ joined, (u.ctl l).promotion = .waiting) ∧
          ((∀ l, s.call l ≠ none → (s.ctl l).power ≠ .ready) →
            u.waitList = joined.tail ∧ (∀ l ∈ joined.tail, (u.ctl l).promotion = .waiting) ∧
              ∀ l, joined.head? = some l → (u.ctl l).promotion = started) ∧
          ⟨.supplyReserve, 0, true⟩ ∈ u.link.faults ∧
          (s.joinable (trouble .new 903 0) = none → s.ordinaryCount < 32 →
            u.reports = s.reports ++ [(s.ticketToGive, trouble .new 903 0)])) ∧
      (s.supply = .reserve →
        ∃ u, exec (.supplyChange t) s = .next u ∧ u.waitList = [] ∧
          (∀ l, (u.ctl l).power = (s.ctl l).power) ∧
          (∀ l, (s.ctl l).power = .sense → ¬settles l → (u.ctl l).promotion = started) ∧
          (∀ l, (s.ctl l).power ≠ .sense ∨ settles l → (u.ctl l).promotion = (s.ctl l).promotion) ∧
          (s.FaultsKept → ⟨.supplyReserve, 0, true⟩ ∉ u.link.faults) ∧
          (s.joinable (trouble .restore 903 0) = none → s.ordinaryCount < 32 →
            u.reports = s.reports ++ [(s.ticketToGive, trouble .restore 903 0)]))) ∧
  (∀ (t e : Nat) (line : LineNo) (s : State), s.Rested → s.supply = .reserve → (s.ctl line).power = .sense →
      (s.ctl line).probeTimer = some e → e ≤ max s.now t → (s.ctl line).occupancy = .free →
      s.dispatcher.gateOpen = true → s.call line = none → s.usable line = true →
      (∀ l, (s.ctl l).lend = .none) →
      let taken := ∃ l, (s.ctl l).power = .ready ∨ ∃ e, (s.ctl l).promotion = .settling e
      ∃ u, exec (.probeTimerExpiry t line) s = .next u ∧
        (¬taken → (u.ctl line).promotion = .settling (max s.now t + 200)) ∧
        (taken → (u.ctl line).promotion = .waiting ∧ ∃ rest, u.waitList = s.waitList ++ line :: rest)) ∧
  (∀ (t : Nat) (line : LineNo) (c : Call) (s : State), s.Rested → s.TimerEnds line c t → c.state = .release →
      s.supply = .reserve → (s.ctl line).power = .ready → (s.ctl line).disablePending = false →
      s.dispatcher.gateOpen = false →
      let waiting := s.waitList.filter fun l => l ≠ line
      let taken := ∃ l, l ≠ line ∧ ((s.ctl l).power = .ready ∨ ∃ e, (s.ctl l).promotion = .settling e)
      ∃ u, exec (.releaseGuardEnd t line) s = .next u ∧ (u.ctl line).power = .sense ∧
        (u.ctl line).promotion = .none ∧
        (taken → u.waitList = waiting ∧ ∀ l, l ≠ line → (u.ctl l).promotion = (s.ctl l).promotion) ∧
        (¬taken → u.waitList = waiting.tail ∧
          ∀ l, l ≠ line → (u.ctl l).promotion =
            if waiting.head? = some l then .settling (max s.now t + 200) else (s.ctl l).promotion))

/-- A promotion is complete: the line is READY with no promotion, and a call in PREPARE takes the line: relay open, the call-limit timer started, CLEARDOWN for a TENANT line and DIALTONE for another (R24, R114, R115, R116). That the call limit is counted in ms is the model's reading (log 21). -/
def Obligations.PromotionTakesTheLine : Prop :=
  ∀ (t : Nat) (line : LineNo) (e : Nat) (s : State),
    (s.ctl line).promotion = .settling e → e ≤ max s.now t → (s.ctl line).lend = .none → s.Rested →
    ∃ u, exec (.promotionComplete t line) s = .next u ∧ (u.ctl line).power = .ready ∧
      (u.ctl line).promotion = .none ∧
      ∀ c, s.call line = some c → c.state = .prepare → (s.ctl line).occupancy = .call →
        (u.line line).iface.relayOpen = true ∧
          ((s.ctl line).classOcc = .tenant →
            u.call line =
                some { c with
                  state := .cleardown, stateTimer := some (max s.now t + 1500), seizedAt := some (max s.now t / 1000)
                  limitTimer := match c.purpose with
                    | .report => some (max s.now t + s.t1.callLimit * 1000)
                    | .probe => none } ∧
              (u.line line).iface.offHook = (s.line line).iface.offHook) ∧
          ((s.ctl line).classOcc ≠ .tenant →
            u.call line =
                some { c with
                  state := .dialtone, stateTimer := some (max s.now t + 5000), seizedAt := some (max s.now t / 1000)
                  limitTimer := match c.purpose with
                    | .report => some (max s.now t + s.t1.callLimit * 1000)
                    | .probe => none } ∧
              (u.line line).iface.offHook = true ∧ (u.line line).detector.listening = true)

/-- The probe timer expires: on a FREE line behind an open gate a PROBE call begins with grant kind TRICKLE; otherwise the timer runs for another 300 s and nothing else changes (R23, R130). That the probe timer is counted in ms from the instant is the model's reading (log 21). -/
def Obligations.ProbeTimerExpires : Prop :=
  ∀ (t : Nat) (line : LineNo) (e : Nat) (s : State), s.Rested →
    (s.ctl line).probeTimer = some e → e ≤ max s.now t →
    ((s.ctl line).occupancy = .free → s.dispatcher.gateOpen = true → s.call line = none → s.usable line = true →
        (s.ctl line).lend = .none →
      ∃ u c, exec (.probeTimerExpiry t line) s = .next u ∧ u.call line = some c ∧ c.purpose = .probe ∧
        c.receiver = none ∧ c.result = none ∧ c.limitTimer = none ∧ (u.ctl line).grant = some .trickle ∧
        (u.ctl line).probeTimer = none ∧ (u.ctl line).occupancy = .call) ∧
    ((s.ctl line).occupancy ≠ .free ∨ s.dispatcher.gateOpen = false ∨ s.call line ≠ none →
      exec (.probeTimerExpiry t line) s =
        .next ((s.advance t).setCtl line { s.ctl line with probeTimer := some (max s.now t + 300000) }))

/-- LEND of a line in CALL makes the lend PENDING and is answered OK-PENDING: a call between its first claim and its last ACCEPT goes on, one before EXCHANGE, in DELAY or in the gap is released CUT-SHORT with its records returned, and one in PREPARE ends at once and the line is LENT (R34, R125, R135, R146). Of a line not in CALL it is LENT at once, with its idle timer if it is FREE (R34, R36), shown with no record held back. A repeated LEND has no effect. RECLAIM ends a lend, pending or begun, and is refused NOT-FOUND where there is none (R35). Both are refused RANGE outside 1..4, and NOT-FOUND for a line that is not usable, which a line with a disable pending counts as (log 34). A lend that has been idle for its timeout ends (R36), and the FIRE-wait timer's expiry ends the lend of the lowest-numbered LENT line (R38, R110). After a change of a lend state the URGENT-PENDING condition is as R37 gives it; that a PENDING lend is such a change (log 38) and that the idle timer counts in ms (log 21) are the model's readings. That a released call's tone record stays as it was is the model's choice (log 45). -/
def Obligations.LendsBeginAndEnd : Prop :=
  (∀ (t : Nat) (b : Byte) (s : State), s.Rested → s.Asked 0x18 [b] →
      (ofNum 4 b.toNat = none → exec (.lend t [b]) s = .next ((s.advance t).answered 0x18 4 0 [])) ∧
      ∀ line : LineNo, ofNum 4 b.toNat = some line →
        let x := s.line line
        (s.usable line = false → exec (.lend t [b]) s = .next ((s.advance t).answered 0x18 9 0 [])) ∧
        (s.usable line = true → (x.ctl.occupancy = .call → x.ctl.lend = .pending →
            exec (.lend t [b]) s = .next ((s.advance t).answered 0x18 1 0 [])) ∧
          (x.ctl.occupancy ≠ .call → x.ctl.lend = .lent →
            exec (.lend t [b]) s = .next ((s.advance t).answered 0x18 0 0 []))) ∧
        (s.usable line = true → x.ctl.occupancy = .call → x.ctl.lend = .none →
          ∀ c, x.call = some c →
            (c.state = .release ∨ c.state = .exchange .retry ∨ (∃ n, c.state = .exchange (.transmit n)) ∨
                (∃ n, c.state = .exchange (.reply n)) →
              ∃ u, exec (.lend t [b]) s = .next u ∧ Answered s u 0x18 1 0 [] ∧
                u.line line =
                  { x with ctl := { x.ctl with lend := .pending }, call := some { c with lendPending := true } } ∧
                u.queue = s.queue ∧ u.channels = s.channels ∧ (u.dispatcher.urgent = true ↔ UrgentHolds u)) ∧
            (c.state = .cleardown ∨ c.state = .dialtone ∨ c.state = .dialling ∨ c.state = .secondTone ∨
                c.state = .ringWait ∨ c.state = .handshake ∨ c.state = .exchange .delay ∨ c.state = .exchange .gap →
              ∃ u, exec (.lend t [b]) s = .next u ∧ Answered s u 0x18 1 0 [] ∧ (u.ctl line).lend = .pending ∧
                u.call line =
                  (x.released { c with lendPending := true } (resultFor c.purpose .cutShort) (max s.now t)).call ∧
                (u.line line).iface = { offHook := false, relayOpen := false, sender := none } ∧
                (s.QueueKept → (∀ k, k ≠ line → s.call k = none) → SlotsAreReturned s u line) ∧
                u.channels = s.channels ∧ (u.dispatcher.urgent = true ↔ UrgentHolds u)) ∧
            (c.state = .prepare → x.ctl.disablePending = false → s.dispatcher.held = [] →
              ∃ u, exec (.lend t [b]) s = .next u ∧ Answered s u 0x18 1 0 [] ∧ u.call line = none ∧
                (u.ctl line).grant = none ∧ Lends s u line (max s.now t) ∧ (u.line line).iface = x.iface ∧
                u.reports = s.reports ∧
                ∀ e, c.receiver = some e → c.purpose = .report →
                  (u.rx e).failures = (s.rx e).failures ∧ (u.rx e).due = none)) ∧
        (s.usable line = true → x.ctl.occupancy ≠ .call → x.ctl.lend = .none → s.dispatcher.held = [] →
          ∃ u, exec (.lend t [b]) s = .next u ∧ Answered s u 0x18 0 0 [] ∧ Lends s u line (max s.now t) ∧
            u.queue = s.queue ∧ u.channels = s.channels)) ∧
  (∀ (t : Nat) (b : Byte) (s : State), s.Rested → s.Asked 0x19 [b] →
      (ofNum 4 b.toNat = none → exec (.reclaim t [b]) s = .next ((s.advance t).answered 0x19 4 0 [])) ∧
      ∀ line : LineNo, ofNum 4 b.toNat = some line →
        (s.usable line = false ∨ (s.ctl line).lend = .none →
          exec (.reclaim t [b]) s = .next ((s.advance t).answered 0x19 9 0 [])) ∧
        (s.usable line = true → (s.ctl line).lend = .pending → (s.ctl line).occupancy = .call →
          ∃ u, exec (.reclaim t [b]) s = .next u ∧ Answered s u 0x19 0 0 [] ∧
            u.line line =
              { s.line line with
                ctl := { s.ctl line with lend := .none }
                call := (s.call line).map fun c => { c with lendPending := false } } ∧
            u.queue = s.queue ∧ u.channels = s.channels ∧ (u.dispatcher.urgent = true ↔ UrgentHolds u)) ∧
        (s.usable line = true → (s.ctl line).lend = .lent →
          ∃ u, exec (.reclaim t [b]) s = .next u ∧ Answered s u 0x19 0 0 [] ∧ (u.ctl line).lend = .none ∧
            (u.ctl line).lendIdle = none ∧
            (s.dispatcher.gateOpen = false → s.call line = none → (s.ctl line).grant = none →
              (u.ctl line).occupancy = shown (s.ctl line).classOcc) ∧
            u.queue = s.queue ∧ u.channels = s.channels ∧ (u.dispatcher.urgent = true ↔ UrgentHolds u))) ∧
  (∀ (t : Nat) (line : LineNo) (e : Nat) (s : State), s.Rested →
      (s.ctl line).lendIdle = some e → e ≤ max s.now t →
      ∃ u, exec (.lendIdleExpiry t line) s = .next u ∧ (u.ctl line).lend = .none ∧ (u.ctl line).lendIdle = none ∧
        u.steady = (s.advance t).steady) ∧
  (∀ (t e : Nat) (line : LineNo) (s : State), s.Rested → s.dispatcher.fireTimer = some e → e ≤ max s.now t / 1000 →
      (s.ctl line).lend = .lent → (∀ k : LineNo, k < line → (s.ctl k).lend ≠ .lent) →
      ∃ u, exec (.fireWaitExpiry t) s = .next u ∧ (u.ctl line).lend = .none ∧ (u.ctl line).lendIdle = none ∧
        u.steady = (s.advance t).steady)

/-! ### Supervised channels (`03`) -/

/-- A reading is applied to candidate, debounce timer and confirmed state of its channel, whatever reports follow; every other channel keeps its readings, and no channel its isolation (R39, R40). -/
def Obligations.ReadingIsConfirmed : Prop :=
  ∀ (t : Nat) (c : ChannelNo) (code : BitVec 10) (s : State), s.loading = false →
    let x := s.channel c
    let m := classOfReading code.toNat
    let held := if x.candidate = some m then x.debounce.getD 0 + 20 else 0
    ∃ u, exec (.inputReading t c code) s = .next u ∧
      (m = x.confirmed → (u.channel c).readings = (m, none, none, x.confirmed, x.isolated)) ∧
      (m ≠ x.confirmed → (s.t6 c).debounce ≤ held → (u.channel c).readings = (m, none, none, m, x.isolated)) ∧
      (m ≠ x.confirmed → held < (s.t6 c).debounce →
        (u.channel c).readings = (m, some m, some held, x.confirmed, x.isolated)) ∧
      ∀ k, k ≠ c → (u.channel k).readings = (s.channel k).readings

/-- A reading that confirms a state sends an INPUT notice of it, whether the channel reports or not (R41), shown with a frame being sent and room in the buffer. It reconciles a reporting channel: reported wiring, standing alarm and latch take their values, the wiring reports and then the alarm report enter behind every record, and CHANNEL-WIRING follows the wiring (R41 to R45). On an isolated or forced channel the confirmed state alone changes (R41). A FIRE-class channel forced NORMAL that is confirmed ACTIVE loses its force and raises its alarm, and the part is in OPERATE (R51, R171). -/
def Obligations.ConfirmationsAreReconciled : Prop :=
  ∀ (t : Nat) (c : ChannelNo) (reading : BitVec 10) (s : State), s.Rested → s.loading = false →
    let x := s.channel c
    let e := s.t6 c
    let m := classOfReading reading.toNat
    let read := { x with measured := m, candidate := none, debounce := none, confirmed := m }
    m ≠ x.confirmed → e.debounce ≤ (if x.candidate = some m then x.debounce.getD 0 + 20 else 0) →
    ∃ u, exec (.inputReading t c reading) s = .next u ∧
      (s.link.receiver ≠ .silent → s.link.transmitter ≠ .idle → s.link.notices.length < 16 →
        ∃ more, u.link.notices = s.link.notices ++ .input c m :: more) ∧
      (x.isolated = false → x.force = .none →
        u.channel c = reconciled e read m ∧
        (wiringOf m ≠ .none → x.wiring = .none → ⟨.channelWiring, num c, true⟩ ∈ u.link.faults) ∧
        (wiringOf m = .none → x.wiring ≠ .none → s.FaultsKept → ⟨.channelWiring, num c, true⟩ ∉ u.link.faults) ∧
        ((e.cls = .fire → s.mode = .operate) → e.event ≠ e.openCode → e.event ≠ e.shortCode →
          (∀ r ∈ s.queue.records, r.report.source ≠ .input) → s.ordinaryCount ≤ 30 →
          ∃ new, u.reports = s.reports ++ new ∧
            new.map Prod.snd = wiringReports e x.wiring m ++ alarmReports e x m)) ∧
      (x.isolated = true ∨ x.force ≠ .none → ¬(e.cls = .fire ∧ x.force = .normal ∧ m = .active) →
        u.channel c = read ∧ u.queue = s.queue) ∧
      (x.isolated = false → e.cls = .fire → x.force = .normal → m = .active →
        u.channel c = reconciled e { read with force := .none } m ∧
        (x.alarm = false → (∀ r ∈ s.queue.records, r.report.source ≠ .input) → s.ordinaryCount ≤ 30 →
          u.mode = .operate ∧ ∃ ticket, (ticket, eventReport e .new) ∈ u.reports))

/-- ISOLATE takes a channel out of supervision: isolated, its force NONE, all else of it and every other channel as it was; a FORCE-ACTIVE gives its TEST-RESTORE, and then 905 NEW enters (R47). DE-ISOLATE clears the flag, keeps the readings, raises 905 RESTORE and reconciles the channel with its confirmed state (R42, R43, R48). UNLATCH of a latched channel that is not ACTIVE clears the latch, refused BUSY while it is; on a reporting channel at NORMAL the alarm no longer stands, and its RESTORE is raised (R43, R46). A channel already so is answered OK with no effect, a number outside 1..8 RANGE. The reports are shown where none is there to join and the queue has room. -/
def Obligations.IsolationAndUnlatching : Prop :=
  (∀ (t : Nat) (b : Byte) (s : State), s.Rested → s.Asked 0x22 [b] →
      (ofNum 8 b.toNat = none → exec (.isolate t [b]) s = .next ((s.advance t).answered 0x22 4 0 [])) ∧
      ∀ c : ChannelNo, ofNum 8 b.toNat = some c →
        ((s.channel c).isolated = true → exec (.isolate t [b]) s = .next ((s.advance t).answered 0x22 0 0 [])) ∧
        ((s.channel c).isolated = false →
          let test : Report := { eventReport (s.t6 c) .testRestore with cls := .routine }
          let isolation := trouble .new 905 (num c)
          ∃ u, exec (.isolate t [b]) s = .next u ∧ Answered s u 0x22 0 0 [] ∧
            u.channel c = { s.channel c with isolated := true, force := .none } ∧
            (∀ k, k ≠ c → u.channel k = s.channel k) ∧
            (s.joinable test = none → s.joinable isolation = none → s.ordinaryCount ≤ 30 →
              ∃ new, u.reports = s.reports ++ new ∧
                new.map Prod.snd = (if (s.channel c).force = .active then [test] else []) ++ [isolation]))) ∧
  (∀ (t : Nat) (b : Byte) (s : State), s.Rested → s.Asked 0x23 [b] →
      (ofNum 8 b.toNat = none → exec (.deIsolate t [b]) s = .next ((s.advance t).answered 0x23 4 0 [])) ∧
      ∀ c : ChannelNo, ofNum 8 b.toNat = some c →
        ((s.channel c).isolated = false → exec (.deIsolate t [b]) s = .next ((s.advance t).answered 0x23 0 0 [])) ∧
        ((s.channel c).isolated = true →
          let restored := trouble .restore 905 (num c)
          ∃ u, exec (.deIsolate t [b]) s = .next u ∧ Answered s u 0x23 0 0 [] ∧ (u.channel c).isolated = false ∧
            (u.channel c).measured = (s.channel c).measured ∧ (u.channel c).candidate = (s.channel c).candidate ∧
            (u.channel c).debounce = (s.channel c).debounce ∧ (u.channel c).confirmed = (s.channel c).confirmed ∧
            (∀ k, k ≠ c → (u.channel k).readings = (s.channel k).readings) ∧
            (((s.t6 c).cls = .fire → s.mode = .operate) →
              let x := s.channel c
              let e := s.t6 c
              let m := x.confirmed
              u.channel c = reconciled e { x with isolated := false } m ∧
                (wiringOf m ≠ .none → x.wiring = .none → ⟨.channelWiring, num c, true⟩ ∈ u.link.faults) ∧
                (wiringOf m = .none → x.wiring ≠ .none → s.FaultsKept →
                  ⟨.channelWiring, num c, true⟩ ∉ u.link.faults) ∧
                (s.joinable restored = none → s.ordinaryCount ≤ 28 → (s.ticketToGive, restored) ∈ u.reports) ∧
                (s.joinable restored = none → s.ordinaryCount ≤ 28 → (∀ r ∈ s.queue.records, r.report.source ≠ .input) →
                  e.event ≠ e.openCode → e.event ≠ e.shortCode →
                  ∃ new, u.reports = s.reports ++ new ∧
                    new.map Prod.snd = restored :: (wiringReports e x.wiring m ++ alarmReports e x m))))) ∧
  ∀ (t : Nat) (b : Byte) (s : State), s.Rested → s.Asked 0x24 [b] →
    (ofNum 8 b.toNat = none → exec (.unlatch t [b]) s = .next ((s.advance t).answered 0x24 4 0 [])) ∧
    ∀ c : ChannelNo, ofNum 8 b.toNat = some c →
      ((s.channel c).latched = false → exec (.unlatch t [b]) s = .next ((s.advance t).answered 0x24 0 0 [])) ∧
      ((s.channel c).latched = true → (s.channel c).confirmed = .active →
        exec (.unlatch t [b]) s = .next ((s.advance t).answered 0x24 6 0 [])) ∧
      ((s.channel c).latched = true → (s.channel c).confirmed ≠ .active →
        let restored := eventReport (s.t6 c) .restore
        ∃ u, exec (.unlatch t [b]) s = .next u ∧ Answered s u 0x24 0 0 [] ∧ (u.channel c).latched = false ∧
          (u.channel c).readings = (s.channel c).readings ∧
          ((s.channel c).confirmed = .normal → (s.channel c).isolated = false → (s.channel c).force = .none →
            (u.channel c).alarm = false ∧
            ((s.channel c).alarm = true → (s.channel c).wiring = .none → (s.t6 c).restoreReporting = true →
              ((s.t6 c).cls = .fire → s.mode = .operate) → s.joinable restored = none → s.ordinaryCount < 32 →
              u.reports = s.reports ++ [(s.ticketToGive, restored)])))

/-- FORCE is refused with MODE in OPERATE, with RANGE, or PROTECTED; passed, every channel has the force that its code gives, or keeps its own, with the test report of each change, and a channel released is reconciled (R49, R50). A FIRE-class channel that is released may raise a FIRE record, which ends SERVICE and releases every force (R50, R171), so the reports are shown where none is. FORCE-CANCEL-ALL leaves no channel forced, and raises the same reports (R52). -/
def Obligations.ForcesAreSetAndCancelled : Prop :=
  (∀ (t : Nat) (p : List Byte) (s : State), s.Rested → p.length = 8 → s.Asked 0x20 p →
      let code := fun c : ChannelNo => (p.getD c.val 0).toNat
      let force := fun c : ChannelNo => [(s.channel c).force, .normal, .active, .none].getD (code c) .none
      let reports := ((List.finRange 8).map fun c => forceReports (s.t6 c) (s.channel c) (force c)).flatten
      (s.mode = .operate → exec (.force t p) s = .next ((s.advance t).answered 0x20 5 0 [])) ∧
      (s.mode = .service → (∃ c, 3 < code c) → exec (.force t p) s = .next ((s.advance t).answered 0x20 4 0 [])) ∧
      (s.mode = .service → (∀ c, code c ≤ 3) →
        (∃ c, (code c ≠ 0 ∧ (s.channel c).isolated = true) ∨
          (code c = 1 ∧ (s.t6 c).cls = .fire ∧ (s.channel c).confirmed = .active)) →
        exec (.force t p) s = .next ((s.advance t).answered 0x20 8 0 [])) ∧
      (s.mode = .service → (∀ c, code c ≤ 3) → (∀ c, code c ≠ 0 → (s.channel c).isolated = false) →
        (∀ c, code c = 1 → ¬((s.t6 c).cls = .fire ∧ (s.channel c).confirmed = .active)) →
        ∃ u, exec (.force t p) s = .next u ∧ Answered s u 0x20 0 0 [] ∧ u.readings = s.readings ∧
          (∀ c, code c = 3 → (u.channel c).force = .none) ∧ (u.mode = .operate → ∀ c, (u.channel c).force = .none) ∧
          (u.mode = .service → ∀ c, (u.channel c).force = force c) ∧
          ((∀ c, code c = 3 → (s.t6 c).cls ≠ .fire) →
            u.mode = .service ∧ (∀ c, u.channel c = forcedChannel (s.t6 c) (s.channel c) (force c)) ∧
              Enter s u reports))) ∧
  (∀ (t : Nat) (s : State), s.Rested → s.Asked 0x21 [] →
      ∃ u, exec (.forceCancelAll t []) s = .next u ∧ Answered s u 0x21 0 0 [] ∧
        (∀ c, (u.channel c).force = .none) ∧ u.readings = s.readings ∧
        ((∀ c, (s.channel c).force ≠ .none → (s.t6 c).cls ≠ .fire) →
          u.mode = s.mode ∧ (∀ c, u.channel c = forcedChannel (s.t6 c) (s.channel c) .none) ∧
            Enter s u ((List.finRange 8).map fun c => forceReports (s.t6 c) (s.channel c) .none).flatten))

/-! ### The report queue (`04`) -/

/-- A report of an identity that the queue does not hold free, with a place free: it enters behind every record, under the counter's value or the next free one, and the response carries that ticket (R58, R60, R77). A report of an identity that a WAITING or STRANDED record has joins the first of them in queue order: the repeat count rises by 1, to at most 255, the response carries that ticket and COALESCED, and a better class takes the record with it to its own route (R61). A FIRE report in SERVICE brings further reports and is left out. -/
def Obligations.RaiseEntersTheQueue : Prop :=
  ∀ (t : Nat) (p : List Byte) (rep : Report) (s : State), s.Rested → p.length = 8 → s.Asked 0x10 p →
    ReportClass.ofRank (p.getD 0 0).toNat = some rep.cls → Qualifier.ofCode (p.getD 1 0).toNat = some rep.qualifier →
    rep.source = .host → rep.sourceNumber = (p.getD 2 0).toNat * 256 + (p.getD 3 0).toNat →
    rep.event = (p.getD 4 0).toNat * 256 + (p.getD 5 0).toNat →
    rep.zone = (p.getD 6 0).toNat * 256 + (p.getD 7 0).toNat →
    rep.sourceNumber ≤ 999 → rep.event ≤ 999 → rep.zone ≤ 999 → ¬(901 ≤ rep.event ∧ rep.event ≤ 921) →
    (rep.cls = .fire → s.mode = .operate) →
    (s.joinable rep = none → s.ordinaryCount < 32 →
      ∃ u, exec (.raise t p) s = .next u ∧ u.reports = s.reports ++ [(s.ticketToGive, rep)] ∧
        (s.find s.queue.ticketCounter = none → s.ticketToGive = s.queue.ticketCounter) ∧
        u.queue.ticketCounter = (if s.ticketToGive < 65535 then s.ticketToGive + 1 else 1) ∧
        Answered s u 0x10 0 0 [u8 (s.ticketToGive / 256), u8 s.ticketToGive]) ∧
    ∀ r, ((inRank s).find? fun x => x.report.qualifier = rep.qualifier ∧ x.report.source = .host ∧
        x.report.sourceNumber = rep.sourceNumber ∧ x.report.event = rep.event ∧ x.report.zone = rep.zone ∧
        (x.state = .waiting ∨ x.state = .stranded)) = some r →
      (r.report.cls.rank ≤ rep.cls.rank →
        ∃ u, exec (.raise t p) s = .next u ∧ Answered s u 0x10 0 4 [u8 (r.ticket / 256), u8 r.ticket] ∧
          u.channels = s.channels ∧
          u.queue =
            { s.queue with
              records := s.queue.records.map fun x =>
                if x.ticket = r.ticket then { x with repeats := min 255 (x.repeats + 1) } else x }) ∧
      (rep.cls.rank < r.report.cls.rank → s.QueueKept → s.LossKept →
        ∃ u, exec (.raise t p) s = .next u ∧ Answered s u 0x10 0 4 [u8 (r.ticket / 256), u8 r.ticket] ∧
          u.reports = (s.reports.map fun x => if x.1 = r.ticket then (x.1, { x.2 with cls := rep.cls }) else x) ∧
          ∀ x ∈ u.queue.records, x.ticket = r.ticket →
            x.repeats = min 255 (r.repeats + 1) ∧ x.route = s.classRoute rep.cls ∧
              x.pendingList = s.buildPending x.route r.acceptedList ∧ x.acceptedList = r.acceptedList ∧
              x.age = r.age ∧ x.enteredAt = r.enteredAt)

/-- RAISE refuses with RANGE, and ticket 0, a class rank outside 1..5, a qualifier that is none of the five, a number, event or zone above 999 and the events 901..921 (R77, R153). A FIRE report in SERVICE enters and ends SERVICE: the mode is OPERATE, no channel is forced, the gate is open unless the part is HELD, and the hold limit of a HELD part starts (R65, R97, R171, R172, R173); that it is counted in ms is the model's reading (log 21). -/
def Obligations.RaiseIsCheckedAndEndsService : Prop :=
  (∀ (t : Nat) (p : List Byte) (s : State), s.Rested → p.length = 8 → s.Asked 0x10 p →
      let number := fun i => (p.getD i 0).toNat * 256 + (p.getD (i + 1) 0).toNat
      (p.getD 0 0 ∉ ([1, 2, 3, 4, 5] : List Byte) ∨ p.getD 1 0 ∉ ([1, 3, 6, 7, 8] : List Byte) ∨ 999 < number 2 ∨
          999 < number 4 ∨ 999 < number 6 ∨ (901 ≤ number 4 ∧ number 4 ≤ 921)) →
      exec (.raise t p) s = .next ((s.advance t).answered 0x10 4 0 [0, 0])) ∧
  ∀ (t : Nat) (p : List Byte) (rep : Report) (s : State), s.Rested → p.length = 8 → s.Asked 0x10 p →
    raisedReport p = some rep → rep.cls = .fire → s.mode = .service → s.joinable rep = none → s.ordinaryCount < 32 →
    ∃ u, exec (.raise t p) s = .next u ∧ Answered s u 0x10 0 0 [u8 (s.ticketToGive / 256), u8 s.ticketToGive] ∧
      (s.ticketToGive, rep) ∈ u.reports ∧ u.mode = .operate ∧ (∀ c, (u.channel c).force = .none) ∧ u.hold = s.hold ∧
      (u.dispatcher.gateOpen = true ↔ s.hold = .released) ∧
      u.holdTimer =
        if s.hold = .held ∧ s.holdTimer = none ∧ s.t1.holdLimit ≠ 0 ∧ s.storeCorrupt = false then
          some (max s.now t + s.t1.holdLimit * 1000)
        else s.holdTimer

/-- TEST-CALL admits a ROUTINE STATUS report of event 911 and its zone, and refuses a zone above 999 with RANGE. In a full queue with none to join it is lost: FULL with ticket 0, the lost tally one more, every record kept, and the loss told by the LOSS record: a new one, one more in the repeat count of one that is WAITING or STRANDED, to at most 255, or one more held loss beside one in a slot (R62, R63, R64, R76, R153). -/
def Obligations.TestCallEntersOrIsLost : Prop :=
  (∀ (t : Nat) (hi lo : Byte) (s : State), s.Rested → s.Asked 0x12 [hi, lo] →
      let zone := hi.toNat * 256 + lo.toNat
      let rep : Report :=
        { cls := .routine, qualifier := .status, source := .part, sourceNumber := 0, event := 911, zone }
      (999 < zone → exec (.testCall t [hi, lo]) s = .next ((s.advance t).answered 0x12 4 0 [0, 0])) ∧
      (zone ≤ 999 → s.joinable rep = none → s.ordinaryCount < 32 →
        ∃ u, exec (.testCall t [hi, lo]) s = .next u ∧ u.reports = s.reports ++ [(s.ticketToGive, rep)] ∧
          Answered s u 0x12 0 0 [u8 (s.ticketToGive / 256), u8 s.ticketToGive])) ∧
  (∀ (t : Nat) (hi lo : Byte) (s : State), s.Rested → s.Asked 0x12 [hi, lo] →
      let zone := hi.toNat * 256 + lo.toNat
      let rep : Report :=
        { cls := .routine, qualifier := .status, source := .part, sourceNumber := 0, event := 911, zone }
      let loss : Report :=
        { cls := .trouble, qualifier := .new, source := .part, sourceNumber := 0, event := 904, zone := 0 }
      zone ≤ 999 → s.joinable rep = none → s.ordinaryCount = 32 →
      ∃ u, exec (.testCall t [hi, lo]) s = .next u ∧ Answered s u 0x12 10 0 [0, 0] ∧
        u.queue.lostTally = min 65535 (s.queue.lostTally + 1) ∧
        (s.lossRecord = none → u.reports = s.reports ++ [(s.ticketToGive, loss)]) ∧
        (s.lossRecord ≠ none → u.reports = s.reports) ∧
        (∀ r, s.lossRecord = some r → r.state = .staged ∨ r.state = .inFlight →
          u.queue.heldLosses = min 255 (s.queue.heldLosses + 1)) ∧
        ∀ r, s.lossRecord = some r → r.state = .waiting ∨ r.state = .stranded →
          u.lossRecord = some { r with repeats := min 255 (r.repeats + 1) } ∧
            u.queue =
              { s.queue with
                lostTally := min 65535 (s.queue.lostTally + 1)
                records := s.queue.records.map fun x =>
                  if x.ticket = r.ticket then { x with repeats := min 255 (x.repeats + 1) } else x })

/-- The last in queue order of the free ordinary records of a worse rank gives way to a SUPERVISORY report in a full queue: EVICTED with the new ticket, and the evicted record gone; the loss is told by a LOSS record behind it if there is none yet (R62, R63, R77). -/
def Obligations.BetterRankEvicts : Prop :=
  ∀ (t : Nat) (p : List Byte) (rep : Report) (r : Record) (s : State), s.Rested → s.QueueKept → p.length = 8 →
    s.Asked 0x10 p → raisedReport p = some rep → rep.cls = .supervisory → s.joinable rep = none →
    s.ordinaryCount = 32 →
    ((inRank s).filter fun x => !x.reserved && x.isFree && decide (2 < x.report.cls.rank)).getLast? = some r →
    let loss : Report :=
      { cls := .trouble, qualifier := .new, source := .part, sourceNumber := 0, event := 904, zone := 0 }
    ∃ u ticket lossTicket, exec (.raise t p) s = .next u ∧
      Answered s u 0x10 0 2 [u8 (ticket / 256), u8 ticket] ∧
      u.queue.lostTally = min 65535 (s.queue.lostTally + 1) ∧
      u.reports = (s.reports.filter fun x => x.1 ≠ r.ticket) ++ [(ticket, rep)] ++
        if s.lossRecord = none then [(lossTicket, loss)] else []

/-- WITHDRAW removes an ordinary record that is neither FIRE nor IN-FLIGHT, and no other; its four checks refuse in order (R71, R78). -/
def Obligations.WithdrawRemovesTheRecord : Prop :=
  ∀ (t : Nat) (hi lo : Byte) (s : State), s.Rested → s.Asked 0x11 [hi, lo] →
    let ticket := hi.toNat * 256 + lo.toNat
    (ticket = 0 → exec (.withdraw t [hi, lo]) s = .next ((s.advance t).answered 0x11 4 0 [])) ∧
    (ticket ≠ 0 → s.find ticket = none →
      exec (.withdraw t [hi, lo]) s = .next ((s.advance t).answered 0x11 9 0 [])) ∧
    ∀ r, ticket ≠ 0 → s.find ticket = some r →
      (r.report.cls = .fire → exec (.withdraw t [hi, lo]) s = .next ((s.advance t).answered 0x11 8 0 [])) ∧
      (r.report.cls ≠ .fire → r.state = .inFlight →
        exec (.withdraw t [hi, lo]) s = .next ((s.advance t).answered 0x11 7 0 [])) ∧
      (r.report.cls ≠ .fire → r.state ≠ .inFlight → r.reserved = false →
        ∃ u, exec (.withdraw t [hi, lo]) s = .next u ∧ Answered s u 0x11 0 0 [] ∧
          u.reports = s.reports.filter fun x => x.1 != ticket)

/-- A further whole minute adds one to the age of its record and changes nothing else of the queue (R72). The periodic test's expiry admits its report and starts the timer again, or not for an interval of 0 (R75). That the timer is counted in ms from the instant of its expiry is the model's reading (log 21). -/
def Obligations.AgesAndTestsRecur : Prop :=
  (∀ (t ticket : Nat) (r : Record) (s : State), s.Rested → s.find ticket = some r → r.age < 255 →
      r.enteredAt + 60 * (r.age + 1) ≤ max s.now t / 1000 →
      ∃ u, exec (.ageTick t ticket) s = .next u ∧ u.channels = s.channels ∧
        u.queue =
          { s.queue with
            records := s.queue.records.map fun x => if x.ticket = ticket then { x with age := r.age + 1 } else x }) ∧
  (∀ (t e : Nat) (s : State), s.Rested → s.queue.testTimer = some e → e ≤ max s.now t →
      let rep : Report :=
        { cls := .routine, qualifier := .status, source := .part, sourceNumber := 0, event := 910, zone := 0 }
      ∃ u, exec (.periodicTestExpiry t) s = .next u ∧
        u.queue.testTimer =
          (if s.t1.testInterval = 0 then none else some (max s.now t + s.t1.testInterval * 3600 * 1000)) ∧
        (s.joinable rep = none → s.ordinaryCount < 32 → u.reports = s.reports ++ [(s.ticketToGive, rep)]) ∧
        (s.joinable rep ≠ none → u.reports = s.reports))

/-! ### Routes, receivers and the Dispatcher (`05`, `06`) -/

/-- On the exit from SERVICE every route is evaluated: valid with its chain if the walk from its head reaches 0 within four different entries that have numbers to dial, else invalid with none (R81), and ROUTE-INVALID is active exactly for an invalid route that a class names (R82). Every record that is WAITING or STRANDED takes route and pending list again, an EACH list without the entries that have accepted it, and the others keep theirs (R83, R95); without a call on any line it is then WAITING if it has a target, else STRANDED (R70). -/
def Obligations.RoutesAreEvaluated : Prop :=
  ∀ (t : Nat) (s : State), s.Rested → s.Asked 0x33 [1] → s.mode = .service → s.tables.InRange →
    (∀ c, (s.channel c).force = .none) →
    let isFree := fun r : Record => r.state = .waiting ∨ r.state = .stranded
    ∃ u, exec (.mode t [1]) s = .next u ∧
      (∀ (r : RouteNo) (chain : List RxNo), IsRouteChain s.tables.t3 (s.t4 r).head chain →
        u.route r = { valid := true, chain }) ∧
      (∀ r : RouteNo, (∀ chain, ¬IsRouteChain s.tables.t3 (s.t4 r).head chain) →
        u.route r = { valid := false, chain := [] }) ∧
      (s.FaultsKept → ∀ r : RouteNo, ⟨.routeInvalid, num r, true⟩ ∈ u.link.faults ↔
        (u.route r).valid = false ∧ ∃ cls, s.classRoute cls = r) ∧
      u.queue.records.map (fun r => (r.ticket, r.report, r.route, r.pendingList, r.acceptedList)) =
        s.queue.records.map (fun r =>
          let route := s.classRoute r.report.cls
          let chain := (u.route route).chain
          if isFree r then
            (r.ticket, r.report, route,
              (if (s.t4 route).mode = .each then chain.filter fun e => e ∉ r.acceptedList else chain), r.acceptedList)
          else (r.ticket, r.report, r.route, r.pendingList, r.acceptedList)) ∧
      ((∀ l, s.call l = none) → (s.queue.records.map Record.ticket).Nodup →
        ∀ r ∈ u.queue.records,
          (r.state = .waiting → ∃ e ∈ r.pendingList, (s.rx e).state ≠ .exhausted) ∧
          (r.state = .stranded → ∀ e ∈ r.pendingList, (s.rx e).state = .exhausted))

/-- A backoff that is over leaves the receiver its failures and no due time, a rest that is over neither; the receiver is READY, or CALLING for the call that the Dispatcher starts at once (R86, R90, R91, R93). -/
def Obligations.BackoffAndRestEnd : Prop :=
  (∀ (t : Nat) (e : RxNo) (due : Nat) (s : State), s.Rested → (s.rx e).state = .backoff → (s.rx e).due = some due →
      due ≤ max s.now t / 1000 →
      ∃ u, exec (.backoffEnd t e) s = .next u ∧ (u.rx e).failures = (s.rx e).failures ∧ (u.rx e).due = none ∧
        ((u.rx e).state = .ready ∨ (u.rx e).state = .calling) ∧
        (s.dispatcher.gateOpen = false → (u.rx e).state = .ready) ∧ u.steady = (s.advance t).steady) ∧
  (∀ (t : Nat) (e : RxNo) (due : Nat) (s : State), s.Rested → (s.rx e).state = .exhausted → (s.rx e).due = some due →
      due ≤ max s.now t / 1000 →
      ∃ u, exec (.restEnd t e) s = .next u ∧ (u.rx e).failures = 0 ∧ (u.rx e).due = none ∧
        ((u.rx e).state = .ready ∨ (u.rx e).state = .calling) ∧ u.reports = s.reports ∧ u.channels = s.channels)

/-- The Dispatcher acts when a receiver is READY again, when a report is admitted behind an OPEN gate, and when the gate opens by RELEASE, the hold limit or MODE (R97, R99). It chooses the first record in queue order that is WAITING for a READY receiver, and the search ends on a line: the first FREE line without a fault in rotation order from the counter, or, where there is none and the record is seize-eligible, the first TENANT line without a fault that permits seizing; without either no call starts (R30, R33, R100, R101, R102). A REPORT call to the receiver then stands on that line, grant kind SEIZING for a seize-eligible record on a line that permits seizing, else TRICKLE; the counter moves down and the receiver is CALLING (R30, R33, R86, R104). On the exit from SERVICE the pass comes after the rebuild: a record alone in the queue, even a STRANDED one, is called for by the route that the class map now gives (R95, R97). That the Dispatcher acts within the step of what it is told is the model's reading (log 4). -/
def Obligations.DispatcherStartsTheCall : Prop :=
  (∀ (t : Nat) (e : RxNo) (due : Nat) (r : Record) (s : State), s.Rested →
      (s.rx e).state = .backoff → (s.rx e).due = some due → due ≤ max s.now t / 1000 → s.dispatcher.gateOpen = true →
      ((inRank s).find? fun x => x.state = .waiting) = some r →
      (∀ x ∈ s.queue.records, x.state = .waiting → firstUsable s x.pendingList = some e) →
      (∀ line, SearchEnds s (seizes s r = true) line → (s.ctl line).lend = .none → s.usable line = true →
        ∃ u, exec (.backoffEnd t e) s = .next u ∧ CallBegun s u line e (seizes s r) ∧ (u.rx e).due = none ∧
          u.queue = s.queue) ∧
      ((∀ k, ¬((s.ctl k).occupancy = .free ∧ (s.ctl k).fault = .none)) → (seizes s r = true → ∀ k, ¬Grants s k) →
        s.dispatcher.held = [] →
        ∃ u, exec (.backoffEnd t e) s = .next u ∧ u.lines = s.lines ∧ u.queue = s.queue ∧ (u.rx e).state = .ready)) ∧
  (∀ (t : Nat) (p : List Byte) (rep : Report) (e : RxNo) (line : LineNo) (s : State), s.Rested → p.length = 8 →
      s.Asked 0x10 p → raisedReport p = some rep → (rep.cls = .fire → s.mode = .operate) →
      s.joinable rep = none → s.ordinaryCount < 32 → s.dispatcher.gateOpen = true →
      firstUsable s (s.buildPending (s.classRoute rep.cls) []) = some e → (s.rx e).state = .ready →
      (∀ x ∈ s.queue.records, waitsForReady s x = false) → (∀ k c, s.call k = some c → c.receiver ≠ some e) →
      SearchEnds s (rep.cls = .fire ∨ rep.cls = .supervisory) line → (s.ctl line).lend = .none →
      s.usable line = true →
      ∃ u, exec (.raise t p) s = .next u ∧ u.reports = s.reports ++ [(s.ticketToGive, rep)] ∧
        CallBegun s u line e (seizes u (newRecord s rep (max s.now t / 1000)))) ∧
  (∀ (t : Nat) (opens : Instr) (e : RxNo) (r : Record) (line : LineNo) (s : State), s.Rested →
      (opens = .release t [] ∧ s.Asked 0x34 [] ∧ s.hold = .held ∧ s.storeCorrupt = false ∨
        opens = .holdLimitExpiry t ∧ ∃ x, s.holdTimer = some x ∧ x ≤ max s.now t) →
      s.mode = .operate → s.dispatcher.gateOpen = false → (s.rx e).state = .ready →
      ((inRank s).find? fun x => x.state = .waiting) = some r →
      (∀ x ∈ s.queue.records, x.state = .waiting → firstUsable s x.pendingList = some e) →
      SearchEnds s (seizes s r = true) line → (s.ctl line).lend = .none → s.usable line = true →
      ∃ u, exec opens s = .next u ∧ u.dispatcher.gateOpen = true ∧ u.queue.records = s.queue.records ∧
        CallBegun s u line e (seizes s r)) ∧
  ∀ (t : Nat) (e : RxNo) (r : Record) (chain : List RxNo) (line : LineNo) (s : State), s.Rested → s.Asked 0x33 [1] →
      s.mode = .service → s.hold = .released → s.dispatcher.gateOpen = false → (∀ c, (s.channel c).force = .none) →
      s.queue.records = [r] → r.state = .waiting ∨ r.state = .stranded → r.acceptedList = [] →
      IsRouteChain s.tables.t3 (s.t4 (s.classRoute r.report.cls)).head chain →
      firstUsable s chain = some e → (s.rx e).state = .ready → (∀ k c, s.call k = some c → c.receiver ≠ some e) →
      SearchEnds s (r.report.cls = .fire ∨ r.report.cls = .supervisory) line → (s.ctl line).lend = .none →
      s.usable line = true →
      ∃ u, exec (.mode t [1]) s = .next u ∧ u.dispatcher.gateOpen = true ∧
        u.queue.records =
          [{ r with route := s.classRoute r.report.cls, pendingList := chain, state := .waiting }] ∧
        CallBegun s u line e (seizes u r)

/-- When a backoff ends the Dispatcher acts: at the end of it the URGENT-PENDING condition is true exactly if the gate is OPEN, a seize-eligible record waits for a READY receiver, no fitted line would be granted for it and a line is LENT (R37, R108). While it is, the WAITING FIRE records with a READY target are held back in queue order with the present clock (R109), and the FIRE-wait timer runs for the lend grace of the oldest (R110). The notice goes when the condition begins; with a frame being sent and room in the buffer it stands there last. -/
def Obligations.UrgentAndHeldBack : Prop :=
  (∀ (t : Nat) (e : RxNo) (due : Nat) (s : State), s.Rested → (s.rx e).state = .backoff → (s.rx e).due = some due →
      due ≤ max s.now t / 1000 → s.dispatcher.held = [] →
      let clock := max s.now t / 1000
      ∃ u, exec (.backoffEnd t e) s = .next u ∧ (u.dispatcher.urgent = true ↔ UrgentHolds u) ∧
        u.dispatcher.held =
          (if u.dispatcher.urgent then
            ((inRank u).filter fun r => r.report.cls = .fire ∧ waitsForReady u r = true).map fun r => (r.ticket, clock)
          else []) ∧
        u.dispatcher.fireTimer =
          if u.dispatcher.held ≠ [] ∧ s.t1.lendGrace ≠ 0 then some (clock + s.t1.lendGrace) else none) ∧
  (∀ (t : Nat) (e : RxNo) (due : Nat) (r : Record) (s : State), s.Rested → (s.rx e).state = .backoff →
      (s.rx e).due = some due → due ≤ max s.now t / 1000 → s.dispatcher.held = [] → s.dispatcher.urgent = false →
      s.dispatcher.gateOpen = true → (∀ l : LineNo, l.val < s.fitted → ¬Grants s l) → (∃ l, (s.ctl l).lend = .lent) →
      s.RotationKept → s.link.receiver ≠ .silent → s.link.transmitter ≠ .idle → s.link.notices.length < 16 →
      let s1 := s.setRx e { state := .ready, failures := (s.rx e).failures, due := none }
      ((inRank s1).find? fun r => waitsForReady s1 r && seizes s1 r) = some r →
      ∃ u, exec (.backoffEnd t e) s = .next u ∧ u.dispatcher.urgent = true ∧ u.lines = s.lines ∧ u.queue = s.queue ∧
        u.link.notices = s.link.notices ++
          [.urgentPending r.ticket r.report.cls ((List.finRange 4).filter fun l => (s.ctl l).lend = .lent)])

/-! ### The call (`07`) -/

/-- CLEARDOWN over, the line is off-hook with the relay still open, the detector hears what is on the line, and DIALTONE lasts 5 s (R115, R116). Dial tone of 800 ms then clears the no-tone count and begins the dial string, prefix and number: every 'W' at its front is recognised at once by the tone that is still heard, and the symbol behind them begins, a pause among them, or RING-WAIT (R22, R117, R119, R121). With an empty number the call dials nothing and ends CUT-SHORT (R117); of a PROBE call dial tone is PROBE-OK (R130). That a released call's tone record stays as it was is the model's choice (log 45). -/
def Obligations.TakenLineReachesDialling : Prop :=
  (∀ (t : Nat) (line : LineNo) (c : Call) (s : State), s.Rested → s.TimerEnds line c t → c.state = .cleardown →
      let x := s.line line
      let hear := fun on : Bool => if on then some (max s.now t) else none
      exec (.cleardownEnd t line) s =
        .next
          ((s.advance t).setLine line
            { x with
              iface := { x.iface with offHook := true }
              detector :=
                { listening := true, muted := false,
                  since := ⟨hear x.toneOn.dial, hear x.toneOn.t1, hear x.toneOn.t2⟩, segment := none }
              call := some { c with state := .dialtone, stateTimer := some (max s.now t + 5000) } })) ∧
  (∀ (t : Nat) (line : LineNo) (c : Call) (onset : Nat) (s : State), s.Rested → s.call line = some c →
      c.state = .dialtone → c.tone.openSegment = some (.dial, onset) → onset + 800 ≤ max s.now t →
      (c.purpose = .probe → (s.line line).sending.tickets = [] → (s.line line).next.tickets = [] →
        exec (.dialToneRecognised t line) s =
          .next
            ((s.advance t).setLine line
              ({ s.line line with ctl := { s.ctl line with noTone := 0 } }.released c .probeOk (max s.now t)))) ∧
      ∀ e, c.purpose = .report → c.receiver = some e →
        let ctl := { s.ctl line with noTone := 0 }
        let dialString := (s.t2 line).dialPrefix ++ (s.t3 e).dialNumber
        ((s.t3 e).dialNumber ≠ [] →
          ∃ x, exec (.dialToneRecognised t line) s = .next ((s.advance t).setLine line x) ∧ x.ctl = ctl ∧
            NextSymbol (s.line line) x dialString (pastWaits dialString 0) (max s.now t)) ∧
        ((s.t3 e).dialNumber = [] → (s.line line).sending.tickets = [] → (s.line line).next.tickets = [] →
          exec (.dialToneRecognised t line) s =
            .next
              ((s.advance t).setLine line
                ({ s.line line with ctl }.released { c with dialString, dialPos := 0 } .cutShort (max s.now t)))))

/-- The state timers of DIALTONE, SECOND-TONE, RING-WAIT and HANDSHAKE give the call its result and the release guard (R116, R119, R121, R122, R127, R130), and so does the call time limit before EXCHANGE, CUT-SHORT; in TRANSMIT, REPLY and RETRY it sets the cut-short flag, and in DELAY and GAP it ends the call CUT-SHORT at once, with the records of its slots returned (R124, R146). The slots are empty before EXCHANGE. That a released call's tone record stays as it was is the model's choice (log 45). -/
def Obligations.TimersReleaseTheCall : Prop :=
  (∀ (t : Nat) (line : LineNo) (c : Call) (s : State), s.Rested → s.TimerEnds line c t →
      (s.line line).sending.tickets = [] → (s.line line).next.tickets = [] →
      let ended := fun r : CallResult =>
        Host.Outcome.next (φ := Fault) (ρ := Refusal)
          ((s.advance t).setLine line ((s.line line).released c (resultFor c.purpose r) (max s.now t)))
      (c.state = .dialtone → exec (.dialtoneTimeout t line) s = ended .noDialTone) ∧
        (c.state = .secondTone → exec (.secondToneTimeout t line) s = ended .noSecondTone) ∧
        (c.state = .ringWait → exec (.ringWaitTimeout t line) s = ended .noAnswer) ∧
        (c.state = .handshake → exec (.handshakeTimeout t line) s = ended .noHandshake)) ∧
  (∀ (t : Nat) (line : LineNo) (c : Call) (e : Nat) (s : State), s.Rested → s.call line = some c →
      c.limitTimer = some e → e ≤ max s.now t →
      ((c.state = .exchange .retry ∨ (∃ n, c.state = .exchange (.transmit n)) ∨ ∃ n, c.state = .exchange (.reply n)) →
        exec (.callLimitExpiry t line) s =
          .next ((s.advance t).setCall line (some { c with cutShort := true, limitTimer := none }))) ∧
      ((c.state = .cleardown ∨ c.state = .dialtone ∨ c.state = .dialling ∨ c.state = .secondTone ∨
          c.state = .ringWait ∨ c.state = .handshake) →
        (s.line line).sending.tickets = [] → (s.line line).next.tickets = [] →
        exec (.callLimitExpiry t line) s =
          .next
            ((s.advance t).setLine line
              ((s.line line).released c (resultFor c.purpose .cutShort) (max s.now t)))) ∧
      (c.state = .exchange .delay ∨ c.state = .exchange .gap →
        let released := (s.line line).released { c with cutShort := true } (resultFor c.purpose .cutShort) (max s.now t)
        ((s.line line).sending.tickets = [] → (s.line line).next.tickets = [] →
          exec (.callLimitExpiry t line) s = .next ((s.advance t).setLine line released)) ∧
        (s.QueueKept → (∀ k, k ≠ line → s.call k = none) → (s.ctl line).occupancy = .call →
          (s.ctl line).lend ≠ .lent →
          ∃ u, exec (.callLimitExpiry t line) s = .next u ∧ u.call line = released.call ∧
            (u.line line).iface = released.iface ∧ SlotsAreReturned s u line)))

/-- ABORT-CALL: RANGE outside 1..4, NOT-FOUND with no call, BUSY in RELEASE, PROTECTED while a slot holds a FIRE record (R126). A call that has taken the line is released ABORTED, and the records of its slots are returned, the LOSS record with the held losses (R64, R68, R127, R147). A call in PREPARE ends at once: its line is back at its class occupancy and its receiver READY with its failures kept (R88, R114); shown behind a closed gate, since the Dispatcher may start another call at once. That a released call's tone record stays as it was is the model's choice (log 45). -/
def Obligations.AbortReleasesTheCall : Prop :=
  ∀ (t : Nat) (b : Byte) (s : State), s.Rested → s.Asked 0x28 [b] →
    (ofNum 4 b.toNat = none → exec (.abortCall t [b]) s = .next ((s.advance t).answered 0x28 4 0 [])) ∧
    ∀ line : LineNo, ofNum 4 b.toNat = some line →
      let x := s.line line
      let fire := ∃ r ∈ s.queue.records, r.report.cls = .fire ∧ r.ticket ∈ x.sending.tickets ++ x.next.tickets
      (s.call line = none → exec (.abortCall t [b]) s = .next ((s.advance t).answered 0x28 9 0 [])) ∧
      ∀ c, s.call line = some c →
        (c.state = .release → exec (.abortCall t [b]) s = .next ((s.advance t).answered 0x28 6 0 [])) ∧
        (c.state ≠ .release → fire → exec (.abortCall t [b]) s = .next ((s.advance t).answered 0x28 8 0 [])) ∧
        (c.state ≠ .release → c.state ≠ .prepare → x.sending.tickets = [] → x.next.tickets = [] →
          exec (.abortCall t [b]) s =
            .next
              (((s.advance t).setLine line (x.released c (resultFor c.purpose .aborted) (max s.now t))).answered 0x28 0 0
                [])) ∧
        (c.state ≠ .release → c.state ≠ .prepare → ¬fire → s.QueueKept → (∀ k, k ≠ line → s.call k = none) →
          (s.ctl line).occupancy = .call → (s.ctl line).lend ≠ .lent →
          ∃ u, exec (.abortCall t [b]) s = .next u ∧ Answered s u 0x28 0 0 [] ∧ SlotsAreReturned s u line ∧
            u.call line = (x.released c (resultFor c.purpose .aborted) (max s.now t)).call ∧
            (u.line line).iface = { offHook := false, relayOpen := false, sender := none }) ∧
        (c.state = .prepare → ¬fire → s.dispatcher.gateOpen = false → line.val < s.fitted → (s.ctl line).lend = .none →
          (s.ctl line).disablePending = false → (s.ctl line).power ≠ .off →
          ∃ u, exec (.abortCall t [b]) s = .next u ∧ Answered s u 0x28 0 0 [] ∧ u.call line = none ∧
            (u.ctl line).grant = none ∧ (u.ctl line).occupancy = shown (s.ctl line).classOcc ∧
            (u.line line).iface = x.iface ∧ u.reports = s.reports ∧
            ∀ e, c.receiver = some e → c.purpose = .report →
              u.rx e = { state := .ready, failures := (s.rx e).failures, due := none })

/-- A symbol's tone is followed by its gap, 80 ms dialled and 50 ms in a block (R117, R132). A block symbol's gap is followed by the next symbol, or by the reply window with its timer of 1540 ms (R140). A retry sends the block again as composed with the send count one more (R143). When the gap of a dialled symbol or a pause is over, or second dial tone is recognised, the dial position moves on and what follows begins (R117, R119, R121). A 'W' that finds second dial tone heard already is recognised at once, and so is every 'W' behind it; the no-tone count is then 0 (R22, R119). -/
def Obligations.SymbolsFollowOneAnother : Prop :=
  (∀ (t : Nat) (line : LineNo) (c : Call) (d : Nat) (s : State), s.Rested → s.TimerEnds line c t →
      (s.line line).iface.sender = some d →
      let quiet := fun ms : Nat =>
        Host.Outcome.next (φ := Fault) (ρ := Refusal)
          ((s.advance t).setLine line
            { s.line line with
              iface := { (s.line line).iface with sender := none }
              call := some { c with stateTimer := some (max s.now t + ms) } })
      (c.state = .dialling → exec (.dialSymbolToneEnd t line) s = quiet 80) ∧
        (∀ n, c.state = .exchange (.transmit n) → exec (.blockSymbolToneEnd t line) s = quiet 50)) ∧
  (∀ (t : Nat) (line : LineNo) (c : Call) (n : Nat) (s : State), s.Rested → s.TimerEnds line c t →
      c.state = .exchange (.transmit n) → (s.line line).iface.sender = none →
      let x := s.line line
      (∀ d, x.sending.block[n + 1]? = some d →
        exec (.blockSymbolEnd t line) s =
          .next
            ((s.advance t).setLine line
              { x with
                iface := { x.iface with sender := some d }
                call := some
                  { c with state := .exchange (.transmit (n + 1)), stateTimer := some (max s.now t + 50) } })) ∧
      (x.sending.block[n + 1]? = none →
        ∃ y, exec (.blockSymbolEnd t line) s = .next ((s.advance t).setLine line y) ∧ y.iface = x.iface ∧
          y.detector.muted = false ∧ y.sending = x.sending ∧ y.next = x.next ∧ y.ctl = x.ctl ∧
          y.call = some
            { c with state := .exchange (.reply (max s.now t)), stateTimer := some (max s.now t + 1540) })) ∧
  (∀ (t : Nat) (line : LineNo) (c : Call) (n : Nat) (s : State), s.Rested → s.TimerEnds line c t →
      c.state = .exchange .retry → c.sendCount = some n →
      ∃ x c1, exec (.retryEnd t line) s = .next ((s.advance t).setLine line x) ∧ x.call = some c1 ∧
        c1.state = .exchange (.transmit 0) ∧ c1.sendCount = some (n + 1) ∧ c1.stateTimer = some (max s.now t + 50) ∧
        x.iface = { (s.line line).iface with sender := (s.line line).sending.block.head? } ∧
        x.detector.muted = true ∧ x.sending = (s.line line).sending ∧ x.next = (s.line line).next ∧ x.ctl = s.ctl line) ∧
  ∀ (t : Nat) (line : LineNo) (c : Call) (s : State), s.Rested →
    let position := c.dialPos + 1
    let heard := ∃ onset, c.tone.openSegment = some (.dial, onset) ∧ onset + 800 ≤ max s.now t
    (c.state = .dialling → s.TimerEnds line c t → (s.line line).iface.sender = none →
      ((c.dialString[position]? = some 13 → ¬heard) →
        ∃ x, exec (.dialSymbolEnd t line) s = .next ((s.advance t).setLine line x) ∧
          NextSymbol (s.line line) x c.dialString position (max s.now t) ∧ x.ctl = s.ctl line) ∧
      (c.dialString[position]? = some 13 → heard →
        ∃ x, exec (.dialSymbolEnd t line) s = .next ((s.advance t).setLine line x) ∧
          NextSymbol (s.line line) x c.dialString (pastWaits c.dialString position) (max s.now t) ∧
          x.ctl = { s.ctl line with noTone := 0 })) ∧
    (c.state = .secondTone → s.call line = some c → heard →
      ∃ x, exec (.secondToneRecognised t line) s = .next ((s.advance t).setLine line x) ∧
        NextSymbol (s.line line) x c.dialString (pastWaits c.dialString position) (max s.now t) ∧
        x.ctl = { s.ctl line with noTone := 0 })

/-- The release guard of a REPORT call ends: BUSY, NO-ANSWER, NO-HANDSHAKE and BLOCK-FAILED charge the receiver with one failure more and put it in BACKOFF, or at the attempt limit in EXHAUSTED for the rest interval; every other result leaves its failures and no due time (R88, R89, R93, R128). Behind a closed gate no new call takes the line. The line, behind a closed gate: NO-DIAL-TONE and NO-SECOND-TONE are counted, the third makes it NO-TONE with 902 NEW and a probe 300 s later (R22); PROBE-OK ends that with 902 RESTORE, another end of a probe starts the 300 s again (R23); a disable pending takes it OFF, a lend PENDING makes it LENT, and else its occupancy is the class occupancy (R32). That probe timer and lend idle timer are counted in ms is the model's reading (log 21). -/
def Obligations.GuardEndSettlesReceiverAndLine : Prop :=
  (∀ (t : Nat) (line : LineNo) (c : Call) (e : RxNo) (r : CallResult) (s : State), s.Rested → s.TimerEnds line c t →
      c.state = .release → c.purpose = .report → c.receiver = some e → c.result = some r → 1 ≤ s.t1.retryBase →
      let clock := max s.now t / 1000
      let f := (s.rx e).failures + 1
      ∃ u, exec (.releaseGuardEnd t line) s = .next u ∧ (s.dispatcher.gateOpen = false → u.call line = none) ∧
        u.channels = s.channels ∧
        ((r = .busy ∨ r = .noAnswer ∨ r = .noHandshake ∨ r = .blockFailed) →
          ((s.t3 e).attemptLimit ≤ f →
            u.rx e = { state := .exhausted, failures := f, due := some (clock + s.t1.rest) }) ∧
          (f < (s.t3 e).attemptLimit →
            u.rx e =
              { state := .backoff, failures := f,
                due := some (clock + backoffTime s.t1.retryBase s.t1.retryCap f) })) ∧
        ((r = .complete ∨ r = .cutShort ∨ r = .aborted ∨ r = .noDialTone ∨ r = .noSecondTone ∨ r = .lineDown) →
          (u.rx e).failures = (s.rx e).failures ∧ (u.rx e).due = none ∧
            ((u.rx e).state = .ready ∨ (u.rx e).state = .calling))) ∧
  ∀ (t : Nat) (line : LineNo) (c : Call) (r : CallResult) (s : State), s.Rested → s.TimerEnds line c t →
    c.state = .release → c.result = some r → s.dispatcher.gateOpen = false → line.val < s.fitted →
    (s.ctl line).power ≠ .off →
    let x := s.ctl line
    let counted := c.purpose = .report ∧ (r = .noDialTone ∨ r = .noSecondTone) ∧ x.fault = .none
    ∃ u, exec (.releaseGuardEnd t line) s = .next u ∧ u.call line = none ∧ (u.ctl line).grant = none ∧
      (x.disablePending = false →
        (counted → x.noTone < 2 →
          (u.ctl line).noTone = x.noTone + 1 ∧ (u.ctl line).fault = .none ∧ (u.ctl line).probeTimer = x.probeTimer) ∧
        (counted → 2 ≤ x.noTone →
          (u.ctl line).noTone = 3 ∧ (u.ctl line).fault = .noTone ∧
            (u.ctl line).probeTimer = some (max s.now t + 300000) ∧
            ⟨.lineNoTone, num line, true⟩ ∈ u.link.faults ∧
            (s.joinable (trouble .new 902 (num line)) = none → s.ordinaryCount < 32 →
              u.reports = s.reports ++ [(s.ticketToGive, trouble .new 902 (num line))])) ∧
        (c.purpose = .probe → r = .probeOk →
          (u.ctl line).noTone = x.noTone ∧ (u.ctl line).fault = .none ∧ (u.ctl line).probeTimer = none ∧
            (s.FaultsKept → ⟨.lineNoTone, num line, true⟩ ∉ u.link.faults) ∧
            (s.joinable (trouble .restore 902 (num line)) = none → s.ordinaryCount < 32 →
              u.reports = s.reports ++ [(s.ticketToGive, trouble .restore 902 (num line))])) ∧
        (c.purpose = .probe → r ≠ .probeOk →
          (u.ctl line).noTone = x.noTone ∧ (u.ctl line).fault = x.fault ∧
            (u.ctl line).probeTimer = some (max s.now t + 300000) ∧ u.reports = s.reports) ∧
        (c.purpose = .report → ¬counted →
          (u.ctl line).noTone = x.noTone ∧ (u.ctl line).fault = x.fault ∧
            (u.ctl line).probeTimer = x.probeTimer ∧ u.reports = s.reports) ∧
        (x.lend = .pending →
          (u.ctl line).lend = .lent ∧ (u.ctl line).occupancy = .lent ∧
            (u.ctl line).lendIdle =
              if x.classOcc = .free ∧ s.t1.lendIdle ≠ 0 then some (max s.now t + s.t1.lendIdle * 1000) else none) ∧
        (x.lend = .none → (u.ctl line).lend = .none ∧ (u.ctl line).occupancy = shown x.classOcc)) ∧
      (x.disablePending = true → (s.t2 line).enabled = false →
        (u.ctl line).power = .off ∧ (u.ctl line).promotion = .none ∧ (u.ctl line).occupancy = .offline ∧
          (u.ctl line).classOcc = .unknown ∧ (u.ctl line).fault = .none ∧ (u.ctl line).noTone = 0 ∧
          (u.ctl line).probeTimer = none ∧ (u.ctl line).lend = .none ∧ (u.ctl line).disablePending = false ∧
          (u.sense line).window = [] ∧ (u.sense line).confirmed = .unknown)

/-! ### The exchange (`08`) -/

/-- A block is the start symbol, the account, the count and the report groups, and its check symbol: odd positions from the first account digit on weigh 3 and even ones 1, and the check makes the sum a multiple of 16 (R133, R134). A frame is SYNC, LENGTH, KIND, payload and a check byte that makes the bytes from LENGTH on add up to 0 modulo 256 (R150). -/
def Obligations.ChecksCloseTheirSums : Prop :=
  (∀ (account : List Nat) (reports : List Report), reports ≠ [] →
      let digits := fun n : Nat => [n / 100 % 10, n / 10 % 10, n % 10]
      let group := fun r : Report => [r.qualifier.code, r.cls.rank] ++ digits r.event ++ digits r.zone
      let body := account ++ [reports.length] ++ (reports.map group).flatten
      let sum := (body.mapIdx fun i v => (if i % 2 = 0 then 3 else 1) * v).sum
      let check := (16 - sum % 16) % 16
      composeBlock account reports = [11] ++ body ++ [check] ∧ check ≤ 15 ∧ (sum + check) % 16 = 0) ∧
  (∀ (kind : Byte) (payload : List Byte),
      frame kind payload = 0xC3 :: u8 (payload.length + 1) :: kind :: payload ++ [(frame kind payload).getLastD 0] ∧
        byteSum ((frame kind payload).tail) = 0)

/-- The end of DELAY: SENDING takes the first four WAITING records of the call's receiver in queue order, NEXT the following four, and the first symbol of the first send begins with send count 1 (R67, R136, R137, R140); with none to take the call ends CUT-SHORT. The gap is over and NEXT holds records: NEXT becomes SENDING with its block as composed, its records IN-FLIGHT, NEXT takes the next four, and the first symbol begins with send count 1 (R68, R145); with NEXT empty the call ends COMPLETE. That a released call's tone record stays as it was is the model's choice (log 45). -/
def Obligations.BlocksAreClaimedAndMoved : Prop :=
  (∀ (t : Nat) (line : LineNo) (c : Call) (e : RxNo) (s : State), s.Rested → s.TimerEnds line c t →
      c.state = .exchange .delay → c.receiver = some e → (s.ctl line).occupancy = .call → (s.ctl line).lend ≠ .lent →
      (s.line line).next.tickets = [] → (s.queue.records.map Record.ticket).Nodup →
      let first := (waitingFor s e).take 4
      (first = [] →
        ∃ u, exec (.delayEnd t line) s = .next u ∧
          u.call line = ((s.line line).released c (resultFor c.purpose .cutShort) (max s.now t)).call ∧
          (u.line line).iface = { offHook := false, relayOpen := false, sender := none } ∧
          (u.line line).sending.tickets = [] ∧ (u.line line).next.tickets = [] ∧ u.reports = s.reports) ∧
      (first ≠ [] →
        ∃ u, exec (.delayEnd t line) s = .next u ∧
          SlotHolds s (u.line line).sending (s.t3 e).account (first.map Record.ticket) ∧
          (u.line line).sending.tickets = first.map Record.ticket ∧
          SlotHolds s (u.line line).next (s.t3 e).account ((((waitingFor s e).drop 4).take 4).map Record.ticket) ∧
          (u.line line).iface.sender = some 11 ∧
          (∃ c1, u.call line = some c1 ∧ c1.state = .exchange (.transmit 0) ∧ c1.sendCount = some 1 ∧
            c1.stateTimer = some (max s.now t + 50)) ∧
          (∀ x ∈ u.queue.records, x.ticket ∈ (u.line line).sending.tickets → x.state = .inFlight) ∧
          (∀ x ∈ u.queue.records, x.ticket ∈ (u.line line).next.tickets → x.state = .staged) ∧
          u.reports = s.reports)) ∧
  ∀ (t : Nat) (line : LineNo) (c : Call) (e : RxNo) (s : State), s.Rested → s.TimerEnds line c t →
    c.state = .exchange .gap → c.receiver = some e → (s.ctl line).occupancy = .call → (s.ctl line).lend ≠ .lent →
    ((s.line line).next.tickets = [] → (s.line line).sending.tickets = [] →
      exec (.gapEnd t line) s =
        .next
          ((s.advance t).setLine line
            ((s.line line).released c (resultFor c.purpose .complete) (max s.now t)))) ∧
    ((s.line line).next.tickets ≠ [] → (s.queue.records.map Record.ticket).Nodup →
      ∃ u, exec (.gapEnd t line) s = .next u ∧ (u.line line).sending = (s.line line).next ∧
        (u.line line).iface.sender = (s.line line).next.block.head? ∧
        SlotHolds s (u.line line).next (s.t3 e).account (((waitingFor s e).take 4).map Record.ticket) ∧
        (∃ c1, u.call line = some c1 ∧ c1.state = .exchange (.transmit 0) ∧ c1.sendCount = some 1 ∧
          c1.stateTimer = some (max s.now t + 50)) ∧
        (∀ r ∈ s.queue.records, r.ticket ∈ (s.line line).next.tickets → r.state = .staged →
          { r with state := .inFlight } ∈ u.queue.records) ∧
        u.reports = s.reports)

/-- A record enters WAITING for the receiver of a call in EXCHANGE, behind every record of its rank, in a queue with room or in the place of one evicted: after DELAY, with both flags clear, a NEXT with room takes the first records that wait, up to four, and a full one gives up its last record for the first that waits if the new one stands ahead of it; otherwise NEXT stays (R135, R138, R146). A withdrawn STAGED record leaves NEXT, which is filled up with the flags clear, and is composed again (R139). SENDING stays. NEXT is taken to hold STAGED records of the receiver in queue order, and an eviction is shown with a LOSS record already there. -/
def Obligations.NextFollowsItsRecords : Prop :=
  (∀ (t : Nat) (p : List Byte) (rep : Report) (gone : Option Record) (line : LineNo) (c : Call) (e : RxNo) (phase : Phase)
      (s : State), s.Rested → s.QueueKept → p.length = 8 → s.Asked 0x10 p → raisedReport p = some rep →
      (rep.cls = .fire → s.mode = .operate) → s.joinable rep = none →
      (gone = none → s.ordinaryCount < 32) →
      (∀ r, gone = some r → s.ordinaryCount = 32 ∧ s.lossRecord ≠ none ∧
        ((inRank s).filter fun x => !x.reserved && x.isFree && decide (rep.cls.rank < x.report.cls.rank)).getLast? =
          some r) →
      s.call line = some c → c.state = .exchange phase → c.receiver = some e → (s.ctl line).occupancy = .call →
      (s.ctl line).lend ≠ .lent → (∀ k d, k ≠ line → s.call k = some d → d.receiver ≠ some e) →
      firstUsable s (s.buildPending (s.classRoute rep.cls) []) = some e →
      let x := s.line line
      let old := x.next.tickets
      (((inRank s).filter fun r => r.ticket ∈ old).map Record.ticket) = old →
      (∀ r ∈ s.queue.records, r.ticket ∈ old → r.state = .staged ∧ firstUsable s r.pendingList = some e) →
      let before := withRecords s (s.queue.records.filter fun r => gone.all fun g => r.ticket ≠ g.ticket)
      let new := newRecord before rep (max s.now t / 1000)
      let after := withRecords s (before.queue.records ++ [new])
      let wait := (waitingFor after e).map Record.ticket
      let takes := phase ≠ .delay ∧ c.lendPending = false ∧ c.cutShort = false
      ∃ u, exec (.raise t p) s = .next u ∧
        Answered s u 0x10 0 (if gone.isSome then 2 else 0) [u8 (new.ticket / 256), u8 new.ticket] ∧
        u.reports = after.reports ∧ (u.line line).sending = x.sending ∧
        (¬takes → (u.line line).next = x.next ∧ new ∈ u.queue.records) ∧
        (takes → old.length < 4 →
          SlotHolds after (u.line line).next (s.t3 e).account (old ++ wait.take (4 - old.length))) ∧
        (takes → ∀ last ∈ s.queue.records, old.length = 4 → old.getLast? = some last.ticket →
          (last.report.cls.rank ≤ rep.cls.rank → (u.line line).next = x.next) ∧
          (rep.cls.rank < last.report.cls.rank →
            SlotHolds after (u.line line).next (s.t3 e).account (old.dropLast ++ wait.take 1) ∧
              ∃ y ∈ u.queue.records, y.ticket = last.ticket ∧ y.report = last.report ∧ y.state = .waiting)) ∧
        ∀ y ∈ u.queue.records, y.ticket ∈ (u.line line).next.tickets → y.state = .staged) ∧
  ∀ (t : Nat) (hi lo : Byte) (r : Record) (line : LineNo) (c : Call) (e : RxNo) (s : State), s.Rested → s.QueueKept →
    s.Asked 0x11 [hi, lo] → r ∈ s.queue.records → r.ticket = hi.toNat * 256 + lo.toNat → r.state = .staged →
    r.report.cls ≠ .fire → r.reserved = false → r.ticket ∈ (s.line line).next.tickets →
    (∀ k, k ≠ line → r.ticket ∉ (s.line k).next.tickets) → s.call line = some c → c.receiver = some e →
    (s.ctl line).occupancy = .call → (s.ctl line).lend ≠ .lent →
    let x := s.line line
    let after := withRecords s (s.queue.records.filter fun y => y.ticket ≠ r.ticket)
    let rest := x.next.tickets.filter fun k => k ≠ r.ticket
    ∃ u, exec (.withdraw t [hi, lo]) s = .next u ∧ Answered s u 0x11 0 0 [] ∧ u.reports = after.reports ∧
      (u.line line).sending = x.sending ∧
      (c.lendPending = false → c.cutShort = false →
        SlotHolds after (u.line line).next (s.t3 e).account
          (rest ++ ((waitingFor after e).map Record.ticket).take (4 - rest.length))) ∧
      (c.lendPending = true ∨ c.cutShort = true → SlotHolds after (u.line line).next (s.t3 e).account rest)

/-- A send fails at the reply timer, unless a counting segment is open that has lasted less than 1140 ms; that one is waited for, until it has lasted 1140 ms or ends with a duration that is neither ACCEPT nor REPEAT. A failure and a REPEAT of 150 to 400 ms are answered alike (R141, R142, R143): after the first and second send with RETRY for 250 ms; after the third the call ends BLOCK-FAILED, or CUT-SHORT with a flag set, both slots are empty and no record is lost (R143, R146, R127). That a released call's tone record stays as it was is the model's choice (log 45). -/
def Obligations.FailedSendsEndInRetryOrRelease : Prop :=
  let ended := fun (line : LineNo) (c : Call) (t : Nat) (s u : State) =>
    u.call line = some
      { c with
        state := .release, stateTimer := some (max s.now t + 2000), limitTimer := none
        result := some (if c.lendPending = true ∨ c.cutShort = true then .cutShort else .blockFailed) } ∧
    (u.line line).sending.tickets = [] ∧ (u.line line).next.tickets = [] ∧
    (u.line line).iface = { offHook := false, relayOpen := false, sender := none } ∧ u.reports = s.reports
  (∀ (t : Nat) (line : LineNo) (c : Call) (opened n : Nat) (s : State), s.Rested →
      c.state = .exchange (.reply opened) → c.sendCount = some n →
      let retry := fun c : Call =>
        Host.Outcome.next (φ := Fault) (ρ := Refusal)
          ((s.advance t).setCall line
            (some { c with state := .exchange .retry, stateTimer := some (max s.now t + 250) }))
      let ends := c.purpose = .report ∧ n = 3 ∧ (s.ctl line).occupancy = .call ∧ (s.ctl line).lend ≠ .lent
      let counts := fun onset => c.tone.openSegment = some (.t2, onset) ∧ opened ≤ onset ∧ onset ≤ opened + 1500
      (s.TimerEnds line c t → (∀ onset, counts onset → onset + 1140 ≤ max s.now t) →
        (n < 3 → exec (.replyTimeout t line) s = retry c) ∧
        (ends → ∃ u, exec (.replyTimeout t line) s = .next u ∧ ended line c t s u)) ∧
      (s.TimerEnds line c t → (∃ onset, counts onset ∧ max s.now t < onset + 1140) →
        exec (.replyTimeout t line) s = .next ((s.advance t).setCall line (some { c with stateTimer := none }))) ∧
      (s.call line = some c → c.stateTimer = none → (∃ onset, counts onset ∧ onset + 1140 ≤ max s.now t) →
        (n < 3 → exec (.countingSegmentOverrun t line) s = retry c) ∧
        (ends → ∃ u, exec (.countingSegmentOverrun t line) s = .next u ∧ ended line c t s u))) ∧
  ∀ (t : Nat) (line : LineNo) (c : Call) (opened n onset stop : Nat) (s : State), s.Rested → s.call line = some c →
    c.state = .exchange (.reply opened) → c.sendCount = some n →
    let x := s.line line
    let ms := stop - onset
    x.detector.listening = true → x.detector.muted = false →
    x.detector.segment = some { band := .t2, onset, stopped := some stop } → x.detector.since = ⟨none, none, none⟩ →
    stop + 20 ≤ max s.now t → opened ≤ onset → onset ≤ opened + 1500 →
    (150 ≤ ms ∧ ms ≤ 400) ∨ (c.stateTimer = none ∧ ¬(600 ≤ ms ∧ ms ≤ 1100)) →
    let c1 := { c with
      tone := { c.tone with openSegment := none, lastEnd := some (.t2, min ms 65535, stop) } }
    (n < 3 →
      exec (.toneEnded t line) s =
        .next
          ((s.advance t).setLine line
            { x with
              detector := { x.detector with segment := none }
              call := some { c1 with state := .exchange .retry, stateTimer := some (max s.now t + 250) } })) ∧
    (c.purpose = .report → n = 3 → (s.ctl line).occupancy = .call → (s.ctl line).lend ≠ .lent →
      ∃ u, exec (.toneEnded t line) s = .next u ∧ ended line c1 t s u)

/-- An ACCEPT of 600 to 1100 ms, begun in the reply window: the block counts as accepted, the receiver's failures are 0, and no IN-FLIGHT record of the block whose route is ANY, or EACH with this receiver the last pending, stays in the queue; an EACH record with others pending goes on to them (R69, R87, R141, R144). The call then ends CUT-SHORT with a flag set, COMPLETE with NEXT empty, or waits for its gap of 250 ms (R144, R146). -/
def Obligations.AcceptDeliversTheBlock : Prop :=
  ∀ (t : Nat) (line : LineNo) (c : Call) (e : RxNo) (opened onset stop : Nat) (s : State), s.Rested →
    s.call line = some c → c.state = .exchange (.reply opened) → c.receiver = some e → c.purpose = .report →
    (s.rx e).state = .calling → (s.ctl line).occupancy = .call → (s.ctl line).lend ≠ .lent →
    (s.queue.records.map Record.ticket).Nodup → s.LossKept →
    let x := s.line line
    x.detector.listening = true → x.detector.muted = false →
    x.detector.segment = some { band := .t2, onset, stopped := some stop } → x.detector.since = ⟨none, none, none⟩ →
    stop + 20 ≤ max s.now t → opened ≤ onset → onset ≤ opened + 1500 → 600 ≤ stop - onset → stop - onset ≤ 1100 →
    ∃ u, exec (.toneEnded t line) s = .next u ∧ (u.rx e).failures = 0 ∧
      (∃ c1, u.call line = some c1 ∧ c1.blocksAccepted = min 255 (c.blocksAccepted + 1) ∧
        (c.lendPending = true ∨ c.cutShort = true → c1.state = .release ∧ c1.result = some .cutShort) ∧
        (c.lendPending = false → c.cutShort = false → x.next.tickets = [] →
          c1.state = .release ∧ c1.result = some .complete) ∧
        (c.lendPending = false → c.cutShort = false → x.next.tickets ≠ [] →
          c1.state = .exchange .gap ∧ c1.stateTimer = some (max s.now t + 250) ∧ c1.result = c.result)) ∧
      (u.line line).sending.tickets = [] ∧
      ∀ r ∈ s.queue.records, r.state = .inFlight → r.ticket ∈ x.sending.tickets →
        ((s.t4 r.route).mode = .any → r.reserved = false → (r.ticket, r.report) ∉ u.reports) ∧
        ((s.t4 r.route).mode = .each → r.pendingList = [e] → r.reserved = false →
          (r.ticket, r.report) ∉ u.reports) ∧
        ((s.t4 r.route).mode = .each → e ∈ r.pendingList → r.pendingList ≠ [e] →
          ∃ y ∈ u.queue.records, y.ticket = r.ticket ∧ y.report = r.report ∧ y.state ≠ .inFlight ∧
            y.pendingList = r.pendingList.erase e ∧ y.acceptedList = r.acceptedList ++ [e])

/-- The LOSS record leaves the queue by WITHDRAW, or by an ACCEPT that delivers it, and with it go the held losses into a new one, or QUEUE-LOSS is cleared (R64, R69, R71, R78). An ACCEPT on an EACH route with other entries pending returns it, and the held losses join its repeat count. The lost tally stays. -/
def Obligations.LossRecordLeavesAndReturns : Prop :=
  (∀ (t : Nat) (hi lo : Byte) (r : Record) (s : State), s.Rested → s.QueueKept → s.LossKept → s.Asked 0x11 [hi, lo] →
      s.lossRecord = some r → r.ticket = hi.toNat * 256 + lo.toNat → r.state ≠ .inFlight →
      ∃ u, exec (.withdraw t [hi, lo]) s = .next u ∧ Answered s u 0x11 0 0 [] ∧ LossLeaves s u ∧
        u.queue.lostTally = s.queue.lostTally ∧
        u.reports = (s.reports.filter fun x => x.1 ≠ r.ticket) ++
          if s.queue.heldLosses = 0 then []
          else [((withRecords s (s.queue.records.filter fun x => x.ticket ≠ r.ticket)).ticketToGive, lossReport)]) ∧
  ∀ (t : Nat) (line : LineNo) (c : Call) (e : RxNo) (r : Record) (s : State), s.Rested → s.QueueKept → s.LossKept →
    HearsAccept s line c e t → s.lossRecord = some r → r.state = .inFlight →
    r.ticket ∈ (s.line line).sending.tickets →
    ∃ u, exec (.toneEnded t line) s = .next u ∧ u.queue.lostTally = s.queue.lostTally ∧
      ((s.t4 r.route).mode = .any ∨ r.pendingList = [e] → LossLeaves s u) ∧
      ((s.t4 r.route).mode = .each → e ∈ r.pendingList → r.pendingList ≠ [e] →
        u.queue.heldLosses = 0 ∧ ∃ y, u.lossRecord = some y ∧ y.ticket = r.ticket ∧ y.report = r.report ∧
          y.repeats = min 255 (r.repeats + s.queue.heldLosses) ∧ y.pendingList = r.pendingList.erase e ∧
          y.acceptedList = r.acceptedList ++ [e])

/-! ### The Host Link (`09`) -/

/-- SYNC, a LENGTH of 1..200 and a byte of the body that is not the last go on with 50 ms more; SILENT and a byte other than SYNC in HUNT change nothing; another LENGTH, and the inter-byte timer, go back to HUNT (R149, R151). The last expected byte: a frame whose bytes add up to 0 takes a place in the request buffer, or sets the requests-lost flag when both are taken; another is discarded; the receiver hunts (R150, R152). That INCOMING_BYTE with that byte does the same is the model's reading (log 8), and so is that INTER_BYTE_TIMEOUT before the timer's expiry changes nothing but the clock (log 3). -/
def Obligations.BytesMakeCheckedFrames : Prop :=
  (∀ (t : Nat) (b : Byte) (s : State),
      let k := s.link
      let timed := fun r : Receiver =>
        Host.Outcome.next (φ := Fault) (ρ := Refusal)
          ((s.advance t).setLink { k with receiver := r, byteTimer := some (max s.now t + 50) })
      (k.receiver = .silent → exec (.incomingByte t b) s = .next (s.advance t)) ∧
        (k.receiver = .hunt → b ≠ 0xC3 → exec (.incomingByte t b) s = .next (s.advance t)) ∧
        (k.receiver = .hunt → b = 0xC3 → exec (.incomingByte t b) s = timed .length) ∧
        (k.receiver = .length → 1 ≤ b.toNat → b.toNat ≤ 200 →
          exec (.incomingByte t b) s = timed (.body b [] (b.toNat + 1))) ∧
        (k.receiver = .length → (b.toNat = 0 ∨ 200 < b.toNat) →
          exec (.incomingByte t b) s = .next ((s.advance t).setLink { k with receiver := .hunt, byteTimer := none })) ∧
        (∀ len got expect, k.receiver = .body len got expect → 1 < expect →
          exec (.incomingByte t b) s = timed (.body len (got ++ [b]) (expect - 1)))) ∧
  (∀ (t : Nat) (s : State) (e : Nat), s.link.byteTimer = some e →
      (e ≤ max s.now t →
        exec (.interByteTimeout t) s =
          .next ((s.advance t).setLink { s.link with receiver := .hunt, byteTimer := none })) ∧
        (max s.now t < e → exec (.interByteTimeout t) s = .next (s.advance t))) ∧
  ∀ (t : Nat) (len kind last : Byte) (payload : List Byte) (s : State),
    s.link.receiver = .body len (kind :: payload) 1 →
    let k := { s.link with receiver := Receiver.hunt, byteTimer := none }
    let sum := len + kind + payload.foldl (· + ·) 0 + last
    (sum = 0 → s.link.requests.length < 2 →
      exec (.frameReceived t last) s =
        .next ((s.advance t).setLink { k with requests := s.link.requests ++ [{ kind, payload }] })) ∧
      (sum = 0 → 2 ≤ s.link.requests.length →
        exec (.frameReceived t last) s = .next ((s.advance t).setLink { k with requestsLost := true })) ∧
      (sum ≠ 0 → exec (.frameReceived t last) s = .next ((s.advance t).setLink k)) ∧
      exec (.incomingByte t last) s = exec (.frameReceived t last) s

/-- A frame has been sent: after a response its request leaves the buffer with it; the transmitter then begins the oldest notice, or idles, and a request decoded first keeps it idle for its response (R152, R159, R160; log 7). -/
def Obligations.SentFrameFreesTheTransmitter : Prop :=
  ∀ (t : Nat) (first : Bool) (s : State),
    let k := s.link
    (∀ f r rest, k.transmitter = .response f → k.requests = r :: rest → (first = false ∨ rest = []) →
      exec (.frameSent t first) s =
        .next
          ((s.advance t).setLink
            { k with
              requests := rest, inHand := none
              transmitter := match k.notices.head? with
                | some n => .notice n.frame
                | none => .idle
              notices := k.notices.tail })) ∧
      (∀ f r rest, k.transmitter = .response f → k.requests = r :: rest → first = true → rest ≠ [] →
        exec (.frameSent t first) s =
          .next ((s.advance t).setLink { k with requests := rest, inHand := none, transmitter := .idle })) ∧
      (∀ f g, k.transmitter = .notice f → k.inHand = some g →
        exec (.frameSent t first) s = .next ((s.advance t).setLink { k with transmitter := .response g })) ∧
      (∀ f, k.transmitter = .notice f → k.inHand = none → first = false →
        exec (.frameSent t first) s =
          .next
            ((s.advance t).setLink
              { k with
                transmitter := match k.notices.head? with
                  | some n => .notice n.frame
                  | none => .idle
                notices := k.notices.tail }))

/-- A SET of one entry of T5 in SERVICE makes ROUTE-INVALID active for every invalid route that a class names and cleared for the others: an entry there is ACTIVE or LATCHED in its place, one that was absent joins the end, and each change sends a FAULT notice (R82, R161); that the routes are taken in number order is the model's (log 40). A notice joins the end of a buffer of fewer than 16; at 16 it is discarded with the notices-lost flag; before STARTED none is formed; and an idle transmitter with nothing else to send begins it (R159, R160): shown at the MODE notice of a hold limit that ends in SERVICE (R173). -/
def Obligations.FaultListAndNotices : Prop :=
  (∀ (t : Nat) (cls : Fin 5) (route : RouteNo) (s : State), s.Rested →
      s.Asked 0x31 [5, u8 (num cls), 1, u8 (num route)] → s.mode = .service → s.save = none → s.FaultsKept →
      let named := fun r : RouteNo => ∃ k : Fin 5, (if k = cls then route else s.tables.t5[k.val]) = r
      let bad := fun r : RouteNo => decide ((s.route r).valid = false ∧ named r)
      let old := s.link.faults
      let held := fun r : RouteNo => old.any fun e => e.kind = .routeInvalid ∧ e.inst = num r
      let was := fun r : RouteNo => decide ((⟨.routeInvalid, num r, true⟩ : FaultEntry) ∈ old)
      let changed := (List.finRange 8).filter fun r => bad r ≠ was r
      let notices := changed.map fun r => Notice.fault .routeInvalid (num r) (bad r)
      ∃ u, exec (.set t [5, u8 (num cls), 1, u8 (num route)]) s = .next u ∧
        u.tables = { s.tables with t5 := s.tables.t5.set cls.val route } ∧
        u.link.faults =
          (old.map fun e =>
            if e.kind = .routeInvalid then { e with active := (List.finRange 8).any fun r => num r = e.inst ∧ bad r }
            else e) ++
          (((List.finRange 8).filter fun r => bad r ∧ ¬held r).map fun r =>
            { kind := .routeInvalid, inst := num r, active := true }) ∧
        (s.link.receiver ≠ .silent → s.link.transmitter ≠ .idle → s.link.notices.length + notices.length ≤ 16 →
          u.link.notices = s.link.notices ++ notices ∧ u.link.noticesLost = s.link.noticesLost)) ∧
  (∀ (t e : Nat) (s : State), s.Rested → s.holdTimer = some e → e ≤ max s.now t → s.mode = .service →
      s.dispatcher.gateOpen = false →
      let k := s.link
      let n := Notice.mode .service .released .holdLimit
      ∃ u, exec (.holdLimitExpiry t) s = .next u ∧
        (k.receiver = .silent → u.link = k) ∧
        (k.receiver ≠ .silent → 16 ≤ k.notices.length → u.link = { k with noticesLost := true }) ∧
        (k.receiver ≠ .silent → k.transmitter ≠ .idle → k.notices.length < 16 →
          u.link = { k with notices := k.notices ++ [n] }) ∧
        (k.receiver ≠ .silent → k.transmitter = .idle → k.inHand = none → k.notices = [] →
          u.link = { k with transmitter := .notice (frame 0x89 [2, 2, 4]) }))

/-- ECHO returns its payload, and refuses 198 or 199 bytes with BAD-LENGTH, and IDENT the part's figures (R155); FAULT-READ gives the entries in list order (R162), an unknown kind UNKNOWN-KIND (R153), and STATUS the view of R156, clearing the notices-lost flag, while the part clock stays within its four bytes (beyond them the codes are free values, log 20); nothing else changes. -/
def Obligations.ReadRequestsShowThePart : Prop :=
  (∀ (t : Nat) (s : State), s.Rested →
      (∀ p, p.length ≤ 197 → s.Asked 0x01 p →
        exec (.echo t p) s = .next ((s.advance t).answered 0x01 0 0 p)) ∧
      (∀ p, p.length = 198 ∨ p.length = 199 → s.Asked 0x01 p →
        exec (.echo t p) s = .next ((s.advance t).answered 0x01 3 0 [])) ∧
      (s.Asked 0x02 [] →
        exec (.ident t []) s =
          .next
            ((s.advance t).answered 0x02 0 0
              [0x01, 0xAE, u8 s.fitted, if s.holdStrap then 1 else 0, 8, 32, 12, 0x08, 0x00])) ∧
      (s.Asked 0x08 [] →
        exec (.faultRead t []) s =
          .next
            ((s.advance t).answered 0x08 0 0
              (u8 s.link.faults.length ::
                (s.link.faults.map fun e => [u8 e.kind.code, u8 e.inst, if e.active then 1 else 2]).flatten))) ∧
      (∀ kind p, kind ∉ catalogue → s.Asked kind p →
        exec (.unknownKind t kind p) s = .next ((s.advance t).answered kind 2 0 []))) ∧
  (∀ (t : Nat) (s : State), s.Rested → s.Asked 0x03 [] →
      let clock := max s.now t / 1000
      let wait := (s.dispatcher.fireTimer.getD 0) - clock
      clock < 4294967296 →
      exec (.status t []) s =
        .next
          (((s.advance t).setLink { s.link with noticesLost := false }).answered 0x03 0 0
            [u8 s.mode.code, u8 s.hold.code, if s.dispatcher.gateOpen then 1 else 2, u8 s.supply.code, u8 s.rotation,
              u8 s.ordinaryCount, if s.lossRecord.isSome then 1 else 0, u8 (s.queue.lostTally / 256),
              u8 s.queue.lostTally, u8 s.queue.heldLosses, u8 s.queue.deferred, if s.queue.pressure then 1 else 0,
              if s.dispatcher.urgent then 1 else 0, u8 s.dispatcher.held.length, u8 (wait / 256), u8 wait,
              if s.link.noticesLost then 1 else 0, u8 s.link.faults.length, u8 (clock / 16777216),
              u8 (clock / 65536), u8 (clock / 256), u8 clock]))

/-- The lists give their images, byte by byte as section 9.7 lays them out, and change nothing: up to six records in queue order from the start position, receivers and routes, lines, channels (R59, R157, R158). That an unfitted line shows its number before its zeros is the model's reading (log 19). An entry time beyond four bytes is left out (log 20); of an accepted list longer than four its number and first four entries are shown (log 35). FAULT-CLEAR removes the LATCHED entries but STORE-CORRUPT and answers their number (R163). -/
def Obligations.ListsShowTheirImages : Prop :=
  (∀ (t : Nat) (s : State), s.Rested →
      let s1 := s.advance t
      (∀ b : Byte, s.Asked 0x04 [b] → b ≠ 0 →
        let page := ((inRank s).drop (b.toNat - 1)).take 6
        (∀ r ∈ page, r.enteredAt < 4294967296) →
        exec (.queueList t [b]) s =
          .next
            (s1.answered 0x04 0 0
              ([u8 s.queue.records.length, b, u8 page.length] ++ (page.map (recordBytes s)).flatten))) ∧
      (s.Asked 0x04 [0] → exec (.queueList t [0]) s = .next (s1.answered 0x04 4 0 [])) ∧
      (s.Asked 0x05 [] →
        exec (.receiverList t []) s =
          .next
            (s1.answered 0x05 0 0
              (((List.finRange 12).map (receiverBytes s1)).flatten ++ ((List.finRange 8).map (routeBytes s)).flatten))) ∧
      (s.Asked 0x06 [] →
        ∃ image : LineNo → List Byte, (∀ l, IsLineBytes s l (image l)) ∧
          exec (.lineList t []) s = .next (s1.answered 0x06 0 0 ((List.finRange 4).map image).flatten)) ∧
      (s.Asked 0x07 [] →
        exec (.channelList t []) s =
          .next (s1.answered 0x07 0 0 ((List.finRange 8).map (channelBytes s)).flatten))) ∧
  (∀ (t : Nat) (s : State), s.Rested →
      (s.Asked 0x09 [] →
        let stays := fun e : FaultEntry => e.active || e.kind == .storeCorrupt
        let kept := s.link.faults.filter stays
        exec (.faultClear t []) s =
          .next
            (((s.advance t).setLink { s.link with faults := kept }).answered 0x09 0 0
              [u8 (s.link.faults.length - kept.length)])))

/-- A request whose payload has not the length of its kind is refused BAD-LENGTH and changes nothing; RAISE and TEST-CALL carry ticket 0 with it (R153). -/
def Obligations.WrongLengthsAreRefused : Prop :=
  ∀ (t : Nat) (p : List Byte) (s : State),
    let bad := fun (kind : Byte) (fields : List Byte) =>
      Host.Outcome.next (φ := Fault) (ρ := Refusal) ((s.advance t).answered kind 3 0 fields)
    (p ≠ [] →
      (s.Asked 0x02 p → exec (.ident t p) s = bad 0x02 []) ∧ (s.Asked 0x03 p → exec (.status t p) s = bad 0x03 []) ∧
      (s.Asked 0x05 p → exec (.receiverList t p) s = bad 0x05 []) ∧
      (s.Asked 0x06 p → exec (.lineList t p) s = bad 0x06 []) ∧
      (s.Asked 0x07 p → exec (.channelList t p) s = bad 0x07 []) ∧
      (s.Asked 0x08 p → exec (.faultRead t p) s = bad 0x08 []) ∧
      (s.Asked 0x09 p → exec (.faultClear t p) s = bad 0x09 []) ∧
      (s.Asked 0x21 p → exec (.forceCancelAll t p) s = bad 0x21 []) ∧
      (s.Asked 0x32 p → exec (.save t p) s = bad 0x32 []) ∧
      (s.Asked 0x34 p → exec (.release t p) s = bad 0x34 [])) ∧
    (p.length ≠ 1 →
      (s.Asked 0x04 p → exec (.queueList t p) s = bad 0x04 []) ∧ (s.Asked 0x18 p → exec (.lend t p) s = bad 0x18 []) ∧
      (s.Asked 0x19 p → exec (.reclaim t p) s = bad 0x19 []) ∧
      (s.Asked 0x22 p → exec (.isolate t p) s = bad 0x22 []) ∧
      (s.Asked 0x23 p → exec (.deIsolate t p) s = bad 0x23 []) ∧
      (s.Asked 0x24 p → exec (.unlatch t p) s = bad 0x24 []) ∧
      (s.Asked 0x28 p → exec (.abortCall t p) s = bad 0x28 []) ∧
      (s.Asked 0x33 p → exec (.mode t p) s = bad 0x33 [])) ∧
    (p.length ≠ 2 → (s.Asked 0x11 p → exec (.withdraw t p) s = bad 0x11 []) ∧
      (s.Asked 0x12 p → exec (.testCall t p) s = bad 0x12 [0, 0])) ∧
    (p.length ≠ 3 → s.Asked 0x30 p → exec (.get t p) s = bad 0x30 []) ∧
    (p.length < 3 ∨ (∃ table first count rest, p = table :: first :: count :: rest ∧ 1 ≤ table.toNat ∧ table.toNat ≤ 6 ∧
        rest.length ≠ count.toNat * entrySize table.toNat) →
      s.Asked 0x31 p → exec (.set t p) s = bad 0x31 []) ∧
    (p.length ≠ 8 → (s.Asked 0x10 p → exec (.raise t p) s = bad 0x10 [0, 0]) ∧
      (s.Asked 0x20 p → exec (.force t p) s = bad 0x20 []))

/-! ### Settings, modes and the hold (`10`) -/

/-- GET of a table 1..6, a count 1..the most per frame and entries within the table's size gives table, first entry and count and then the images of that many entries, laid out as section 9.7 gives them, zeros for a T2 entry beyond the fitted count, in every mode and hold and while a SAVE is writing; any other GET is RANGE (R166, section 9.7). -/
def Obligations.GetGivesImages : Prop :=
  ∀ (t : Nat) (table first count : Byte) (s : State), s.Rested → s.Asked 0x30 [table, first, count] →
    let most := [0, 1, 4, 6, 8, 5, 8].getD table.toNat 0
    let size := [0, 1, 4, 12, 8, 5, 8].getD table.toNat 0
    let there := (1 ≤ table.toNat ∧ table.toNat ≤ 6) ∧ (1 ≤ count.toNat ∧ count.toNat ≤ most) ∧ 1 ≤ first.toNat ∧
      first.toNat + count.toNat - 1 ≤ size
    (¬there → exec (.get t [table, first, count]) s = .next ((s.advance t).answered 0x30 4 0 [])) ∧
    (there →
      exec (.get t [table, first, count]) s =
        .next
          ((s.advance t).answered 0x30 0 0
            ([table, first, count] ++
              ((List.range count.toNat).map fun i =>
                if table = 2 ∧ s.fitted ≤ first.toNat - 1 + i then List.replicate 7 0
                else (tableBytes s.tables table.toNat).getD (first.toNat - 1 + i) []).flatten)))

/-- A table entry within its range survives its image, laid out as section 9.7 gives it: a SET or the loader decodes that entry from it, with nothing clamped. Numbers outside their ranges come out clamped: those of T1, the attempt limit of T3, and those of T6, whose debounce is then rounded down to a multiple of 20 ms. An image of a table's length does not decode exactly if a coded setting is outside its codes: a flag above 1, a length above its most (or an account below 4), a symbol above 13 or a digit above 9 among those that the length takes in, an entry reference above 12, a mode other than ANY and EACH, a route outside 1..8, a class rank outside 1..5 (R165, section 9.7). -/
def Obligations.ImagesDecodeToTheirEntries : Prop :=
  let within := fun lo hi n : Nat => max lo (min hi n)
  (∀ e : T1, e.InRange → T1.decode (t1Bytes e) = some (e, false)) ∧
    (∀ e : T2, e.InRange → T2.decode (t2Bytes e) = some (e, false)) ∧
    (∀ e : T3, e.InRange → T3.decode (t3Bytes e) = some (e, false)) ∧
    (∀ e : T4, e.InRange → T4.decode (t4Bytes e) = some (e, false)) ∧
    (∀ r : RouteNo, T5.decode [u8 (num r)] = some (r, false)) ∧
    (∀ e : T6, e.InRange → T6.decode (t6Bytes e) = some (e, false)) ∧
    (∀ e : T1, e.callLimit < 65536 → e.retryBase < 256 → e.retryCap < 65536 → e.rest < 65536 →
      e.urgencyAge < 256 → e.highMark < 256 → e.lowMark < 256 → e.testInterval < 256 → e.holdLimit < 65536 →
      e.lendGrace < 65536 → e.lendIdle < 65536 →
      let high := within 4 32 e.highMark
      let set : T1 :=
        { callLimit := within 60 600 e.callLimit, retryBase := within 2 60 e.retryBase,
          retryCap := within 30 900 e.retryCap, rest := within 60 3600 e.rest, urgencyAge := within 4 60 e.urgencyAge,
          highMark := high, lowMark := within 0 (high - 1) e.lowMark, testInterval := within 0 168 e.testInterval,
          holdLimit := within 0 600 e.holdLimit, lendGrace := within 0 300 e.lendGrace,
          lendIdle := within 0 3600 e.lendIdle, holdFlag := e.holdFlag }
      T1.decode (t1Bytes e) = some (set, decide (set ≠ e))) ∧
    (∀ (e : T3) (n : Nat), e.InRange → n < 256 →
      let set := { e with attemptLimit := within 1 15 n }
      T3.decode (t3Bytes { e with attemptLimit := n }) = some (set, decide (set.attemptLimit ≠ n))) ∧
    (∀ e : T6, e.sourceNumber < 65536 → e.event < 65536 → e.zone < 65536 → e.debounce < 65536 → e.openCode < 65536 →
      e.shortCode < 65536 →
      let set : T6 :=
        { e with
          sourceNumber := within 0 999 e.sourceNumber, event := within 0 999 e.event, zone := within 0 999 e.zone,
          debounce := within 20 2000 e.debounce / 20 * 20, openCode := within 0 999 e.openCode,
          shortCode := within 0 999 e.shortCode }
      T6.decode (t6Bytes e) = some (set, decide (set ≠ e))) ∧
    ∀ image : List Byte,
      let code := numberAt image
      (image.length = 18 → (T1.decode image = none ↔ 1 < code 17)) ∧
      (image.length = 7 →
        (T2.decode image = none ↔ 1 < code 0 ∨ 1 < code 1 ∨ 4 < code 2 ∨ ∃ i, i < code 2 ∧ 13 < code (3 + i))) ∧
      (image.length = 32 →
        (T3.decode image = none ↔
          20 < code 0 ∨ (∃ i, i < code 0 ∧ 13 < code (1 + i)) ∨ code 21 < 4 ∨ 8 < code 21 ∨
            (∃ i, i < code 21 ∧ 9 < code (22 + i)) ∨ 12 < code 31)) ∧
      (image.length = 2 → (T4.decode image = none ↔ 12 < code 0 ∨ code 1 < 1 ∨ 2 < code 1)) ∧
      (image.length = 1 → (T5.decode image = none ↔ code 0 < 1 ∨ 8 < code 0)) ∧
      (image.length = 15 → (T6.decode image = none ↔ code 4 < 1 ∨ 5 < code 4 ∨ 1 < code 7 ∨ 1 < code 8))

/-- What a SAVE writes, the loader reads back: a store that holds the directory and the six sections of tables within their ranges gives those tables and reports nothing (R168, R169, R170). Of any store whose directory's check holds, LOADER_DONE loads each section on its own: the count of the directory, at most the table's size, of entries decoded from the base offset on; the entries beyond keep their defaults, and so does the whole table of a section that is bad, for which STORE-SECTION is active. A section is bad if its bytes pass byte 2047, their sum with the section's check is not 0, or an entry does not decode (R170); with a count of 0 it loads nothing and is not bad. -/
def Obligations.SavedTablesLoadBack : Prop :=
  (∀ (tables : Tables) (s : State), tables.InRange →
      (∀ part ∈ arrangement tables, ∀ i, i < part.2.length → storeRead s.store (part.1 + i) = part.2.getD i 0) →
      s.loadTables = s.setTables tables) ∧
  ∀ (t fitted free : Nat) (strap mains : Bool) (tone : LineNo → PerBand Bool) (store : List Host.Cell)
    (pending : List Instr), 1 ≤ fitted → fitted ≤ 4 → ((List.range 25).map (storeRead store)).sum = 0 →
    let s := State.afterReset fitted strap mains tone store pending free
    ∃ u, exec (.loaderDone t) s = .next u ∧
      (∀ k, 1 ≤ k → k ≤ 6 → (⟨.storeSection, k, true⟩ ∈ u.link.faults ↔ SectionIsBad store k)) ∧
      EntryLoads store 1 0 T1.decode u.t1 s.t1 ∧
      (∀ l : LineNo, EntryLoads store 2 l.val T2.decode (u.t2 l) (s.t2 l)) ∧
      (∀ e : RxNo, EntryLoads store 3 e.val T3.decode (u.t3 e) (s.t3 e)) ∧
      (∀ r : RouteNo, EntryLoads store 4 r.val T4.decode (u.t4 r) (s.t4 r)) ∧
      (∀ i : Fin 5, EntryLoads store 5 i.val T5.decode (u.tables.t5[i.val]) (s.tables.t5[i.val])) ∧
      ∀ c : ChannelNo, EntryLoads store 6 c.val T6.decode (u.t6 c) (s.t6 c)

/-- The entry images of a SET, decoded one after another from entry `first` on, write exactly those entries: each holds what its image decodes to, the others and the other tables stay, and an image of a line that is not fitted is checked and not written (R165, R167). They write exactly if each of them decodes, and the answer says clamped exactly if a setting of one of them was. -/
def Obligations.ImagesWriteTheirEntries : Prop :=
  (∀ (table first : Nat) (skip : Nat → Bool) (images : List (List Byte)) (old new : Tables) (clamped : Bool),
      Tables.writeAll table skip first images old = some (new, clamped) →
      let wrote := fun i : Nat => first ≤ i ∧ i < first + images.length ∧ skip i = false
      let image := fun i : Nat => images.getD (i - first) []
      (∀ l : LineNo, if table = 2 ∧ wrote l.val then ∃ f, T2.decode (image l.val) = some (new.t2[l.val], f)
        else new.t2[l.val] = old.t2[l.val]) ∧
      (∀ e : RxNo, if table = 3 ∧ wrote e.val then ∃ f, T3.decode (image e.val) = some (new.t3[e.val], f)
        else new.t3[e.val] = old.t3[e.val]) ∧
      (∀ r : RouteNo, if table = 4 ∧ wrote r.val then ∃ f, T4.decode (image r.val) = some (new.t4[r.val], f)
        else new.t4[r.val] = old.t4[r.val]) ∧
      (∀ c : Fin 5, if table = 5 ∧ wrote c.val then ∃ f, T5.decode (image c.val) = some (new.t5[c.val], f)
        else new.t5[c.val] = old.t5[c.val]) ∧
      (∀ c : ChannelNo, if table = 6 ∧ wrote c.val then ∃ f, T6.decode (image c.val) = some (new.t6[c.val], f)
        else new.t6[c.val] = old.t6[c.val]) ∧
      (table ≠ 1 → new.t1 = old.t1) ∧
      (table = 1 → images.length = 1 → skip first = false → ∃ f, T1.decode (image first) = some (new.t1, f))) ∧
  ∀ (table first : Nat) (skip : Nat → Bool) (images : List (List Byte)) (old : Tables), 1 ≤ table → table ≤ 6 →
    let clamps := clampsOf table
    ((∃ image ∈ images, clamps image = none) → Tables.writeAll table skip first images old = none) ∧
      ((∀ image ∈ images, clamps image ≠ none) →
        ∃ new, Tables.writeAll table skip first images old =
          some (new, decide (∃ image ∈ images, clamps image = some true)))

/-- A SET whose length is right is checked in order: RANGE for table, count or entry, MODE for T3, T4 and T5 in OPERATE, BUSY while a SAVE writes, RANGE for a coded setting outside its codes, CHAIN for a route whose walk would come to a fifth entry or to one met again and did not before (R81). Otherwise the working tables hold the decoded entries, answered OK with CLAMPED if a number was clamped or rounded (R166, R167). -/
def Obligations.SetIsCheckedAndWritten : Prop :=
  (∀ (t : Nat) (table first count : Byte) (images : List Byte) (s : State), s.Rested →
      s.Asked 0x31 (table :: first :: count :: images) →
      images.length = count.toNat * entrySize table.toNat → 1 ≤ table.toNat → table.toNat ≤ 6 →
      let c := Instr.set t (table :: first :: count :: images)
      let refused := fun code : Nat =>
        Host.Outcome.next (φ := Fault) (ρ := Refusal) ((s.advance t).answered 0x31 code 0 [])
      let wrong := rangeOk table.toNat first.toNat count.toNat = false
      let guarded := 3 ≤ table.toNat ∧ table.toNat ≤ 5 ∧ s.mode = .operate
      let unfitted := fun i : Nat => decide (table.toNat = 2 ∧ s.fitted ≤ i)
      let decoded := Tables.writeAll table.toNat unfitted (first.toNat - 1)
        (pieces (entrySize table.toNat) count.toNat images) s.tables
      let breaks := fun new : Tables => (table.toNat = 3 ∨ table.toNat = 4) ∧
        ∃ r : RouteNo, ¬WalkBreaks s.tables.t3 (s.tables.t4[r.val]).head ∧ WalkBreaks new.t3 (new.t4[r.val]).head
      (wrong → exec c s = refused 4) ∧ (¬wrong → guarded → exec c s = refused 5) ∧
        (¬wrong → ¬guarded → s.save ≠ none → exec c s = refused 6) ∧
        (¬wrong → ¬guarded → s.save = none → decoded = none → exec c s = refused 4) ∧
        ∀ new clamped, ¬wrong → ¬guarded → s.save = none → decoded = some (new, clamped) →
          (breaks new → exec c s = refused 11) ∧
          (¬breaks new →
            ∃ u, exec c s = .next u ∧ u.tables = new ∧ Answered s u 0x31 0 (if clamped then 1 else 0) [])) ∧
  ∀ (t : Nat) (table first count : Byte) (images : List Byte) (s : State), s.Rested →
      s.Asked 0x31 (table :: first :: count :: images) → (table.toNat = 0 ∨ 6 < table.toNat) →
      exec (.set t (table :: first :: count :: images)) s = .next ((s.advance t).answered 0x31 4 0 [])

/-- A SET of T1 settles the pressure against changed marks (R73), restarts the periodic test timer (R75) and the FIRE-wait timer (R110), starts the hold limit that was 0 (R173), and has the Dispatcher act if a WAITING record's eligibility changed (R72); a grace that is over already ends a lend. A SET of a line in T2 takes it to SENSE or OFF, or sets or clears its disable pending (R25), and one of a receiver in T3 holds its failures within a changed attempt limit (R92); behind a closed gate. A SET of T3 or T4 evaluates every route, and one of T5 reports ROUTE-INVALID afresh (R82). Other settings stay. The timers are counted in ms (log 21). That a line that goes OFF sends one LINE notice, with NONE, is the model's choice (log 44). -/
def Obligations.SetsActOnTheirOwners : Prop :=
  (∀ (t : Nat) (image : List Byte) (e : T1) (f : Bool) (s : State), s.Rested →
      s.Asked 0x31 (1 :: 1 :: 1 :: image) → image.length = 18 → s.save = none → T1.decode image = some (e, f) →
      let old := s.t1
      let count := s.queue.records.countP fun r =>
        decide (2 < r.report.cls.rank) && (r.state == .waiting || r.state == .stranded)
      let marks := e.highMark ≠ old.highMark ∨ e.lowMark ≠ old.lowMark
      let set : State := { s with tables := { s.tables with t1 := e } }
      ∃ u, exec (.set t (1 :: 1 :: 1 :: image)) s = .next u ∧ u.tables = set.tables ∧
        u.queue =
          { s.queue with
            deferred := if marks then count else s.queue.deferred
            pressure :=
              if marks then (if s.queue.pressure then decide (e.lowMark < count) else decide (e.highMark ≤ count))
              else s.queue.pressure
            testTimer :=
              if e.testInterval ≠ old.testInterval ∧ s.queue.gateOpened = true then
                (if e.testInterval = 0 then none else some (max s.now t + e.testInterval * 3600 * 1000))
              else s.queue.testTimer } ∧
        u.holdTimer =
          (if old.holdLimit = 0 ∧ e.holdLimit ≠ 0 ∧ s.hold = .held ∧ s.holdTimer = none ∧ s.storeCorrupt = false ∧
              ∃ r ∈ s.queue.records, r.report.cls = .fire then
            some (max s.now t + e.holdLimit * 1000)
          else s.holdTimer) ∧
        (e.lendGrace ≠ old.lendGrace →
          u.dispatcher.fireTimer =
            (if e.lendGrace = 0 then none else u.dispatcher.held.head?.map fun x => x.2 + e.lendGrace) ∧
          ∀ x rest line, s.dispatcher.held = x :: rest → e.lendGrace ≠ 0 → x.2 + e.lendGrace ≤ max s.now t / 1000 →
            s.dispatcher.fireTimer ≠ some (x.2 + e.lendGrace) → (s.ctl line).lend = .lent →
            (∀ k : LineNo, k < line → (s.ctl k).lend ≠ .lent) → (u.ctl line).lend = .none) ∧
        ((∃ r ∈ s.queue.records, r.state = .waiting ∧ seizes s r ≠ seizes set r) →
          (u.dispatcher.urgent = true ↔ UrgentHolds u))) ∧
  (∀ (t : Nat) (line : LineNo) (image : List Byte) (e : T2) (f : Bool) (s : State), s.Rested →
      s.Asked 0x31 (2 :: u8 (num line) :: 1 :: image) → image.length = 7 → s.save = none →
      T2.decode image = some (e, f) → line.val < s.fitted → s.dispatcher.gateOpen = false →
      let x := s.ctl line
      let sends := fun u (notice : Notice) => s.link.receiver ≠ .silent → s.link.transmitter ≠ .idle →
        s.link.notices.length < 16 → ∃ more, u.link.notices = s.link.notices ++ notice :: more
      ∃ u : State, exec (.set t (2 :: u8 (num line) :: 1 :: image)) s = .next u ∧
        u.tables = { s.tables with t2 := s.tables.t2.set line.val e } ∧ u.queue = s.queue ∧
        (∀ k, k ≠ line → u.line k = s.line k) ∧ u.call line = s.call line ∧
        (e.enabled = (s.t2 line).enabled → u.line line = s.line line) ∧
        (e.enabled = true → (s.t2 line).enabled = false →
          (x.disablePending = true → u.ctl line = { x with disablePending := false }) ∧
          (x.disablePending = false → x.lend = .none → x.grant = none → s.call line = none → x.classOcc = .unknown →
            u.ctl line =
              { x with
                power := .sense, occupancy := .unknown
                promotion := if s.supply = .normal then .settling (max s.now t + 200) else x.promotion } ∧
            (x.occupancy = .offline → sends u (.line line .unknown x.fault)))) ∧
        (e.enabled = false → (s.t2 line).enabled = true →
          (x.occupancy = .call → u.ctl line = { x with disablePending := true }) ∧
          (x.occupancy ≠ .call →
            u.ctl line =
              { power := .off, promotion := .none, classOcc := .unknown, occupancy := .offline, fault := .none,
                noTone := 0, probeTimer := none, lend := .none, lendIdle := none, grant := none,
                disablePending := false } ∧
            u.sense line = Sense.reset ∧ (u.line line).detector.listening = false ∧ line ∉ u.waitList ∧
            (x.occupancy ≠ .offline → x.lend ≠ .lent → sends u (.line line .offline .none)) ∧
            (s.FaultsKept → ⟨.lineDown, num line, true⟩ ∉ u.link.faults ∧
              ⟨.lineNoTone, num line, true⟩ ∉ u.link.faults)))) ∧
  (∀ (t : Nat) (e : RxNo) (image : List Byte) (n : T3) (f : Bool) (s : State), s.Rested →
      s.Asked 0x31 (3 :: u8 (num e) :: 1 :: image) → image.length = 32 → s.save = none → s.mode = .service →
      T3.decode image = some (n, f) → s.dispatcher.gateOpen = false →
      let t3 := s.tables.t3.set e.val n
      (∀ r : RouteNo, ¬WalkBreaks s.tables.t3 (s.t4 r).head → ¬WalkBreaks t3 (s.t4 r).head) →
      let x := s.rx e
      ∃ u, exec (.set t (3 :: u8 (num e) :: 1 :: image)) s = .next u ∧ u.tables = { s.tables with t3 } ∧
        (∀ k, k ≠ e → u.rx k = s.rx k) ∧
        u.rx e =
          (if n.attemptLimit = (s.t3 e).attemptLimit then x
          else if x.state = .exhausted then { x with failures := n.attemptLimit }
          else if n.attemptLimit ≤ x.failures then { x with failures := n.attemptLimit - 1 }
          else x) ∧
        u.queue = s.queue ∧ (∀ k, u.line k = s.line k) ∧
        (s.tables.InRange → RoutesAreWalked u) ∧ (s.FaultsKept → InvalidRoutesAreReported u)) ∧
  (∀ (t : Nat) (r : RouteNo) (image : List Byte) (n : T4) (f : Bool) (s : State), s.Rested →
      s.Asked 0x31 (4 :: u8 (num r) :: 1 :: image) → image.length = 2 → s.save = none → s.mode = .service →
      T4.decode image = some (n, f) →
      let t4 := s.tables.t4.set r.val n
      (∀ k : RouteNo, ¬WalkBreaks s.tables.t3 (s.t4 k).head → ¬WalkBreaks s.tables.t3 (t4[k.val]).head) →
      ∃ u, exec (.set t (4 :: u8 (num r) :: 1 :: image)) s = .next u ∧ u.tables = { s.tables with t4 } ∧
        u.queue = s.queue ∧ (∀ k, u.line k = s.line k) ∧ (∀ e, u.rx e = s.rx e) ∧
        (s.tables.InRange → RoutesAreWalked u) ∧ (s.FaultsKept → InvalidRoutesAreReported u)) ∧
  ∀ (t : Nat) (i : Fin 5) (image : List Byte) (n : RouteNo) (f : Bool) (s : State), s.Rested →
    s.Asked 0x31 (5 :: u8 (i.val + 1) :: 1 :: image) → image.length = 1 → s.save = none → s.mode = .service →
    T5.decode image = some (n, f) →
    ∃ u, exec (.set t (5 :: u8 (i.val + 1) :: 1 :: image)) s = .next u ∧
      u.tables = { s.tables with t5 := s.tables.t5.set i.val n } ∧ u.queue = s.queue ∧
      (∀ r, u.route r = s.route r) ∧ (s.FaultsKept → InvalidRoutesAreReported u)

/-- SAVE begins at its first page, and is BUSY while another writes. A page is in the store byte for byte where the arrangement has data, no other byte changes, and the next follows until the fortieth; one that reads back otherwise stops the SAVE with STORE-CORRUPT. At the end of a SAVE that has read back equal every STORE-SECTION entry is LATCHED, and STORE-CORRUPT is gone if it began in SERVICE (R161, R168, R169). The store's canonical form is the model's (log 9), and so is that the bits in which a byte reads back otherwise stand in it (log 13). -/
def Obligations.SaveWritesItsPages : Prop :=
  (∀ (t : Nat) (s : State), s.Rested → s.Asked 0x32 [] →
      (s.save = none →
        exec (.save t []) s =
          .next
            (((s.advance t).setSave (some { page := 0, startMode := s.mode, pageEnds := max s.now t + 10 })).answered
              0x32 0 0 [])) ∧
      (s.save ≠ none → exec (.save t []) s = .next ((s.advance t).answered 0x32 6 0 []))) ∧
  (∀ (t : Nat) (differ : List Byte) (w : Save) (s : State), s.Rested → Memory.wf s.store = true → s.save = some w →
      w.page < 40 → w.pageEnds ≤ max s.now t → differ.length ≤ 16 →
      let base := if w.page < 38 then 32 + 16 * w.page else 16 * (w.page - 38)
      ∃ u, exec (.savePageWritten t differ) s = .next u ∧ u.tables = s.tables ∧
        (∀ a, (a < base ∨ base + 16 ≤ a) → storeRead u.store a = storeRead s.store a) ∧
        (∀ part ∈ arrangement s.tables, ∀ i, i < part.2.length → base ≤ part.1 + i → part.1 + i < base + 16 →
          storeRead u.store (part.1 + i) = part.2.getD i 0 ^^^ differ.getD (part.1 + i - base) 0) ∧
        ((∀ x ∈ differ, x = 0) → w.page < 39 →
          u.save = some { w with page := w.page + 1, pageEnds := max s.now t + 10 }) ∧
        ((∀ x ∈ differ, x = 0) → w.page = 39 → u.save = none ∧
          (s.FaultsKept →
            u.link.faults =
              (s.link.faults.filter fun e => ¬(w.startMode = .service ∧ e.kind = .storeCorrupt)).map fun e =>
                if e.kind = .storeSection then { e with active := false } else e)) ∧
        ((∃ x ∈ differ, x ≠ 0) → u.save = none ∧ u.holdTimer = none ∧ u.storeCorrupt = true))

/-- MODE to SERVICE is PROTECTED while a FIRE record is held; otherwise the mode is SERVICE and the gate CLOSED. MODE to OPERATE releases every force and opens the gate unless the part is HELD. The present mode is answered OK with no effect, any other code RANGE (R97, R98, R171, R172). The hold ends by RELEASE, refused PROTECTED while STORE-CORRUPT stands, or at the hold limit: RELEASED, its timer idle, and the gate OPEN in OPERATE (R97, R173). -/
def Obligations.ModeAndHoldChange : Prop :=
  (∀ (t : Nat) (b : Byte) (s : State), s.Rested → s.Asked 0x33 [b] →
      (b ≠ 1 → b ≠ 2 → exec (.mode t [b]) s = .next ((s.advance t).answered 0x33 4 0 [])) ∧
      ((b = 1 ∧ s.mode = .operate) ∨ (b = 2 ∧ s.mode = .service) →
        exec (.mode t [b]) s = .next ((s.advance t).answered 0x33 0 0 [])) ∧
      (b = 2 → s.mode = .operate → (∃ r ∈ s.queue.records, r.report.cls = .fire) →
        exec (.mode t [b]) s = .next ((s.advance t).answered 0x33 8 0 [])) ∧
      (b = 2 → s.mode = .operate → (∀ r ∈ s.queue.records, r.report.cls ≠ .fire) →
        ∃ u, exec (.mode t [b]) s = .next u ∧ Answered s u 0x33 0 0 [] ∧ u.mode = .service ∧
          u.dispatcher.gateOpen = false ∧ u.queue = s.queue ∧ u.channels = s.channels ∧ u.hold = s.hold) ∧
      (b = 1 → s.mode = .service →
        ∃ u, exec (.mode t [b]) s = .next u ∧ Answered s u 0x33 0 0 [] ∧ u.mode = .operate ∧
          (u.dispatcher.gateOpen = true ↔ s.hold = .released) ∧ (∀ c, (u.channel c).force = .none) ∧
          u.readings = s.readings ∧ u.hold = s.hold)) ∧
  ∀ (t : Nat) (s : State), s.Rested →
    (s.Asked 0x34 [] →
      (s.hold = .released → exec (.release t []) s = .next ((s.advance t).answered 0x34 0 0 [])) ∧
      (s.hold = .held → s.storeCorrupt = true → exec (.release t []) s = .next ((s.advance t).answered 0x34 8 0 [])) ∧
      (s.hold = .held → s.storeCorrupt = false →
        ∃ u, exec (.release t []) s = .next u ∧ Answered s u 0x34 0 0 [] ∧ u.hold = .released ∧ u.holdTimer = none ∧
          u.mode = s.mode ∧ (u.dispatcher.gateOpen = true ↔ s.mode = .operate) ∧ u.reports = s.reports)) ∧
    ∀ e, s.holdTimer = some e → e ≤ max s.now t →
      ∃ u, exec (.holdLimitExpiry t) s = .next u ∧ u.hold = .released ∧ u.holdTimer = none ∧ u.mode = s.mode ∧
        (u.dispatcher.gateOpen = true ↔ s.mode = .operate) ∧ u.reports = s.reports
end

