-- ==== Sys2Proof/Laws/State.lean ====
section
/-! SUPPORT. One lemma for each field of the state and each plain update, true by `rfl`; and what a line, a channel and a receiver read as after an update of one. -/

namespace Sys2Proof.Machine

variable (s : State)

/-! ### advance -/

@[simp] theorem State.advance_mainsFail (t : Nat) : (s.advance t).mainsFail = s.mainsFail := rfl
@[simp] theorem State.advance_fitted (t : Nat) : (s.advance t).fitted = s.fitted := rfl
@[simp] theorem State.advance_holdStrap (t : Nat) : (s.advance t).holdStrap = s.holdStrap := rfl
@[simp] theorem State.advance_loading (t : Nat) : (s.advance t).loading = s.loading := rfl
@[simp] theorem State.advance_mode (t : Nat) : (s.advance t).mode = s.mode := rfl
@[simp] theorem State.advance_hold (t : Nat) : (s.advance t).hold = s.hold := rfl
@[simp] theorem State.advance_holdTimer (t : Nat) : (s.advance t).holdTimer = s.holdTimer := rfl
@[simp] theorem State.advance_tables (t : Nat) : (s.advance t).tables = s.tables := rfl
@[simp] theorem State.advance_store (t : Nat) : (s.advance t).store = s.store := rfl
@[simp] theorem State.advance_save (t : Nat) : (s.advance t).save = s.save := rfl
@[simp] theorem State.advance_lines (t : Nat) : (s.advance t).lines = s.lines := rfl
@[simp] theorem State.advance_rotation (t : Nat) : (s.advance t).rotation = s.rotation := rfl
@[simp] theorem State.advance_waitList (t : Nat) : (s.advance t).waitList = s.waitList := rfl
@[simp] theorem State.advance_supply (t : Nat) : (s.advance t).supply = s.supply := rfl
@[simp] theorem State.advance_supplyTimer (t : Nat) : (s.advance t).supplyTimer = s.supplyTimer := rfl
@[simp] theorem State.advance_channels (t : Nat) : (s.advance t).channels = s.channels := rfl
@[simp] theorem State.advance_queue (t : Nat) : (s.advance t).queue = s.queue := rfl
@[simp] theorem State.advance_routes (t : Nat) : (s.advance t).routes = s.routes := rfl
@[simp] theorem State.advance_receivers (t : Nat) : (s.advance t).receivers = s.receivers := rfl
@[simp] theorem State.advance_dispatcher (t : Nat) : (s.advance t).dispatcher = s.dispatcher := rfl
@[simp] theorem State.advance_link (t : Nat) : (s.advance t).link = s.link := rfl
@[simp] theorem State.advance_pending (t : Nat) : (s.advance t).pending = s.pending := rfl
@[simp] theorem State.advance_free (t : Nat) : (s.advance t).free = s.free := rfl
@[simp] theorem State.advance_work (t : Nat) : (s.advance t).work = s.work := rfl

/-! ### setLine -/

@[simp] theorem State.setLine_now (l : LineNo) (x : Line) : (s.setLine l x).now = s.now := rfl
@[simp] theorem State.setLine_mainsFail (l : LineNo) (x : Line) : (s.setLine l x).mainsFail = s.mainsFail := rfl
@[simp] theorem State.setLine_fitted (l : LineNo) (x : Line) : (s.setLine l x).fitted = s.fitted := rfl
@[simp] theorem State.setLine_holdStrap (l : LineNo) (x : Line) : (s.setLine l x).holdStrap = s.holdStrap := rfl
@[simp] theorem State.setLine_loading (l : LineNo) (x : Line) : (s.setLine l x).loading = s.loading := rfl
@[simp] theorem State.setLine_mode (l : LineNo) (x : Line) : (s.setLine l x).mode = s.mode := rfl
@[simp] theorem State.setLine_hold (l : LineNo) (x : Line) : (s.setLine l x).hold = s.hold := rfl
@[simp] theorem State.setLine_holdTimer (l : LineNo) (x : Line) : (s.setLine l x).holdTimer = s.holdTimer := rfl
@[simp] theorem State.setLine_tables (l : LineNo) (x : Line) : (s.setLine l x).tables = s.tables := rfl
@[simp] theorem State.setLine_store (l : LineNo) (x : Line) : (s.setLine l x).store = s.store := rfl
@[simp] theorem State.setLine_save (l : LineNo) (x : Line) : (s.setLine l x).save = s.save := rfl
@[simp] theorem State.setLine_rotation (l : LineNo) (x : Line) : (s.setLine l x).rotation = s.rotation := rfl
@[simp] theorem State.setLine_waitList (l : LineNo) (x : Line) : (s.setLine l x).waitList = s.waitList := rfl
@[simp] theorem State.setLine_supply (l : LineNo) (x : Line) : (s.setLine l x).supply = s.supply := rfl
@[simp] theorem State.setLine_supplyTimer (l : LineNo) (x : Line) : (s.setLine l x).supplyTimer = s.supplyTimer := rfl
@[simp] theorem State.setLine_channels (l : LineNo) (x : Line) : (s.setLine l x).channels = s.channels := rfl
@[simp] theorem State.setLine_queue (l : LineNo) (x : Line) : (s.setLine l x).queue = s.queue := rfl
@[simp] theorem State.setLine_routes (l : LineNo) (x : Line) : (s.setLine l x).routes = s.routes := rfl
@[simp] theorem State.setLine_receivers (l : LineNo) (x : Line) : (s.setLine l x).receivers = s.receivers := rfl
@[simp] theorem State.setLine_dispatcher (l : LineNo) (x : Line) : (s.setLine l x).dispatcher = s.dispatcher := rfl
@[simp] theorem State.setLine_link (l : LineNo) (x : Line) : (s.setLine l x).link = s.link := rfl
@[simp] theorem State.setLine_pending (l : LineNo) (x : Line) : (s.setLine l x).pending = s.pending := rfl
@[simp] theorem State.setLine_free (l : LineNo) (x : Line) : (s.setLine l x).free = s.free := rfl
@[simp] theorem State.setLine_work (l : LineNo) (x : Line) : (s.setLine l x).work = s.work := rfl

/-! ### setCtl -/

@[simp] theorem State.setCtl_now (l : LineNo) (x : LineCtl) : (s.setCtl l x).now = s.now := rfl
@[simp] theorem State.setCtl_mainsFail (l : LineNo) (x : LineCtl) : (s.setCtl l x).mainsFail = s.mainsFail := rfl
@[simp] theorem State.setCtl_fitted (l : LineNo) (x : LineCtl) : (s.setCtl l x).fitted = s.fitted := rfl
@[simp] theorem State.setCtl_holdStrap (l : LineNo) (x : LineCtl) : (s.setCtl l x).holdStrap = s.holdStrap := rfl
@[simp] theorem State.setCtl_loading (l : LineNo) (x : LineCtl) : (s.setCtl l x).loading = s.loading := rfl
@[simp] theorem State.setCtl_mode (l : LineNo) (x : LineCtl) : (s.setCtl l x).mode = s.mode := rfl
@[simp] theorem State.setCtl_hold (l : LineNo) (x : LineCtl) : (s.setCtl l x).hold = s.hold := rfl
@[simp] theorem State.setCtl_holdTimer (l : LineNo) (x : LineCtl) : (s.setCtl l x).holdTimer = s.holdTimer := rfl
@[simp] theorem State.setCtl_tables (l : LineNo) (x : LineCtl) : (s.setCtl l x).tables = s.tables := rfl
@[simp] theorem State.setCtl_store (l : LineNo) (x : LineCtl) : (s.setCtl l x).store = s.store := rfl
@[simp] theorem State.setCtl_save (l : LineNo) (x : LineCtl) : (s.setCtl l x).save = s.save := rfl
@[simp] theorem State.setCtl_rotation (l : LineNo) (x : LineCtl) : (s.setCtl l x).rotation = s.rotation := rfl
@[simp] theorem State.setCtl_waitList (l : LineNo) (x : LineCtl) : (s.setCtl l x).waitList = s.waitList := rfl
@[simp] theorem State.setCtl_supply (l : LineNo) (x : LineCtl) : (s.setCtl l x).supply = s.supply := rfl
@[simp] theorem State.setCtl_supplyTimer (l : LineNo) (x : LineCtl) : (s.setCtl l x).supplyTimer = s.supplyTimer := rfl
@[simp] theorem State.setCtl_channels (l : LineNo) (x : LineCtl) : (s.setCtl l x).channels = s.channels := rfl
@[simp] theorem State.setCtl_queue (l : LineNo) (x : LineCtl) : (s.setCtl l x).queue = s.queue := rfl
@[simp] theorem State.setCtl_routes (l : LineNo) (x : LineCtl) : (s.setCtl l x).routes = s.routes := rfl
@[simp] theorem State.setCtl_receivers (l : LineNo) (x : LineCtl) : (s.setCtl l x).receivers = s.receivers := rfl
@[simp] theorem State.setCtl_dispatcher (l : LineNo) (x : LineCtl) : (s.setCtl l x).dispatcher = s.dispatcher := rfl
@[simp] theorem State.setCtl_link (l : LineNo) (x : LineCtl) : (s.setCtl l x).link = s.link := rfl
@[simp] theorem State.setCtl_pending (l : LineNo) (x : LineCtl) : (s.setCtl l x).pending = s.pending := rfl
@[simp] theorem State.setCtl_free (l : LineNo) (x : LineCtl) : (s.setCtl l x).free = s.free := rfl
@[simp] theorem State.setCtl_work (l : LineNo) (x : LineCtl) : (s.setCtl l x).work = s.work := rfl

/-! ### setSense -/

@[simp] theorem State.setSense_now (l : LineNo) (x : Sense) : (s.setSense l x).now = s.now := rfl
@[simp] theorem State.setSense_mainsFail (l : LineNo) (x : Sense) : (s.setSense l x).mainsFail = s.mainsFail := rfl
@[simp] theorem State.setSense_fitted (l : LineNo) (x : Sense) : (s.setSense l x).fitted = s.fitted := rfl
@[simp] theorem State.setSense_holdStrap (l : LineNo) (x : Sense) : (s.setSense l x).holdStrap = s.holdStrap := rfl
@[simp] theorem State.setSense_loading (l : LineNo) (x : Sense) : (s.setSense l x).loading = s.loading := rfl
@[simp] theorem State.setSense_mode (l : LineNo) (x : Sense) : (s.setSense l x).mode = s.mode := rfl
@[simp] theorem State.setSense_hold (l : LineNo) (x : Sense) : (s.setSense l x).hold = s.hold := rfl
@[simp] theorem State.setSense_holdTimer (l : LineNo) (x : Sense) : (s.setSense l x).holdTimer = s.holdTimer := rfl
@[simp] theorem State.setSense_tables (l : LineNo) (x : Sense) : (s.setSense l x).tables = s.tables := rfl
@[simp] theorem State.setSense_store (l : LineNo) (x : Sense) : (s.setSense l x).store = s.store := rfl
@[simp] theorem State.setSense_save (l : LineNo) (x : Sense) : (s.setSense l x).save = s.save := rfl
@[simp] theorem State.setSense_rotation (l : LineNo) (x : Sense) : (s.setSense l x).rotation = s.rotation := rfl
@[simp] theorem State.setSense_waitList (l : LineNo) (x : Sense) : (s.setSense l x).waitList = s.waitList := rfl
@[simp] theorem State.setSense_supply (l : LineNo) (x : Sense) : (s.setSense l x).supply = s.supply := rfl
@[simp] theorem State.setSense_supplyTimer (l : LineNo) (x : Sense) : (s.setSense l x).supplyTimer = s.supplyTimer := rfl
@[simp] theorem State.setSense_channels (l : LineNo) (x : Sense) : (s.setSense l x).channels = s.channels := rfl
@[simp] theorem State.setSense_queue (l : LineNo) (x : Sense) : (s.setSense l x).queue = s.queue := rfl
@[simp] theorem State.setSense_routes (l : LineNo) (x : Sense) : (s.setSense l x).routes = s.routes := rfl
@[simp] theorem State.setSense_receivers (l : LineNo) (x : Sense) : (s.setSense l x).receivers = s.receivers := rfl
@[simp] theorem State.setSense_dispatcher (l : LineNo) (x : Sense) : (s.setSense l x).dispatcher = s.dispatcher := rfl
@[simp] theorem State.setSense_link (l : LineNo) (x : Sense) : (s.setSense l x).link = s.link := rfl
@[simp] theorem State.setSense_pending (l : LineNo) (x : Sense) : (s.setSense l x).pending = s.pending := rfl
@[simp] theorem State.setSense_free (l : LineNo) (x : Sense) : (s.setSense l x).free = s.free := rfl
@[simp] theorem State.setSense_work (l : LineNo) (x : Sense) : (s.setSense l x).work = s.work := rfl

/-! ### setDetector -/

@[simp] theorem State.setDetector_now (l : LineNo) (x : Detector) : (s.setDetector l x).now = s.now := rfl
@[simp] theorem State.setDetector_mainsFail (l : LineNo) (x : Detector) : (s.setDetector l x).mainsFail = s.mainsFail := rfl
@[simp] theorem State.setDetector_fitted (l : LineNo) (x : Detector) : (s.setDetector l x).fitted = s.fitted := rfl
@[simp] theorem State.setDetector_holdStrap (l : LineNo) (x : Detector) : (s.setDetector l x).holdStrap = s.holdStrap := rfl
@[simp] theorem State.setDetector_loading (l : LineNo) (x : Detector) : (s.setDetector l x).loading = s.loading := rfl
@[simp] theorem State.setDetector_mode (l : LineNo) (x : Detector) : (s.setDetector l x).mode = s.mode := rfl
@[simp] theorem State.setDetector_hold (l : LineNo) (x : Detector) : (s.setDetector l x).hold = s.hold := rfl
@[simp] theorem State.setDetector_holdTimer (l : LineNo) (x : Detector) : (s.setDetector l x).holdTimer = s.holdTimer := rfl
@[simp] theorem State.setDetector_tables (l : LineNo) (x : Detector) : (s.setDetector l x).tables = s.tables := rfl
@[simp] theorem State.setDetector_store (l : LineNo) (x : Detector) : (s.setDetector l x).store = s.store := rfl
@[simp] theorem State.setDetector_save (l : LineNo) (x : Detector) : (s.setDetector l x).save = s.save := rfl
@[simp] theorem State.setDetector_rotation (l : LineNo) (x : Detector) : (s.setDetector l x).rotation = s.rotation := rfl
@[simp] theorem State.setDetector_waitList (l : LineNo) (x : Detector) : (s.setDetector l x).waitList = s.waitList := rfl
@[simp] theorem State.setDetector_supply (l : LineNo) (x : Detector) : (s.setDetector l x).supply = s.supply := rfl
@[simp] theorem State.setDetector_supplyTimer (l : LineNo) (x : Detector) : (s.setDetector l x).supplyTimer = s.supplyTimer := rfl
@[simp] theorem State.setDetector_channels (l : LineNo) (x : Detector) : (s.setDetector l x).channels = s.channels := rfl
@[simp] theorem State.setDetector_queue (l : LineNo) (x : Detector) : (s.setDetector l x).queue = s.queue := rfl
@[simp] theorem State.setDetector_routes (l : LineNo) (x : Detector) : (s.setDetector l x).routes = s.routes := rfl
@[simp] theorem State.setDetector_receivers (l : LineNo) (x : Detector) : (s.setDetector l x).receivers = s.receivers := rfl
@[simp] theorem State.setDetector_dispatcher (l : LineNo) (x : Detector) : (s.setDetector l x).dispatcher = s.dispatcher := rfl
@[simp] theorem State.setDetector_link (l : LineNo) (x : Detector) : (s.setDetector l x).link = s.link := rfl
@[simp] theorem State.setDetector_pending (l : LineNo) (x : Detector) : (s.setDetector l x).pending = s.pending := rfl
@[simp] theorem State.setDetector_free (l : LineNo) (x : Detector) : (s.setDetector l x).free = s.free := rfl
@[simp] theorem State.setDetector_work (l : LineNo) (x : Detector) : (s.setDetector l x).work = s.work := rfl

/-! ### setIface -/

@[simp] theorem State.setIface_now (l : LineNo) (x : Iface) : (s.setIface l x).now = s.now := rfl
@[simp] theorem State.setIface_mainsFail (l : LineNo) (x : Iface) : (s.setIface l x).mainsFail = s.mainsFail := rfl
@[simp] theorem State.setIface_fitted (l : LineNo) (x : Iface) : (s.setIface l x).fitted = s.fitted := rfl
@[simp] theorem State.setIface_holdStrap (l : LineNo) (x : Iface) : (s.setIface l x).holdStrap = s.holdStrap := rfl
@[simp] theorem State.setIface_loading (l : LineNo) (x : Iface) : (s.setIface l x).loading = s.loading := rfl
@[simp] theorem State.setIface_mode (l : LineNo) (x : Iface) : (s.setIface l x).mode = s.mode := rfl
@[simp] theorem State.setIface_hold (l : LineNo) (x : Iface) : (s.setIface l x).hold = s.hold := rfl
@[simp] theorem State.setIface_holdTimer (l : LineNo) (x : Iface) : (s.setIface l x).holdTimer = s.holdTimer := rfl
@[simp] theorem State.setIface_tables (l : LineNo) (x : Iface) : (s.setIface l x).tables = s.tables := rfl
@[simp] theorem State.setIface_store (l : LineNo) (x : Iface) : (s.setIface l x).store = s.store := rfl
@[simp] theorem State.setIface_save (l : LineNo) (x : Iface) : (s.setIface l x).save = s.save := rfl
@[simp] theorem State.setIface_rotation (l : LineNo) (x : Iface) : (s.setIface l x).rotation = s.rotation := rfl
@[simp] theorem State.setIface_waitList (l : LineNo) (x : Iface) : (s.setIface l x).waitList = s.waitList := rfl
@[simp] theorem State.setIface_supply (l : LineNo) (x : Iface) : (s.setIface l x).supply = s.supply := rfl
@[simp] theorem State.setIface_supplyTimer (l : LineNo) (x : Iface) : (s.setIface l x).supplyTimer = s.supplyTimer := rfl
@[simp] theorem State.setIface_channels (l : LineNo) (x : Iface) : (s.setIface l x).channels = s.channels := rfl
@[simp] theorem State.setIface_queue (l : LineNo) (x : Iface) : (s.setIface l x).queue = s.queue := rfl
@[simp] theorem State.setIface_routes (l : LineNo) (x : Iface) : (s.setIface l x).routes = s.routes := rfl
@[simp] theorem State.setIface_receivers (l : LineNo) (x : Iface) : (s.setIface l x).receivers = s.receivers := rfl
@[simp] theorem State.setIface_dispatcher (l : LineNo) (x : Iface) : (s.setIface l x).dispatcher = s.dispatcher := rfl
@[simp] theorem State.setIface_link (l : LineNo) (x : Iface) : (s.setIface l x).link = s.link := rfl
@[simp] theorem State.setIface_pending (l : LineNo) (x : Iface) : (s.setIface l x).pending = s.pending := rfl
@[simp] theorem State.setIface_free (l : LineNo) (x : Iface) : (s.setIface l x).free = s.free := rfl
@[simp] theorem State.setIface_work (l : LineNo) (x : Iface) : (s.setIface l x).work = s.work := rfl

/-! ### setSender -/

@[simp] theorem State.setSender_now (l : LineNo) (x : Option Nat) : (s.setSender l x).now = s.now := rfl
@[simp] theorem State.setSender_mainsFail (l : LineNo) (x : Option Nat) : (s.setSender l x).mainsFail = s.mainsFail := rfl
@[simp] theorem State.setSender_fitted (l : LineNo) (x : Option Nat) : (s.setSender l x).fitted = s.fitted := rfl
@[simp] theorem State.setSender_holdStrap (l : LineNo) (x : Option Nat) : (s.setSender l x).holdStrap = s.holdStrap := rfl
@[simp] theorem State.setSender_loading (l : LineNo) (x : Option Nat) : (s.setSender l x).loading = s.loading := rfl
@[simp] theorem State.setSender_mode (l : LineNo) (x : Option Nat) : (s.setSender l x).mode = s.mode := rfl
@[simp] theorem State.setSender_hold (l : LineNo) (x : Option Nat) : (s.setSender l x).hold = s.hold := rfl
@[simp] theorem State.setSender_holdTimer (l : LineNo) (x : Option Nat) : (s.setSender l x).holdTimer = s.holdTimer := rfl
@[simp] theorem State.setSender_tables (l : LineNo) (x : Option Nat) : (s.setSender l x).tables = s.tables := rfl
@[simp] theorem State.setSender_store (l : LineNo) (x : Option Nat) : (s.setSender l x).store = s.store := rfl
@[simp] theorem State.setSender_save (l : LineNo) (x : Option Nat) : (s.setSender l x).save = s.save := rfl
@[simp] theorem State.setSender_rotation (l : LineNo) (x : Option Nat) : (s.setSender l x).rotation = s.rotation := rfl
@[simp] theorem State.setSender_waitList (l : LineNo) (x : Option Nat) : (s.setSender l x).waitList = s.waitList := rfl
@[simp] theorem State.setSender_supply (l : LineNo) (x : Option Nat) : (s.setSender l x).supply = s.supply := rfl
@[simp] theorem State.setSender_supplyTimer (l : LineNo) (x : Option Nat) : (s.setSender l x).supplyTimer = s.supplyTimer := rfl
@[simp] theorem State.setSender_channels (l : LineNo) (x : Option Nat) : (s.setSender l x).channels = s.channels := rfl
@[simp] theorem State.setSender_queue (l : LineNo) (x : Option Nat) : (s.setSender l x).queue = s.queue := rfl
@[simp] theorem State.setSender_routes (l : LineNo) (x : Option Nat) : (s.setSender l x).routes = s.routes := rfl
@[simp] theorem State.setSender_receivers (l : LineNo) (x : Option Nat) : (s.setSender l x).receivers = s.receivers := rfl
@[simp] theorem State.setSender_dispatcher (l : LineNo) (x : Option Nat) : (s.setSender l x).dispatcher = s.dispatcher := rfl
@[simp] theorem State.setSender_link (l : LineNo) (x : Option Nat) : (s.setSender l x).link = s.link := rfl
@[simp] theorem State.setSender_pending (l : LineNo) (x : Option Nat) : (s.setSender l x).pending = s.pending := rfl
@[simp] theorem State.setSender_free (l : LineNo) (x : Option Nat) : (s.setSender l x).free = s.free := rfl
@[simp] theorem State.setSender_work (l : LineNo) (x : Option Nat) : (s.setSender l x).work = s.work := rfl

/-! ### setCall -/

@[simp] theorem State.setCall_now (l : LineNo) (x : Option Call) : (s.setCall l x).now = s.now := rfl
@[simp] theorem State.setCall_mainsFail (l : LineNo) (x : Option Call) : (s.setCall l x).mainsFail = s.mainsFail := rfl
@[simp] theorem State.setCall_fitted (l : LineNo) (x : Option Call) : (s.setCall l x).fitted = s.fitted := rfl
@[simp] theorem State.setCall_holdStrap (l : LineNo) (x : Option Call) : (s.setCall l x).holdStrap = s.holdStrap := rfl
@[simp] theorem State.setCall_loading (l : LineNo) (x : Option Call) : (s.setCall l x).loading = s.loading := rfl
@[simp] theorem State.setCall_mode (l : LineNo) (x : Option Call) : (s.setCall l x).mode = s.mode := rfl
@[simp] theorem State.setCall_hold (l : LineNo) (x : Option Call) : (s.setCall l x).hold = s.hold := rfl
@[simp] theorem State.setCall_holdTimer (l : LineNo) (x : Option Call) : (s.setCall l x).holdTimer = s.holdTimer := rfl
@[simp] theorem State.setCall_tables (l : LineNo) (x : Option Call) : (s.setCall l x).tables = s.tables := rfl
@[simp] theorem State.setCall_store (l : LineNo) (x : Option Call) : (s.setCall l x).store = s.store := rfl
@[simp] theorem State.setCall_save (l : LineNo) (x : Option Call) : (s.setCall l x).save = s.save := rfl
@[simp] theorem State.setCall_rotation (l : LineNo) (x : Option Call) : (s.setCall l x).rotation = s.rotation := rfl
@[simp] theorem State.setCall_waitList (l : LineNo) (x : Option Call) : (s.setCall l x).waitList = s.waitList := rfl
@[simp] theorem State.setCall_supply (l : LineNo) (x : Option Call) : (s.setCall l x).supply = s.supply := rfl
@[simp] theorem State.setCall_supplyTimer (l : LineNo) (x : Option Call) : (s.setCall l x).supplyTimer = s.supplyTimer := rfl
@[simp] theorem State.setCall_channels (l : LineNo) (x : Option Call) : (s.setCall l x).channels = s.channels := rfl
@[simp] theorem State.setCall_queue (l : LineNo) (x : Option Call) : (s.setCall l x).queue = s.queue := rfl
@[simp] theorem State.setCall_routes (l : LineNo) (x : Option Call) : (s.setCall l x).routes = s.routes := rfl
@[simp] theorem State.setCall_receivers (l : LineNo) (x : Option Call) : (s.setCall l x).receivers = s.receivers := rfl
@[simp] theorem State.setCall_dispatcher (l : LineNo) (x : Option Call) : (s.setCall l x).dispatcher = s.dispatcher := rfl
@[simp] theorem State.setCall_link (l : LineNo) (x : Option Call) : (s.setCall l x).link = s.link := rfl
@[simp] theorem State.setCall_pending (l : LineNo) (x : Option Call) : (s.setCall l x).pending = s.pending := rfl
@[simp] theorem State.setCall_free (l : LineNo) (x : Option Call) : (s.setCall l x).free = s.free := rfl
@[simp] theorem State.setCall_work (l : LineNo) (x : Option Call) : (s.setCall l x).work = s.work := rfl

/-! ### modCall -/

@[simp] theorem State.modCall_now (l : LineNo) (f : Call → Call) : (s.modCall l f).now = s.now := rfl
@[simp] theorem State.modCall_mainsFail (l : LineNo) (f : Call → Call) : (s.modCall l f).mainsFail = s.mainsFail := rfl
@[simp] theorem State.modCall_fitted (l : LineNo) (f : Call → Call) : (s.modCall l f).fitted = s.fitted := rfl
@[simp] theorem State.modCall_holdStrap (l : LineNo) (f : Call → Call) : (s.modCall l f).holdStrap = s.holdStrap := rfl
@[simp] theorem State.modCall_loading (l : LineNo) (f : Call → Call) : (s.modCall l f).loading = s.loading := rfl
@[simp] theorem State.modCall_mode (l : LineNo) (f : Call → Call) : (s.modCall l f).mode = s.mode := rfl
@[simp] theorem State.modCall_hold (l : LineNo) (f : Call → Call) : (s.modCall l f).hold = s.hold := rfl
@[simp] theorem State.modCall_holdTimer (l : LineNo) (f : Call → Call) : (s.modCall l f).holdTimer = s.holdTimer := rfl
@[simp] theorem State.modCall_tables (l : LineNo) (f : Call → Call) : (s.modCall l f).tables = s.tables := rfl
@[simp] theorem State.modCall_store (l : LineNo) (f : Call → Call) : (s.modCall l f).store = s.store := rfl
@[simp] theorem State.modCall_save (l : LineNo) (f : Call → Call) : (s.modCall l f).save = s.save := rfl
@[simp] theorem State.modCall_rotation (l : LineNo) (f : Call → Call) : (s.modCall l f).rotation = s.rotation := rfl
@[simp] theorem State.modCall_waitList (l : LineNo) (f : Call → Call) : (s.modCall l f).waitList = s.waitList := rfl
@[simp] theorem State.modCall_supply (l : LineNo) (f : Call → Call) : (s.modCall l f).supply = s.supply := rfl
@[simp] theorem State.modCall_supplyTimer (l : LineNo) (f : Call → Call) : (s.modCall l f).supplyTimer = s.supplyTimer := rfl
@[simp] theorem State.modCall_channels (l : LineNo) (f : Call → Call) : (s.modCall l f).channels = s.channels := rfl
@[simp] theorem State.modCall_queue (l : LineNo) (f : Call → Call) : (s.modCall l f).queue = s.queue := rfl
@[simp] theorem State.modCall_routes (l : LineNo) (f : Call → Call) : (s.modCall l f).routes = s.routes := rfl
@[simp] theorem State.modCall_receivers (l : LineNo) (f : Call → Call) : (s.modCall l f).receivers = s.receivers := rfl
@[simp] theorem State.modCall_dispatcher (l : LineNo) (f : Call → Call) : (s.modCall l f).dispatcher = s.dispatcher := rfl
@[simp] theorem State.modCall_link (l : LineNo) (f : Call → Call) : (s.modCall l f).link = s.link := rfl
@[simp] theorem State.modCall_pending (l : LineNo) (f : Call → Call) : (s.modCall l f).pending = s.pending := rfl
@[simp] theorem State.modCall_free (l : LineNo) (f : Call → Call) : (s.modCall l f).free = s.free := rfl
@[simp] theorem State.modCall_work (l : LineNo) (f : Call → Call) : (s.modCall l f).work = s.work := rfl

/-! ### enterState -/

@[simp] theorem State.enterState_now (l : LineNo) (c : CallState) (ms : Nat) : (s.enterState l c ms).now = s.now := rfl
@[simp] theorem State.enterState_mainsFail (l : LineNo) (c : CallState) (ms : Nat) : (s.enterState l c ms).mainsFail = s.mainsFail := rfl
@[simp] theorem State.enterState_fitted (l : LineNo) (c : CallState) (ms : Nat) : (s.enterState l c ms).fitted = s.fitted := rfl
@[simp] theorem State.enterState_holdStrap (l : LineNo) (c : CallState) (ms : Nat) : (s.enterState l c ms).holdStrap = s.holdStrap := rfl
@[simp] theorem State.enterState_loading (l : LineNo) (c : CallState) (ms : Nat) : (s.enterState l c ms).loading = s.loading := rfl
@[simp] theorem State.enterState_mode (l : LineNo) (c : CallState) (ms : Nat) : (s.enterState l c ms).mode = s.mode := rfl
@[simp] theorem State.enterState_hold (l : LineNo) (c : CallState) (ms : Nat) : (s.enterState l c ms).hold = s.hold := rfl
@[simp] theorem State.enterState_holdTimer (l : LineNo) (c : CallState) (ms : Nat) : (s.enterState l c ms).holdTimer = s.holdTimer := rfl
@[simp] theorem State.enterState_tables (l : LineNo) (c : CallState) (ms : Nat) : (s.enterState l c ms).tables = s.tables := rfl
@[simp] theorem State.enterState_store (l : LineNo) (c : CallState) (ms : Nat) : (s.enterState l c ms).store = s.store := rfl
@[simp] theorem State.enterState_save (l : LineNo) (c : CallState) (ms : Nat) : (s.enterState l c ms).save = s.save := rfl
@[simp] theorem State.enterState_rotation (l : LineNo) (c : CallState) (ms : Nat) : (s.enterState l c ms).rotation = s.rotation := rfl
@[simp] theorem State.enterState_waitList (l : LineNo) (c : CallState) (ms : Nat) : (s.enterState l c ms).waitList = s.waitList := rfl
@[simp] theorem State.enterState_supply (l : LineNo) (c : CallState) (ms : Nat) : (s.enterState l c ms).supply = s.supply := rfl
@[simp] theorem State.enterState_supplyTimer (l : LineNo) (c : CallState) (ms : Nat) : (s.enterState l c ms).supplyTimer = s.supplyTimer := rfl
@[simp] theorem State.enterState_channels (l : LineNo) (c : CallState) (ms : Nat) : (s.enterState l c ms).channels = s.channels := rfl
@[simp] theorem State.enterState_queue (l : LineNo) (c : CallState) (ms : Nat) : (s.enterState l c ms).queue = s.queue := rfl
@[simp] theorem State.enterState_routes (l : LineNo) (c : CallState) (ms : Nat) : (s.enterState l c ms).routes = s.routes := rfl
@[simp] theorem State.enterState_receivers (l : LineNo) (c : CallState) (ms : Nat) : (s.enterState l c ms).receivers = s.receivers := rfl
@[simp] theorem State.enterState_dispatcher (l : LineNo) (c : CallState) (ms : Nat) : (s.enterState l c ms).dispatcher = s.dispatcher := rfl
@[simp] theorem State.enterState_link (l : LineNo) (c : CallState) (ms : Nat) : (s.enterState l c ms).link = s.link := rfl
@[simp] theorem State.enterState_pending (l : LineNo) (c : CallState) (ms : Nat) : (s.enterState l c ms).pending = s.pending := rfl
@[simp] theorem State.enterState_free (l : LineNo) (c : CallState) (ms : Nat) : (s.enterState l c ms).free = s.free := rfl
@[simp] theorem State.enterState_work (l : LineNo) (c : CallState) (ms : Nat) : (s.enterState l c ms).work = s.work := rfl

/-! ### setSlots -/

@[simp] theorem State.setSlots_now (l : LineNo) (x y : Slot) : (s.setSlots l x y).now = s.now := rfl
@[simp] theorem State.setSlots_mainsFail (l : LineNo) (x y : Slot) : (s.setSlots l x y).mainsFail = s.mainsFail := rfl
@[simp] theorem State.setSlots_fitted (l : LineNo) (x y : Slot) : (s.setSlots l x y).fitted = s.fitted := rfl
@[simp] theorem State.setSlots_holdStrap (l : LineNo) (x y : Slot) : (s.setSlots l x y).holdStrap = s.holdStrap := rfl
@[simp] theorem State.setSlots_loading (l : LineNo) (x y : Slot) : (s.setSlots l x y).loading = s.loading := rfl
@[simp] theorem State.setSlots_mode (l : LineNo) (x y : Slot) : (s.setSlots l x y).mode = s.mode := rfl
@[simp] theorem State.setSlots_hold (l : LineNo) (x y : Slot) : (s.setSlots l x y).hold = s.hold := rfl
@[simp] theorem State.setSlots_holdTimer (l : LineNo) (x y : Slot) : (s.setSlots l x y).holdTimer = s.holdTimer := rfl
@[simp] theorem State.setSlots_tables (l : LineNo) (x y : Slot) : (s.setSlots l x y).tables = s.tables := rfl
@[simp] theorem State.setSlots_store (l : LineNo) (x y : Slot) : (s.setSlots l x y).store = s.store := rfl
@[simp] theorem State.setSlots_save (l : LineNo) (x y : Slot) : (s.setSlots l x y).save = s.save := rfl
@[simp] theorem State.setSlots_rotation (l : LineNo) (x y : Slot) : (s.setSlots l x y).rotation = s.rotation := rfl
@[simp] theorem State.setSlots_waitList (l : LineNo) (x y : Slot) : (s.setSlots l x y).waitList = s.waitList := rfl
@[simp] theorem State.setSlots_supply (l : LineNo) (x y : Slot) : (s.setSlots l x y).supply = s.supply := rfl
@[simp] theorem State.setSlots_supplyTimer (l : LineNo) (x y : Slot) : (s.setSlots l x y).supplyTimer = s.supplyTimer := rfl
@[simp] theorem State.setSlots_channels (l : LineNo) (x y : Slot) : (s.setSlots l x y).channels = s.channels := rfl
@[simp] theorem State.setSlots_queue (l : LineNo) (x y : Slot) : (s.setSlots l x y).queue = s.queue := rfl
@[simp] theorem State.setSlots_routes (l : LineNo) (x y : Slot) : (s.setSlots l x y).routes = s.routes := rfl
@[simp] theorem State.setSlots_receivers (l : LineNo) (x y : Slot) : (s.setSlots l x y).receivers = s.receivers := rfl
@[simp] theorem State.setSlots_dispatcher (l : LineNo) (x y : Slot) : (s.setSlots l x y).dispatcher = s.dispatcher := rfl
@[simp] theorem State.setSlots_link (l : LineNo) (x y : Slot) : (s.setSlots l x y).link = s.link := rfl
@[simp] theorem State.setSlots_pending (l : LineNo) (x y : Slot) : (s.setSlots l x y).pending = s.pending := rfl
@[simp] theorem State.setSlots_free (l : LineNo) (x y : Slot) : (s.setSlots l x y).free = s.free := rfl
@[simp] theorem State.setSlots_work (l : LineNo) (x y : Slot) : (s.setSlots l x y).work = s.work := rfl

/-! ### setChannel -/

@[simp] theorem State.setChannel_now (c : ChannelNo) (x : InputChannel) : (s.setChannel c x).now = s.now := rfl
@[simp] theorem State.setChannel_mainsFail (c : ChannelNo) (x : InputChannel) : (s.setChannel c x).mainsFail = s.mainsFail := rfl
@[simp] theorem State.setChannel_fitted (c : ChannelNo) (x : InputChannel) : (s.setChannel c x).fitted = s.fitted := rfl
@[simp] theorem State.setChannel_holdStrap (c : ChannelNo) (x : InputChannel) : (s.setChannel c x).holdStrap = s.holdStrap := rfl
@[simp] theorem State.setChannel_loading (c : ChannelNo) (x : InputChannel) : (s.setChannel c x).loading = s.loading := rfl
@[simp] theorem State.setChannel_mode (c : ChannelNo) (x : InputChannel) : (s.setChannel c x).mode = s.mode := rfl
@[simp] theorem State.setChannel_hold (c : ChannelNo) (x : InputChannel) : (s.setChannel c x).hold = s.hold := rfl
@[simp] theorem State.setChannel_holdTimer (c : ChannelNo) (x : InputChannel) : (s.setChannel c x).holdTimer = s.holdTimer := rfl
@[simp] theorem State.setChannel_tables (c : ChannelNo) (x : InputChannel) : (s.setChannel c x).tables = s.tables := rfl
@[simp] theorem State.setChannel_store (c : ChannelNo) (x : InputChannel) : (s.setChannel c x).store = s.store := rfl
@[simp] theorem State.setChannel_save (c : ChannelNo) (x : InputChannel) : (s.setChannel c x).save = s.save := rfl
@[simp] theorem State.setChannel_lines (c : ChannelNo) (x : InputChannel) : (s.setChannel c x).lines = s.lines := rfl
@[simp] theorem State.setChannel_rotation (c : ChannelNo) (x : InputChannel) : (s.setChannel c x).rotation = s.rotation := rfl
@[simp] theorem State.setChannel_waitList (c : ChannelNo) (x : InputChannel) : (s.setChannel c x).waitList = s.waitList := rfl
@[simp] theorem State.setChannel_supply (c : ChannelNo) (x : InputChannel) : (s.setChannel c x).supply = s.supply := rfl
@[simp] theorem State.setChannel_supplyTimer (c : ChannelNo) (x : InputChannel) : (s.setChannel c x).supplyTimer = s.supplyTimer := rfl
@[simp] theorem State.setChannel_queue (c : ChannelNo) (x : InputChannel) : (s.setChannel c x).queue = s.queue := rfl
@[simp] theorem State.setChannel_routes (c : ChannelNo) (x : InputChannel) : (s.setChannel c x).routes = s.routes := rfl
@[simp] theorem State.setChannel_receivers (c : ChannelNo) (x : InputChannel) : (s.setChannel c x).receivers = s.receivers := rfl
@[simp] theorem State.setChannel_dispatcher (c : ChannelNo) (x : InputChannel) : (s.setChannel c x).dispatcher = s.dispatcher := rfl
@[simp] theorem State.setChannel_link (c : ChannelNo) (x : InputChannel) : (s.setChannel c x).link = s.link := rfl
@[simp] theorem State.setChannel_pending (c : ChannelNo) (x : InputChannel) : (s.setChannel c x).pending = s.pending := rfl
@[simp] theorem State.setChannel_free (c : ChannelNo) (x : InputChannel) : (s.setChannel c x).free = s.free := rfl
@[simp] theorem State.setChannel_work (c : ChannelNo) (x : InputChannel) : (s.setChannel c x).work = s.work := rfl

/-! ### setRx -/

@[simp] theorem State.setRx_now (e : RxNo) (x : RxStatus) : (s.setRx e x).now = s.now := rfl
@[simp] theorem State.setRx_mainsFail (e : RxNo) (x : RxStatus) : (s.setRx e x).mainsFail = s.mainsFail := rfl
@[simp] theorem State.setRx_fitted (e : RxNo) (x : RxStatus) : (s.setRx e x).fitted = s.fitted := rfl
@[simp] theorem State.setRx_holdStrap (e : RxNo) (x : RxStatus) : (s.setRx e x).holdStrap = s.holdStrap := rfl
@[simp] theorem State.setRx_loading (e : RxNo) (x : RxStatus) : (s.setRx e x).loading = s.loading := rfl
@[simp] theorem State.setRx_mode (e : RxNo) (x : RxStatus) : (s.setRx e x).mode = s.mode := rfl
@[simp] theorem State.setRx_hold (e : RxNo) (x : RxStatus) : (s.setRx e x).hold = s.hold := rfl
@[simp] theorem State.setRx_holdTimer (e : RxNo) (x : RxStatus) : (s.setRx e x).holdTimer = s.holdTimer := rfl
@[simp] theorem State.setRx_tables (e : RxNo) (x : RxStatus) : (s.setRx e x).tables = s.tables := rfl
@[simp] theorem State.setRx_store (e : RxNo) (x : RxStatus) : (s.setRx e x).store = s.store := rfl
@[simp] theorem State.setRx_save (e : RxNo) (x : RxStatus) : (s.setRx e x).save = s.save := rfl
@[simp] theorem State.setRx_lines (e : RxNo) (x : RxStatus) : (s.setRx e x).lines = s.lines := rfl
@[simp] theorem State.setRx_rotation (e : RxNo) (x : RxStatus) : (s.setRx e x).rotation = s.rotation := rfl
@[simp] theorem State.setRx_waitList (e : RxNo) (x : RxStatus) : (s.setRx e x).waitList = s.waitList := rfl
@[simp] theorem State.setRx_supply (e : RxNo) (x : RxStatus) : (s.setRx e x).supply = s.supply := rfl
@[simp] theorem State.setRx_supplyTimer (e : RxNo) (x : RxStatus) : (s.setRx e x).supplyTimer = s.supplyTimer := rfl
@[simp] theorem State.setRx_channels (e : RxNo) (x : RxStatus) : (s.setRx e x).channels = s.channels := rfl
@[simp] theorem State.setRx_queue (e : RxNo) (x : RxStatus) : (s.setRx e x).queue = s.queue := rfl
@[simp] theorem State.setRx_routes (e : RxNo) (x : RxStatus) : (s.setRx e x).routes = s.routes := rfl
@[simp] theorem State.setRx_dispatcher (e : RxNo) (x : RxStatus) : (s.setRx e x).dispatcher = s.dispatcher := rfl
@[simp] theorem State.setRx_link (e : RxNo) (x : RxStatus) : (s.setRx e x).link = s.link := rfl
@[simp] theorem State.setRx_pending (e : RxNo) (x : RxStatus) : (s.setRx e x).pending = s.pending := rfl
@[simp] theorem State.setRx_free (e : RxNo) (x : RxStatus) : (s.setRx e x).free = s.free := rfl
@[simp] theorem State.setRx_work (e : RxNo) (x : RxStatus) : (s.setRx e x).work = s.work := rfl

/-! ### setQueue -/

@[simp] theorem State.setQueue_now (q : Queue) : (s.setQueue q).now = s.now := rfl
@[simp] theorem State.setQueue_mainsFail (q : Queue) : (s.setQueue q).mainsFail = s.mainsFail := rfl
@[simp] theorem State.setQueue_fitted (q : Queue) : (s.setQueue q).fitted = s.fitted := rfl
@[simp] theorem State.setQueue_holdStrap (q : Queue) : (s.setQueue q).holdStrap = s.holdStrap := rfl
@[simp] theorem State.setQueue_loading (q : Queue) : (s.setQueue q).loading = s.loading := rfl
@[simp] theorem State.setQueue_mode (q : Queue) : (s.setQueue q).mode = s.mode := rfl
@[simp] theorem State.setQueue_hold (q : Queue) : (s.setQueue q).hold = s.hold := rfl
@[simp] theorem State.setQueue_holdTimer (q : Queue) : (s.setQueue q).holdTimer = s.holdTimer := rfl
@[simp] theorem State.setQueue_tables (q : Queue) : (s.setQueue q).tables = s.tables := rfl
@[simp] theorem State.setQueue_store (q : Queue) : (s.setQueue q).store = s.store := rfl
@[simp] theorem State.setQueue_save (q : Queue) : (s.setQueue q).save = s.save := rfl
@[simp] theorem State.setQueue_lines (q : Queue) : (s.setQueue q).lines = s.lines := rfl
@[simp] theorem State.setQueue_rotation (q : Queue) : (s.setQueue q).rotation = s.rotation := rfl
@[simp] theorem State.setQueue_waitList (q : Queue) : (s.setQueue q).waitList = s.waitList := rfl
@[simp] theorem State.setQueue_supply (q : Queue) : (s.setQueue q).supply = s.supply := rfl
@[simp] theorem State.setQueue_supplyTimer (q : Queue) : (s.setQueue q).supplyTimer = s.supplyTimer := rfl
@[simp] theorem State.setQueue_channels (q : Queue) : (s.setQueue q).channels = s.channels := rfl
@[simp] theorem State.setQueue_routes (q : Queue) : (s.setQueue q).routes = s.routes := rfl
@[simp] theorem State.setQueue_receivers (q : Queue) : (s.setQueue q).receivers = s.receivers := rfl
@[simp] theorem State.setQueue_dispatcher (q : Queue) : (s.setQueue q).dispatcher = s.dispatcher := rfl
@[simp] theorem State.setQueue_link (q : Queue) : (s.setQueue q).link = s.link := rfl
@[simp] theorem State.setQueue_pending (q : Queue) : (s.setQueue q).pending = s.pending := rfl
@[simp] theorem State.setQueue_free (q : Queue) : (s.setQueue q).free = s.free := rfl
@[simp] theorem State.setQueue_work (q : Queue) : (s.setQueue q).work = s.work := rfl

/-! ### modRecord -/

@[simp] theorem State.modRecord_now (k : Nat) (f : Record → Record) : (s.modRecord k f).now = s.now := rfl
@[simp] theorem State.modRecord_mainsFail (k : Nat) (f : Record → Record) : (s.modRecord k f).mainsFail = s.mainsFail := rfl
@[simp] theorem State.modRecord_fitted (k : Nat) (f : Record → Record) : (s.modRecord k f).fitted = s.fitted := rfl
@[simp] theorem State.modRecord_holdStrap (k : Nat) (f : Record → Record) : (s.modRecord k f).holdStrap = s.holdStrap := rfl
@[simp] theorem State.modRecord_loading (k : Nat) (f : Record → Record) : (s.modRecord k f).loading = s.loading := rfl
@[simp] theorem State.modRecord_mode (k : Nat) (f : Record → Record) : (s.modRecord k f).mode = s.mode := rfl
@[simp] theorem State.modRecord_hold (k : Nat) (f : Record → Record) : (s.modRecord k f).hold = s.hold := rfl
@[simp] theorem State.modRecord_holdTimer (k : Nat) (f : Record → Record) : (s.modRecord k f).holdTimer = s.holdTimer := rfl
@[simp] theorem State.modRecord_tables (k : Nat) (f : Record → Record) : (s.modRecord k f).tables = s.tables := rfl
@[simp] theorem State.modRecord_store (k : Nat) (f : Record → Record) : (s.modRecord k f).store = s.store := rfl
@[simp] theorem State.modRecord_save (k : Nat) (f : Record → Record) : (s.modRecord k f).save = s.save := rfl
@[simp] theorem State.modRecord_lines (k : Nat) (f : Record → Record) : (s.modRecord k f).lines = s.lines := rfl
@[simp] theorem State.modRecord_rotation (k : Nat) (f : Record → Record) : (s.modRecord k f).rotation = s.rotation := rfl
@[simp] theorem State.modRecord_waitList (k : Nat) (f : Record → Record) : (s.modRecord k f).waitList = s.waitList := rfl
@[simp] theorem State.modRecord_supply (k : Nat) (f : Record → Record) : (s.modRecord k f).supply = s.supply := rfl
@[simp] theorem State.modRecord_supplyTimer (k : Nat) (f : Record → Record) : (s.modRecord k f).supplyTimer = s.supplyTimer := rfl
@[simp] theorem State.modRecord_channels (k : Nat) (f : Record → Record) : (s.modRecord k f).channels = s.channels := rfl
@[simp] theorem State.modRecord_routes (k : Nat) (f : Record → Record) : (s.modRecord k f).routes = s.routes := rfl
@[simp] theorem State.modRecord_receivers (k : Nat) (f : Record → Record) : (s.modRecord k f).receivers = s.receivers := rfl
@[simp] theorem State.modRecord_dispatcher (k : Nat) (f : Record → Record) : (s.modRecord k f).dispatcher = s.dispatcher := rfl
@[simp] theorem State.modRecord_link (k : Nat) (f : Record → Record) : (s.modRecord k f).link = s.link := rfl
@[simp] theorem State.modRecord_pending (k : Nat) (f : Record → Record) : (s.modRecord k f).pending = s.pending := rfl
@[simp] theorem State.modRecord_free (k : Nat) (f : Record → Record) : (s.modRecord k f).free = s.free := rfl
@[simp] theorem State.modRecord_work (k : Nat) (f : Record → Record) : (s.modRecord k f).work = s.work := rfl

/-! ### setStates -/

@[simp] theorem State.setStates_now (ks : List Nat) (x : RecordState) : (s.setStates ks x).now = s.now := rfl
@[simp] theorem State.setStates_mainsFail (ks : List Nat) (x : RecordState) : (s.setStates ks x).mainsFail = s.mainsFail := rfl
@[simp] theorem State.setStates_fitted (ks : List Nat) (x : RecordState) : (s.setStates ks x).fitted = s.fitted := rfl
@[simp] theorem State.setStates_holdStrap (ks : List Nat) (x : RecordState) : (s.setStates ks x).holdStrap = s.holdStrap := rfl
@[simp] theorem State.setStates_loading (ks : List Nat) (x : RecordState) : (s.setStates ks x).loading = s.loading := rfl
@[simp] theorem State.setStates_mode (ks : List Nat) (x : RecordState) : (s.setStates ks x).mode = s.mode := rfl
@[simp] theorem State.setStates_hold (ks : List Nat) (x : RecordState) : (s.setStates ks x).hold = s.hold := rfl
@[simp] theorem State.setStates_holdTimer (ks : List Nat) (x : RecordState) : (s.setStates ks x).holdTimer = s.holdTimer := rfl
@[simp] theorem State.setStates_tables (ks : List Nat) (x : RecordState) : (s.setStates ks x).tables = s.tables := rfl
@[simp] theorem State.setStates_store (ks : List Nat) (x : RecordState) : (s.setStates ks x).store = s.store := rfl
@[simp] theorem State.setStates_save (ks : List Nat) (x : RecordState) : (s.setStates ks x).save = s.save := rfl
@[simp] theorem State.setStates_lines (ks : List Nat) (x : RecordState) : (s.setStates ks x).lines = s.lines := rfl
@[simp] theorem State.setStates_rotation (ks : List Nat) (x : RecordState) : (s.setStates ks x).rotation = s.rotation := rfl
@[simp] theorem State.setStates_waitList (ks : List Nat) (x : RecordState) : (s.setStates ks x).waitList = s.waitList := rfl
@[simp] theorem State.setStates_supply (ks : List Nat) (x : RecordState) : (s.setStates ks x).supply = s.supply := rfl
@[simp] theorem State.setStates_supplyTimer (ks : List Nat) (x : RecordState) : (s.setStates ks x).supplyTimer = s.supplyTimer := rfl
@[simp] theorem State.setStates_channels (ks : List Nat) (x : RecordState) : (s.setStates ks x).channels = s.channels := rfl
@[simp] theorem State.setStates_routes (ks : List Nat) (x : RecordState) : (s.setStates ks x).routes = s.routes := rfl
@[simp] theorem State.setStates_receivers (ks : List Nat) (x : RecordState) : (s.setStates ks x).receivers = s.receivers := rfl
@[simp] theorem State.setStates_dispatcher (ks : List Nat) (x : RecordState) : (s.setStates ks x).dispatcher = s.dispatcher := rfl
@[simp] theorem State.setStates_link (ks : List Nat) (x : RecordState) : (s.setStates ks x).link = s.link := rfl
@[simp] theorem State.setStates_pending (ks : List Nat) (x : RecordState) : (s.setStates ks x).pending = s.pending := rfl
@[simp] theorem State.setStates_free (ks : List Nat) (x : RecordState) : (s.setStates ks x).free = s.free := rfl
@[simp] theorem State.setStates_work (ks : List Nat) (x : RecordState) : (s.setStates ks x).work = s.work := rfl

/-! ### setFaults -/

@[simp] theorem State.setFaults_now (fs : List FaultEntry) : (s.setFaults fs).now = s.now := rfl
@[simp] theorem State.setFaults_mainsFail (fs : List FaultEntry) : (s.setFaults fs).mainsFail = s.mainsFail := rfl
@[simp] theorem State.setFaults_fitted (fs : List FaultEntry) : (s.setFaults fs).fitted = s.fitted := rfl
@[simp] theorem State.setFaults_holdStrap (fs : List FaultEntry) : (s.setFaults fs).holdStrap = s.holdStrap := rfl
@[simp] theorem State.setFaults_loading (fs : List FaultEntry) : (s.setFaults fs).loading = s.loading := rfl
@[simp] theorem State.setFaults_mode (fs : List FaultEntry) : (s.setFaults fs).mode = s.mode := rfl
@[simp] theorem State.setFaults_hold (fs : List FaultEntry) : (s.setFaults fs).hold = s.hold := rfl
@[simp] theorem State.setFaults_holdTimer (fs : List FaultEntry) : (s.setFaults fs).holdTimer = s.holdTimer := rfl
@[simp] theorem State.setFaults_tables (fs : List FaultEntry) : (s.setFaults fs).tables = s.tables := rfl
@[simp] theorem State.setFaults_store (fs : List FaultEntry) : (s.setFaults fs).store = s.store := rfl
@[simp] theorem State.setFaults_save (fs : List FaultEntry) : (s.setFaults fs).save = s.save := rfl
@[simp] theorem State.setFaults_lines (fs : List FaultEntry) : (s.setFaults fs).lines = s.lines := rfl
@[simp] theorem State.setFaults_rotation (fs : List FaultEntry) : (s.setFaults fs).rotation = s.rotation := rfl
@[simp] theorem State.setFaults_waitList (fs : List FaultEntry) : (s.setFaults fs).waitList = s.waitList := rfl
@[simp] theorem State.setFaults_supply (fs : List FaultEntry) : (s.setFaults fs).supply = s.supply := rfl
@[simp] theorem State.setFaults_supplyTimer (fs : List FaultEntry) : (s.setFaults fs).supplyTimer = s.supplyTimer := rfl
@[simp] theorem State.setFaults_channels (fs : List FaultEntry) : (s.setFaults fs).channels = s.channels := rfl
@[simp] theorem State.setFaults_queue (fs : List FaultEntry) : (s.setFaults fs).queue = s.queue := rfl
@[simp] theorem State.setFaults_routes (fs : List FaultEntry) : (s.setFaults fs).routes = s.routes := rfl
@[simp] theorem State.setFaults_receivers (fs : List FaultEntry) : (s.setFaults fs).receivers = s.receivers := rfl
@[simp] theorem State.setFaults_dispatcher (fs : List FaultEntry) : (s.setFaults fs).dispatcher = s.dispatcher := rfl
@[simp] theorem State.setFaults_pending (fs : List FaultEntry) : (s.setFaults fs).pending = s.pending := rfl
@[simp] theorem State.setFaults_free (fs : List FaultEntry) : (s.setFaults fs).free = s.free := rfl
@[simp] theorem State.setFaults_work (fs : List FaultEntry) : (s.setFaults fs).work = s.work := rfl

/-! ### setDispatcher -/

@[simp] theorem State.setDispatcher_now (d : Dispatcher) : (s.setDispatcher d).now = s.now := rfl
@[simp] theorem State.setDispatcher_mainsFail (d : Dispatcher) : (s.setDispatcher d).mainsFail = s.mainsFail := rfl
@[simp] theorem State.setDispatcher_fitted (d : Dispatcher) : (s.setDispatcher d).fitted = s.fitted := rfl
@[simp] theorem State.setDispatcher_holdStrap (d : Dispatcher) : (s.setDispatcher d).holdStrap = s.holdStrap := rfl
@[simp] theorem State.setDispatcher_loading (d : Dispatcher) : (s.setDispatcher d).loading = s.loading := rfl
@[simp] theorem State.setDispatcher_mode (d : Dispatcher) : (s.setDispatcher d).mode = s.mode := rfl
@[simp] theorem State.setDispatcher_hold (d : Dispatcher) : (s.setDispatcher d).hold = s.hold := rfl
@[simp] theorem State.setDispatcher_holdTimer (d : Dispatcher) : (s.setDispatcher d).holdTimer = s.holdTimer := rfl
@[simp] theorem State.setDispatcher_tables (d : Dispatcher) : (s.setDispatcher d).tables = s.tables := rfl
@[simp] theorem State.setDispatcher_store (d : Dispatcher) : (s.setDispatcher d).store = s.store := rfl
@[simp] theorem State.setDispatcher_save (d : Dispatcher) : (s.setDispatcher d).save = s.save := rfl
@[simp] theorem State.setDispatcher_lines (d : Dispatcher) : (s.setDispatcher d).lines = s.lines := rfl
@[simp] theorem State.setDispatcher_rotation (d : Dispatcher) : (s.setDispatcher d).rotation = s.rotation := rfl
@[simp] theorem State.setDispatcher_waitList (d : Dispatcher) : (s.setDispatcher d).waitList = s.waitList := rfl
@[simp] theorem State.setDispatcher_supply (d : Dispatcher) : (s.setDispatcher d).supply = s.supply := rfl
@[simp] theorem State.setDispatcher_supplyTimer (d : Dispatcher) : (s.setDispatcher d).supplyTimer = s.supplyTimer := rfl
@[simp] theorem State.setDispatcher_channels (d : Dispatcher) : (s.setDispatcher d).channels = s.channels := rfl
@[simp] theorem State.setDispatcher_queue (d : Dispatcher) : (s.setDispatcher d).queue = s.queue := rfl
@[simp] theorem State.setDispatcher_routes (d : Dispatcher) : (s.setDispatcher d).routes = s.routes := rfl
@[simp] theorem State.setDispatcher_receivers (d : Dispatcher) : (s.setDispatcher d).receivers = s.receivers := rfl
@[simp] theorem State.setDispatcher_link (d : Dispatcher) : (s.setDispatcher d).link = s.link := rfl
@[simp] theorem State.setDispatcher_pending (d : Dispatcher) : (s.setDispatcher d).pending = s.pending := rfl
@[simp] theorem State.setDispatcher_free (d : Dispatcher) : (s.setDispatcher d).free = s.free := rfl
@[simp] theorem State.setDispatcher_work (d : Dispatcher) : (s.setDispatcher d).work = s.work := rfl

/-! ### setWaitList -/

@[simp] theorem State.setWaitList_now (ls : List LineNo) : (s.setWaitList ls).now = s.now := rfl
@[simp] theorem State.setWaitList_mainsFail (ls : List LineNo) : (s.setWaitList ls).mainsFail = s.mainsFail := rfl
@[simp] theorem State.setWaitList_fitted (ls : List LineNo) : (s.setWaitList ls).fitted = s.fitted := rfl
@[simp] theorem State.setWaitList_holdStrap (ls : List LineNo) : (s.setWaitList ls).holdStrap = s.holdStrap := rfl
@[simp] theorem State.setWaitList_loading (ls : List LineNo) : (s.setWaitList ls).loading = s.loading := rfl
@[simp] theorem State.setWaitList_mode (ls : List LineNo) : (s.setWaitList ls).mode = s.mode := rfl
@[simp] theorem State.setWaitList_hold (ls : List LineNo) : (s.setWaitList ls).hold = s.hold := rfl
@[simp] theorem State.setWaitList_holdTimer (ls : List LineNo) : (s.setWaitList ls).holdTimer = s.holdTimer := rfl
@[simp] theorem State.setWaitList_tables (ls : List LineNo) : (s.setWaitList ls).tables = s.tables := rfl
@[simp] theorem State.setWaitList_store (ls : List LineNo) : (s.setWaitList ls).store = s.store := rfl
@[simp] theorem State.setWaitList_save (ls : List LineNo) : (s.setWaitList ls).save = s.save := rfl
@[simp] theorem State.setWaitList_lines (ls : List LineNo) : (s.setWaitList ls).lines = s.lines := rfl
@[simp] theorem State.setWaitList_rotation (ls : List LineNo) : (s.setWaitList ls).rotation = s.rotation := rfl
@[simp] theorem State.setWaitList_supply (ls : List LineNo) : (s.setWaitList ls).supply = s.supply := rfl
@[simp] theorem State.setWaitList_supplyTimer (ls : List LineNo) : (s.setWaitList ls).supplyTimer = s.supplyTimer := rfl
@[simp] theorem State.setWaitList_channels (ls : List LineNo) : (s.setWaitList ls).channels = s.channels := rfl
@[simp] theorem State.setWaitList_queue (ls : List LineNo) : (s.setWaitList ls).queue = s.queue := rfl
@[simp] theorem State.setWaitList_routes (ls : List LineNo) : (s.setWaitList ls).routes = s.routes := rfl
@[simp] theorem State.setWaitList_receivers (ls : List LineNo) : (s.setWaitList ls).receivers = s.receivers := rfl
@[simp] theorem State.setWaitList_dispatcher (ls : List LineNo) : (s.setWaitList ls).dispatcher = s.dispatcher := rfl
@[simp] theorem State.setWaitList_link (ls : List LineNo) : (s.setWaitList ls).link = s.link := rfl
@[simp] theorem State.setWaitList_pending (ls : List LineNo) : (s.setWaitList ls).pending = s.pending := rfl
@[simp] theorem State.setWaitList_free (ls : List LineNo) : (s.setWaitList ls).free = s.free := rfl
@[simp] theorem State.setWaitList_work (ls : List LineNo) : (s.setWaitList ls).work = s.work := rfl

/-! ### setRotation -/

@[simp] theorem State.setRotation_now (n : Nat) : (s.setRotation n).now = s.now := rfl
@[simp] theorem State.setRotation_mainsFail (n : Nat) : (s.setRotation n).mainsFail = s.mainsFail := rfl
@[simp] theorem State.setRotation_fitted (n : Nat) : (s.setRotation n).fitted = s.fitted := rfl
@[simp] theorem State.setRotation_holdStrap (n : Nat) : (s.setRotation n).holdStrap = s.holdStrap := rfl
@[simp] theorem State.setRotation_loading (n : Nat) : (s.setRotation n).loading = s.loading := rfl
@[simp] theorem State.setRotation_mode (n : Nat) : (s.setRotation n).mode = s.mode := rfl
@[simp] theorem State.setRotation_hold (n : Nat) : (s.setRotation n).hold = s.hold := rfl
@[simp] theorem State.setRotation_holdTimer (n : Nat) : (s.setRotation n).holdTimer = s.holdTimer := rfl
@[simp] theorem State.setRotation_tables (n : Nat) : (s.setRotation n).tables = s.tables := rfl
@[simp] theorem State.setRotation_store (n : Nat) : (s.setRotation n).store = s.store := rfl
@[simp] theorem State.setRotation_save (n : Nat) : (s.setRotation n).save = s.save := rfl
@[simp] theorem State.setRotation_lines (n : Nat) : (s.setRotation n).lines = s.lines := rfl
@[simp] theorem State.setRotation_waitList (n : Nat) : (s.setRotation n).waitList = s.waitList := rfl
@[simp] theorem State.setRotation_supply (n : Nat) : (s.setRotation n).supply = s.supply := rfl
@[simp] theorem State.setRotation_supplyTimer (n : Nat) : (s.setRotation n).supplyTimer = s.supplyTimer := rfl
@[simp] theorem State.setRotation_channels (n : Nat) : (s.setRotation n).channels = s.channels := rfl
@[simp] theorem State.setRotation_queue (n : Nat) : (s.setRotation n).queue = s.queue := rfl
@[simp] theorem State.setRotation_routes (n : Nat) : (s.setRotation n).routes = s.routes := rfl
@[simp] theorem State.setRotation_receivers (n : Nat) : (s.setRotation n).receivers = s.receivers := rfl
@[simp] theorem State.setRotation_dispatcher (n : Nat) : (s.setRotation n).dispatcher = s.dispatcher := rfl
@[simp] theorem State.setRotation_link (n : Nat) : (s.setRotation n).link = s.link := rfl
@[simp] theorem State.setRotation_pending (n : Nat) : (s.setRotation n).pending = s.pending := rfl
@[simp] theorem State.setRotation_free (n : Nat) : (s.setRotation n).free = s.free := rfl
@[simp] theorem State.setRotation_work (n : Nat) : (s.setRotation n).work = s.work := rfl

/-! ### setWork -/

@[simp] theorem State.setWork_now (w : Work) : (s.setWork w).now = s.now := rfl
@[simp] theorem State.setWork_mainsFail (w : Work) : (s.setWork w).mainsFail = s.mainsFail := rfl
@[simp] theorem State.setWork_fitted (w : Work) : (s.setWork w).fitted = s.fitted := rfl
@[simp] theorem State.setWork_holdStrap (w : Work) : (s.setWork w).holdStrap = s.holdStrap := rfl
@[simp] theorem State.setWork_loading (w : Work) : (s.setWork w).loading = s.loading := rfl
@[simp] theorem State.setWork_mode (w : Work) : (s.setWork w).mode = s.mode := rfl
@[simp] theorem State.setWork_hold (w : Work) : (s.setWork w).hold = s.hold := rfl
@[simp] theorem State.setWork_holdTimer (w : Work) : (s.setWork w).holdTimer = s.holdTimer := rfl
@[simp] theorem State.setWork_tables (w : Work) : (s.setWork w).tables = s.tables := rfl
@[simp] theorem State.setWork_store (w : Work) : (s.setWork w).store = s.store := rfl
@[simp] theorem State.setWork_save (w : Work) : (s.setWork w).save = s.save := rfl
@[simp] theorem State.setWork_lines (w : Work) : (s.setWork w).lines = s.lines := rfl
@[simp] theorem State.setWork_rotation (w : Work) : (s.setWork w).rotation = s.rotation := rfl
@[simp] theorem State.setWork_waitList (w : Work) : (s.setWork w).waitList = s.waitList := rfl
@[simp] theorem State.setWork_supply (w : Work) : (s.setWork w).supply = s.supply := rfl
@[simp] theorem State.setWork_supplyTimer (w : Work) : (s.setWork w).supplyTimer = s.supplyTimer := rfl
@[simp] theorem State.setWork_channels (w : Work) : (s.setWork w).channels = s.channels := rfl
@[simp] theorem State.setWork_queue (w : Work) : (s.setWork w).queue = s.queue := rfl
@[simp] theorem State.setWork_routes (w : Work) : (s.setWork w).routes = s.routes := rfl
@[simp] theorem State.setWork_receivers (w : Work) : (s.setWork w).receivers = s.receivers := rfl
@[simp] theorem State.setWork_dispatcher (w : Work) : (s.setWork w).dispatcher = s.dispatcher := rfl
@[simp] theorem State.setWork_link (w : Work) : (s.setWork w).link = s.link := rfl
@[simp] theorem State.setWork_pending (w : Work) : (s.setWork w).pending = s.pending := rfl
@[simp] theorem State.setWork_free (w : Work) : (s.setWork w).free = s.free := rfl

/-! ### setLink -/

@[simp] theorem State.setLink_now (k : Link) : (s.setLink k).now = s.now := rfl
@[simp] theorem State.setLink_mainsFail (k : Link) : (s.setLink k).mainsFail = s.mainsFail := rfl
@[simp] theorem State.setLink_fitted (k : Link) : (s.setLink k).fitted = s.fitted := rfl
@[simp] theorem State.setLink_holdStrap (k : Link) : (s.setLink k).holdStrap = s.holdStrap := rfl
@[simp] theorem State.setLink_loading (k : Link) : (s.setLink k).loading = s.loading := rfl
@[simp] theorem State.setLink_mode (k : Link) : (s.setLink k).mode = s.mode := rfl
@[simp] theorem State.setLink_hold (k : Link) : (s.setLink k).hold = s.hold := rfl
@[simp] theorem State.setLink_holdTimer (k : Link) : (s.setLink k).holdTimer = s.holdTimer := rfl
@[simp] theorem State.setLink_tables (k : Link) : (s.setLink k).tables = s.tables := rfl
@[simp] theorem State.setLink_store (k : Link) : (s.setLink k).store = s.store := rfl
@[simp] theorem State.setLink_save (k : Link) : (s.setLink k).save = s.save := rfl
@[simp] theorem State.setLink_lines (k : Link) : (s.setLink k).lines = s.lines := rfl
@[simp] theorem State.setLink_rotation (k : Link) : (s.setLink k).rotation = s.rotation := rfl
@[simp] theorem State.setLink_waitList (k : Link) : (s.setLink k).waitList = s.waitList := rfl
@[simp] theorem State.setLink_supply (k : Link) : (s.setLink k).supply = s.supply := rfl
@[simp] theorem State.setLink_supplyTimer (k : Link) : (s.setLink k).supplyTimer = s.supplyTimer := rfl
@[simp] theorem State.setLink_channels (k : Link) : (s.setLink k).channels = s.channels := rfl
@[simp] theorem State.setLink_queue (k : Link) : (s.setLink k).queue = s.queue := rfl
@[simp] theorem State.setLink_routes (k : Link) : (s.setLink k).routes = s.routes := rfl
@[simp] theorem State.setLink_receivers (k : Link) : (s.setLink k).receivers = s.receivers := rfl
@[simp] theorem State.setLink_dispatcher (k : Link) : (s.setLink k).dispatcher = s.dispatcher := rfl
@[simp] theorem State.setLink_pending (k : Link) : (s.setLink k).pending = s.pending := rfl
@[simp] theorem State.setLink_free (k : Link) : (s.setLink k).free = s.free := rfl
@[simp] theorem State.setLink_work (k : Link) : (s.setLink k).work = s.work := rfl

/-! ### setMode -/

@[simp] theorem State.setMode_now (m : Mode) : (s.setMode m).now = s.now := rfl
@[simp] theorem State.setMode_mainsFail (m : Mode) : (s.setMode m).mainsFail = s.mainsFail := rfl
@[simp] theorem State.setMode_fitted (m : Mode) : (s.setMode m).fitted = s.fitted := rfl
@[simp] theorem State.setMode_holdStrap (m : Mode) : (s.setMode m).holdStrap = s.holdStrap := rfl
@[simp] theorem State.setMode_loading (m : Mode) : (s.setMode m).loading = s.loading := rfl
@[simp] theorem State.setMode_hold (m : Mode) : (s.setMode m).hold = s.hold := rfl
@[simp] theorem State.setMode_holdTimer (m : Mode) : (s.setMode m).holdTimer = s.holdTimer := rfl
@[simp] theorem State.setMode_tables (m : Mode) : (s.setMode m).tables = s.tables := rfl
@[simp] theorem State.setMode_store (m : Mode) : (s.setMode m).store = s.store := rfl
@[simp] theorem State.setMode_save (m : Mode) : (s.setMode m).save = s.save := rfl
@[simp] theorem State.setMode_lines (m : Mode) : (s.setMode m).lines = s.lines := rfl
@[simp] theorem State.setMode_rotation (m : Mode) : (s.setMode m).rotation = s.rotation := rfl
@[simp] theorem State.setMode_waitList (m : Mode) : (s.setMode m).waitList = s.waitList := rfl
@[simp] theorem State.setMode_supply (m : Mode) : (s.setMode m).supply = s.supply := rfl
@[simp] theorem State.setMode_supplyTimer (m : Mode) : (s.setMode m).supplyTimer = s.supplyTimer := rfl
@[simp] theorem State.setMode_channels (m : Mode) : (s.setMode m).channels = s.channels := rfl
@[simp] theorem State.setMode_queue (m : Mode) : (s.setMode m).queue = s.queue := rfl
@[simp] theorem State.setMode_routes (m : Mode) : (s.setMode m).routes = s.routes := rfl
@[simp] theorem State.setMode_receivers (m : Mode) : (s.setMode m).receivers = s.receivers := rfl
@[simp] theorem State.setMode_dispatcher (m : Mode) : (s.setMode m).dispatcher = s.dispatcher := rfl
@[simp] theorem State.setMode_link (m : Mode) : (s.setMode m).link = s.link := rfl
@[simp] theorem State.setMode_pending (m : Mode) : (s.setMode m).pending = s.pending := rfl
@[simp] theorem State.setMode_free (m : Mode) : (s.setMode m).free = s.free := rfl
@[simp] theorem State.setMode_work (m : Mode) : (s.setMode m).work = s.work := rfl

/-! ### setHold -/

@[simp] theorem State.setHold_now (h : Hold) : (s.setHold h).now = s.now := rfl
@[simp] theorem State.setHold_mainsFail (h : Hold) : (s.setHold h).mainsFail = s.mainsFail := rfl
@[simp] theorem State.setHold_fitted (h : Hold) : (s.setHold h).fitted = s.fitted := rfl
@[simp] theorem State.setHold_holdStrap (h : Hold) : (s.setHold h).holdStrap = s.holdStrap := rfl
@[simp] theorem State.setHold_loading (h : Hold) : (s.setHold h).loading = s.loading := rfl
@[simp] theorem State.setHold_mode (h : Hold) : (s.setHold h).mode = s.mode := rfl
@[simp] theorem State.setHold_holdTimer (h : Hold) : (s.setHold h).holdTimer = s.holdTimer := rfl
@[simp] theorem State.setHold_tables (h : Hold) : (s.setHold h).tables = s.tables := rfl
@[simp] theorem State.setHold_store (h : Hold) : (s.setHold h).store = s.store := rfl
@[simp] theorem State.setHold_save (h : Hold) : (s.setHold h).save = s.save := rfl
@[simp] theorem State.setHold_lines (h : Hold) : (s.setHold h).lines = s.lines := rfl
@[simp] theorem State.setHold_rotation (h : Hold) : (s.setHold h).rotation = s.rotation := rfl
@[simp] theorem State.setHold_waitList (h : Hold) : (s.setHold h).waitList = s.waitList := rfl
@[simp] theorem State.setHold_supply (h : Hold) : (s.setHold h).supply = s.supply := rfl
@[simp] theorem State.setHold_supplyTimer (h : Hold) : (s.setHold h).supplyTimer = s.supplyTimer := rfl
@[simp] theorem State.setHold_channels (h : Hold) : (s.setHold h).channels = s.channels := rfl
@[simp] theorem State.setHold_queue (h : Hold) : (s.setHold h).queue = s.queue := rfl
@[simp] theorem State.setHold_routes (h : Hold) : (s.setHold h).routes = s.routes := rfl
@[simp] theorem State.setHold_receivers (h : Hold) : (s.setHold h).receivers = s.receivers := rfl
@[simp] theorem State.setHold_dispatcher (h : Hold) : (s.setHold h).dispatcher = s.dispatcher := rfl
@[simp] theorem State.setHold_link (h : Hold) : (s.setHold h).link = s.link := rfl
@[simp] theorem State.setHold_pending (h : Hold) : (s.setHold h).pending = s.pending := rfl
@[simp] theorem State.setHold_free (h : Hold) : (s.setHold h).free = s.free := rfl
@[simp] theorem State.setHold_work (h : Hold) : (s.setHold h).work = s.work := rfl

/-! ### setHoldTimer -/

@[simp] theorem State.setHoldTimer_now (x : Option Nat) : (s.setHoldTimer x).now = s.now := rfl
@[simp] theorem State.setHoldTimer_mainsFail (x : Option Nat) : (s.setHoldTimer x).mainsFail = s.mainsFail := rfl
@[simp] theorem State.setHoldTimer_fitted (x : Option Nat) : (s.setHoldTimer x).fitted = s.fitted := rfl
@[simp] theorem State.setHoldTimer_holdStrap (x : Option Nat) : (s.setHoldTimer x).holdStrap = s.holdStrap := rfl
@[simp] theorem State.setHoldTimer_loading (x : Option Nat) : (s.setHoldTimer x).loading = s.loading := rfl
@[simp] theorem State.setHoldTimer_mode (x : Option Nat) : (s.setHoldTimer x).mode = s.mode := rfl
@[simp] theorem State.setHoldTimer_hold (x : Option Nat) : (s.setHoldTimer x).hold = s.hold := rfl
@[simp] theorem State.setHoldTimer_tables (x : Option Nat) : (s.setHoldTimer x).tables = s.tables := rfl
@[simp] theorem State.setHoldTimer_store (x : Option Nat) : (s.setHoldTimer x).store = s.store := rfl
@[simp] theorem State.setHoldTimer_save (x : Option Nat) : (s.setHoldTimer x).save = s.save := rfl
@[simp] theorem State.setHoldTimer_lines (x : Option Nat) : (s.setHoldTimer x).lines = s.lines := rfl
@[simp] theorem State.setHoldTimer_rotation (x : Option Nat) : (s.setHoldTimer x).rotation = s.rotation := rfl
@[simp] theorem State.setHoldTimer_waitList (x : Option Nat) : (s.setHoldTimer x).waitList = s.waitList := rfl
@[simp] theorem State.setHoldTimer_supply (x : Option Nat) : (s.setHoldTimer x).supply = s.supply := rfl
@[simp] theorem State.setHoldTimer_supplyTimer (x : Option Nat) : (s.setHoldTimer x).supplyTimer = s.supplyTimer := rfl
@[simp] theorem State.setHoldTimer_channels (x : Option Nat) : (s.setHoldTimer x).channels = s.channels := rfl
@[simp] theorem State.setHoldTimer_queue (x : Option Nat) : (s.setHoldTimer x).queue = s.queue := rfl
@[simp] theorem State.setHoldTimer_routes (x : Option Nat) : (s.setHoldTimer x).routes = s.routes := rfl
@[simp] theorem State.setHoldTimer_receivers (x : Option Nat) : (s.setHoldTimer x).receivers = s.receivers := rfl
@[simp] theorem State.setHoldTimer_dispatcher (x : Option Nat) : (s.setHoldTimer x).dispatcher = s.dispatcher := rfl
@[simp] theorem State.setHoldTimer_link (x : Option Nat) : (s.setHoldTimer x).link = s.link := rfl
@[simp] theorem State.setHoldTimer_pending (x : Option Nat) : (s.setHoldTimer x).pending = s.pending := rfl
@[simp] theorem State.setHoldTimer_free (x : Option Nat) : (s.setHoldTimer x).free = s.free := rfl
@[simp] theorem State.setHoldTimer_work (x : Option Nat) : (s.setHoldTimer x).work = s.work := rfl

/-! ### setTables -/

@[simp] theorem State.setTables_now (x : Tables) : (s.setTables x).now = s.now := rfl
@[simp] theorem State.setTables_mainsFail (x : Tables) : (s.setTables x).mainsFail = s.mainsFail := rfl
@[simp] theorem State.setTables_fitted (x : Tables) : (s.setTables x).fitted = s.fitted := rfl
@[simp] theorem State.setTables_holdStrap (x : Tables) : (s.setTables x).holdStrap = s.holdStrap := rfl
@[simp] theorem State.setTables_loading (x : Tables) : (s.setTables x).loading = s.loading := rfl
@[simp] theorem State.setTables_mode (x : Tables) : (s.setTables x).mode = s.mode := rfl
@[simp] theorem State.setTables_hold (x : Tables) : (s.setTables x).hold = s.hold := rfl
@[simp] theorem State.setTables_holdTimer (x : Tables) : (s.setTables x).holdTimer = s.holdTimer := rfl
@[simp] theorem State.setTables_store (x : Tables) : (s.setTables x).store = s.store := rfl
@[simp] theorem State.setTables_save (x : Tables) : (s.setTables x).save = s.save := rfl
@[simp] theorem State.setTables_lines (x : Tables) : (s.setTables x).lines = s.lines := rfl
@[simp] theorem State.setTables_rotation (x : Tables) : (s.setTables x).rotation = s.rotation := rfl
@[simp] theorem State.setTables_waitList (x : Tables) : (s.setTables x).waitList = s.waitList := rfl
@[simp] theorem State.setTables_supply (x : Tables) : (s.setTables x).supply = s.supply := rfl
@[simp] theorem State.setTables_supplyTimer (x : Tables) : (s.setTables x).supplyTimer = s.supplyTimer := rfl
@[simp] theorem State.setTables_channels (x : Tables) : (s.setTables x).channels = s.channels := rfl
@[simp] theorem State.setTables_queue (x : Tables) : (s.setTables x).queue = s.queue := rfl
@[simp] theorem State.setTables_routes (x : Tables) : (s.setTables x).routes = s.routes := rfl
@[simp] theorem State.setTables_receivers (x : Tables) : (s.setTables x).receivers = s.receivers := rfl
@[simp] theorem State.setTables_dispatcher (x : Tables) : (s.setTables x).dispatcher = s.dispatcher := rfl
@[simp] theorem State.setTables_link (x : Tables) : (s.setTables x).link = s.link := rfl
@[simp] theorem State.setTables_pending (x : Tables) : (s.setTables x).pending = s.pending := rfl
@[simp] theorem State.setTables_free (x : Tables) : (s.setTables x).free = s.free := rfl
@[simp] theorem State.setTables_work (x : Tables) : (s.setTables x).work = s.work := rfl

/-! ### setSave -/

@[simp] theorem State.setSave_now (x : Option Save) : (s.setSave x).now = s.now := rfl
@[simp] theorem State.setSave_mainsFail (x : Option Save) : (s.setSave x).mainsFail = s.mainsFail := rfl
@[simp] theorem State.setSave_fitted (x : Option Save) : (s.setSave x).fitted = s.fitted := rfl
@[simp] theorem State.setSave_holdStrap (x : Option Save) : (s.setSave x).holdStrap = s.holdStrap := rfl
@[simp] theorem State.setSave_loading (x : Option Save) : (s.setSave x).loading = s.loading := rfl
@[simp] theorem State.setSave_mode (x : Option Save) : (s.setSave x).mode = s.mode := rfl
@[simp] theorem State.setSave_hold (x : Option Save) : (s.setSave x).hold = s.hold := rfl
@[simp] theorem State.setSave_holdTimer (x : Option Save) : (s.setSave x).holdTimer = s.holdTimer := rfl
@[simp] theorem State.setSave_tables (x : Option Save) : (s.setSave x).tables = s.tables := rfl
@[simp] theorem State.setSave_store (x : Option Save) : (s.setSave x).store = s.store := rfl
@[simp] theorem State.setSave_lines (x : Option Save) : (s.setSave x).lines = s.lines := rfl
@[simp] theorem State.setSave_rotation (x : Option Save) : (s.setSave x).rotation = s.rotation := rfl
@[simp] theorem State.setSave_waitList (x : Option Save) : (s.setSave x).waitList = s.waitList := rfl
@[simp] theorem State.setSave_supply (x : Option Save) : (s.setSave x).supply = s.supply := rfl
@[simp] theorem State.setSave_supplyTimer (x : Option Save) : (s.setSave x).supplyTimer = s.supplyTimer := rfl
@[simp] theorem State.setSave_channels (x : Option Save) : (s.setSave x).channels = s.channels := rfl
@[simp] theorem State.setSave_queue (x : Option Save) : (s.setSave x).queue = s.queue := rfl
@[simp] theorem State.setSave_routes (x : Option Save) : (s.setSave x).routes = s.routes := rfl
@[simp] theorem State.setSave_receivers (x : Option Save) : (s.setSave x).receivers = s.receivers := rfl
@[simp] theorem State.setSave_dispatcher (x : Option Save) : (s.setSave x).dispatcher = s.dispatcher := rfl
@[simp] theorem State.setSave_link (x : Option Save) : (s.setSave x).link = s.link := rfl
@[simp] theorem State.setSave_pending (x : Option Save) : (s.setSave x).pending = s.pending := rfl
@[simp] theorem State.setSave_free (x : Option Save) : (s.setSave x).free = s.free := rfl
@[simp] theorem State.setSave_work (x : Option Save) : (s.setSave x).work = s.work := rfl

/-! ### setRoutes -/

@[simp] theorem State.setRoutes_now (x : Vector RouteEval 8) : (s.setRoutes x).now = s.now := rfl
@[simp] theorem State.setRoutes_mainsFail (x : Vector RouteEval 8) : (s.setRoutes x).mainsFail = s.mainsFail := rfl
@[simp] theorem State.setRoutes_fitted (x : Vector RouteEval 8) : (s.setRoutes x).fitted = s.fitted := rfl
@[simp] theorem State.setRoutes_holdStrap (x : Vector RouteEval 8) : (s.setRoutes x).holdStrap = s.holdStrap := rfl
@[simp] theorem State.setRoutes_loading (x : Vector RouteEval 8) : (s.setRoutes x).loading = s.loading := rfl
@[simp] theorem State.setRoutes_mode (x : Vector RouteEval 8) : (s.setRoutes x).mode = s.mode := rfl
@[simp] theorem State.setRoutes_hold (x : Vector RouteEval 8) : (s.setRoutes x).hold = s.hold := rfl
@[simp] theorem State.setRoutes_holdTimer (x : Vector RouteEval 8) : (s.setRoutes x).holdTimer = s.holdTimer := rfl
@[simp] theorem State.setRoutes_tables (x : Vector RouteEval 8) : (s.setRoutes x).tables = s.tables := rfl
@[simp] theorem State.setRoutes_store (x : Vector RouteEval 8) : (s.setRoutes x).store = s.store := rfl
@[simp] theorem State.setRoutes_save (x : Vector RouteEval 8) : (s.setRoutes x).save = s.save := rfl
@[simp] theorem State.setRoutes_lines (x : Vector RouteEval 8) : (s.setRoutes x).lines = s.lines := rfl
@[simp] theorem State.setRoutes_rotation (x : Vector RouteEval 8) : (s.setRoutes x).rotation = s.rotation := rfl
@[simp] theorem State.setRoutes_waitList (x : Vector RouteEval 8) : (s.setRoutes x).waitList = s.waitList := rfl
@[simp] theorem State.setRoutes_supply (x : Vector RouteEval 8) : (s.setRoutes x).supply = s.supply := rfl
@[simp] theorem State.setRoutes_supplyTimer (x : Vector RouteEval 8) : (s.setRoutes x).supplyTimer = s.supplyTimer := rfl
@[simp] theorem State.setRoutes_channels (x : Vector RouteEval 8) : (s.setRoutes x).channels = s.channels := rfl
@[simp] theorem State.setRoutes_queue (x : Vector RouteEval 8) : (s.setRoutes x).queue = s.queue := rfl
@[simp] theorem State.setRoutes_receivers (x : Vector RouteEval 8) : (s.setRoutes x).receivers = s.receivers := rfl
@[simp] theorem State.setRoutes_dispatcher (x : Vector RouteEval 8) : (s.setRoutes x).dispatcher = s.dispatcher := rfl
@[simp] theorem State.setRoutes_link (x : Vector RouteEval 8) : (s.setRoutes x).link = s.link := rfl
@[simp] theorem State.setRoutes_pending (x : Vector RouteEval 8) : (s.setRoutes x).pending = s.pending := rfl
@[simp] theorem State.setRoutes_free (x : Vector RouteEval 8) : (s.setRoutes x).free = s.free := rfl
@[simp] theorem State.setRoutes_work (x : Vector RouteEval 8) : (s.setRoutes x).work = s.work := rfl

/-! ### setSupply -/

@[simp] theorem State.setSupply_now (x : Supply) : (s.setSupply x).now = s.now := rfl
@[simp] theorem State.setSupply_mainsFail (x : Supply) : (s.setSupply x).mainsFail = s.mainsFail := rfl
@[simp] theorem State.setSupply_fitted (x : Supply) : (s.setSupply x).fitted = s.fitted := rfl
@[simp] theorem State.setSupply_holdStrap (x : Supply) : (s.setSupply x).holdStrap = s.holdStrap := rfl
@[simp] theorem State.setSupply_loading (x : Supply) : (s.setSupply x).loading = s.loading := rfl
@[simp] theorem State.setSupply_mode (x : Supply) : (s.setSupply x).mode = s.mode := rfl
@[simp] theorem State.setSupply_hold (x : Supply) : (s.setSupply x).hold = s.hold := rfl
@[simp] theorem State.setSupply_holdTimer (x : Supply) : (s.setSupply x).holdTimer = s.holdTimer := rfl
@[simp] theorem State.setSupply_tables (x : Supply) : (s.setSupply x).tables = s.tables := rfl
@[simp] theorem State.setSupply_store (x : Supply) : (s.setSupply x).store = s.store := rfl
@[simp] theorem State.setSupply_save (x : Supply) : (s.setSupply x).save = s.save := rfl
@[simp] theorem State.setSupply_lines (x : Supply) : (s.setSupply x).lines = s.lines := rfl
@[simp] theorem State.setSupply_rotation (x : Supply) : (s.setSupply x).rotation = s.rotation := rfl
@[simp] theorem State.setSupply_waitList (x : Supply) : (s.setSupply x).waitList = s.waitList := rfl
@[simp] theorem State.setSupply_channels (x : Supply) : (s.setSupply x).channels = s.channels := rfl
@[simp] theorem State.setSupply_queue (x : Supply) : (s.setSupply x).queue = s.queue := rfl
@[simp] theorem State.setSupply_routes (x : Supply) : (s.setSupply x).routes = s.routes := rfl
@[simp] theorem State.setSupply_receivers (x : Supply) : (s.setSupply x).receivers = s.receivers := rfl
@[simp] theorem State.setSupply_dispatcher (x : Supply) : (s.setSupply x).dispatcher = s.dispatcher := rfl
@[simp] theorem State.setSupply_link (x : Supply) : (s.setSupply x).link = s.link := rfl
@[simp] theorem State.setSupply_pending (x : Supply) : (s.setSupply x).pending = s.pending := rfl
@[simp] theorem State.setSupply_free (x : Supply) : (s.setSupply x).free = s.free := rfl
@[simp] theorem State.setSupply_work (x : Supply) : (s.setSupply x).work = s.work := rfl

/-! ### setLoading -/

@[simp] theorem State.setLoading_now (b : Bool) : (s.setLoading b).now = s.now := rfl
@[simp] theorem State.setLoading_mainsFail (b : Bool) : (s.setLoading b).mainsFail = s.mainsFail := rfl
@[simp] theorem State.setLoading_fitted (b : Bool) : (s.setLoading b).fitted = s.fitted := rfl
@[simp] theorem State.setLoading_holdStrap (b : Bool) : (s.setLoading b).holdStrap = s.holdStrap := rfl
@[simp] theorem State.setLoading_mode (b : Bool) : (s.setLoading b).mode = s.mode := rfl
@[simp] theorem State.setLoading_hold (b : Bool) : (s.setLoading b).hold = s.hold := rfl
@[simp] theorem State.setLoading_holdTimer (b : Bool) : (s.setLoading b).holdTimer = s.holdTimer := rfl
@[simp] theorem State.setLoading_tables (b : Bool) : (s.setLoading b).tables = s.tables := rfl
@[simp] theorem State.setLoading_store (b : Bool) : (s.setLoading b).store = s.store := rfl
@[simp] theorem State.setLoading_save (b : Bool) : (s.setLoading b).save = s.save := rfl
@[simp] theorem State.setLoading_lines (b : Bool) : (s.setLoading b).lines = s.lines := rfl
@[simp] theorem State.setLoading_rotation (b : Bool) : (s.setLoading b).rotation = s.rotation := rfl
@[simp] theorem State.setLoading_waitList (b : Bool) : (s.setLoading b).waitList = s.waitList := rfl
@[simp] theorem State.setLoading_supply (b : Bool) : (s.setLoading b).supply = s.supply := rfl
@[simp] theorem State.setLoading_supplyTimer (b : Bool) : (s.setLoading b).supplyTimer = s.supplyTimer := rfl
@[simp] theorem State.setLoading_channels (b : Bool) : (s.setLoading b).channels = s.channels := rfl
@[simp] theorem State.setLoading_queue (b : Bool) : (s.setLoading b).queue = s.queue := rfl
@[simp] theorem State.setLoading_routes (b : Bool) : (s.setLoading b).routes = s.routes := rfl
@[simp] theorem State.setLoading_receivers (b : Bool) : (s.setLoading b).receivers = s.receivers := rfl
@[simp] theorem State.setLoading_dispatcher (b : Bool) : (s.setLoading b).dispatcher = s.dispatcher := rfl
@[simp] theorem State.setLoading_link (b : Bool) : (s.setLoading b).link = s.link := rfl
@[simp] theorem State.setLoading_pending (b : Bool) : (s.setLoading b).pending = s.pending := rfl
@[simp] theorem State.setLoading_free (b : Bool) : (s.setLoading b).free = s.free := rfl
@[simp] theorem State.setLoading_work (b : Bool) : (s.setLoading b).work = s.work := rfl

/-! ### tell -/

@[simp] theorem State.tell_now : (s.tell).now = s.now := rfl
@[simp] theorem State.tell_mainsFail : (s.tell).mainsFail = s.mainsFail := rfl
@[simp] theorem State.tell_fitted : (s.tell).fitted = s.fitted := rfl
@[simp] theorem State.tell_holdStrap : (s.tell).holdStrap = s.holdStrap := rfl
@[simp] theorem State.tell_loading : (s.tell).loading = s.loading := rfl
@[simp] theorem State.tell_mode : (s.tell).mode = s.mode := rfl
@[simp] theorem State.tell_hold : (s.tell).hold = s.hold := rfl
@[simp] theorem State.tell_holdTimer : (s.tell).holdTimer = s.holdTimer := rfl
@[simp] theorem State.tell_tables : (s.tell).tables = s.tables := rfl
@[simp] theorem State.tell_store : (s.tell).store = s.store := rfl
@[simp] theorem State.tell_save : (s.tell).save = s.save := rfl
@[simp] theorem State.tell_lines : (s.tell).lines = s.lines := rfl
@[simp] theorem State.tell_rotation : (s.tell).rotation = s.rotation := rfl
@[simp] theorem State.tell_waitList : (s.tell).waitList = s.waitList := rfl
@[simp] theorem State.tell_supply : (s.tell).supply = s.supply := rfl
@[simp] theorem State.tell_supplyTimer : (s.tell).supplyTimer = s.supplyTimer := rfl
@[simp] theorem State.tell_channels : (s.tell).channels = s.channels := rfl
@[simp] theorem State.tell_queue : (s.tell).queue = s.queue := rfl
@[simp] theorem State.tell_routes : (s.tell).routes = s.routes := rfl
@[simp] theorem State.tell_receivers : (s.tell).receivers = s.receivers := rfl
@[simp] theorem State.tell_dispatcher : (s.tell).dispatcher = s.dispatcher := rfl
@[simp] theorem State.tell_link : (s.tell).link = s.link := rfl
@[simp] theorem State.tell_pending : (s.tell).pending = s.pending := rfl
@[simp] theorem State.tell_free : (s.tell).free = s.free := rfl

/-! ### noteWaiting -/

@[simp] theorem State.noteWaiting_now (k : Nat) : (s.noteWaiting k).now = s.now := rfl
@[simp] theorem State.noteWaiting_mainsFail (k : Nat) : (s.noteWaiting k).mainsFail = s.mainsFail := rfl
@[simp] theorem State.noteWaiting_fitted (k : Nat) : (s.noteWaiting k).fitted = s.fitted := rfl
@[simp] theorem State.noteWaiting_holdStrap (k : Nat) : (s.noteWaiting k).holdStrap = s.holdStrap := rfl
@[simp] theorem State.noteWaiting_loading (k : Nat) : (s.noteWaiting k).loading = s.loading := rfl
@[simp] theorem State.noteWaiting_mode (k : Nat) : (s.noteWaiting k).mode = s.mode := rfl
@[simp] theorem State.noteWaiting_hold (k : Nat) : (s.noteWaiting k).hold = s.hold := rfl
@[simp] theorem State.noteWaiting_holdTimer (k : Nat) : (s.noteWaiting k).holdTimer = s.holdTimer := rfl
@[simp] theorem State.noteWaiting_tables (k : Nat) : (s.noteWaiting k).tables = s.tables := rfl
@[simp] theorem State.noteWaiting_store (k : Nat) : (s.noteWaiting k).store = s.store := rfl
@[simp] theorem State.noteWaiting_save (k : Nat) : (s.noteWaiting k).save = s.save := rfl
@[simp] theorem State.noteWaiting_lines (k : Nat) : (s.noteWaiting k).lines = s.lines := rfl
@[simp] theorem State.noteWaiting_rotation (k : Nat) : (s.noteWaiting k).rotation = s.rotation := rfl
@[simp] theorem State.noteWaiting_waitList (k : Nat) : (s.noteWaiting k).waitList = s.waitList := rfl
@[simp] theorem State.noteWaiting_supply (k : Nat) : (s.noteWaiting k).supply = s.supply := rfl
@[simp] theorem State.noteWaiting_supplyTimer (k : Nat) : (s.noteWaiting k).supplyTimer = s.supplyTimer := rfl
@[simp] theorem State.noteWaiting_channels (k : Nat) : (s.noteWaiting k).channels = s.channels := rfl
@[simp] theorem State.noteWaiting_queue (k : Nat) : (s.noteWaiting k).queue = s.queue := rfl
@[simp] theorem State.noteWaiting_routes (k : Nat) : (s.noteWaiting k).routes = s.routes := rfl
@[simp] theorem State.noteWaiting_receivers (k : Nat) : (s.noteWaiting k).receivers = s.receivers := rfl
@[simp] theorem State.noteWaiting_dispatcher (k : Nat) : (s.noteWaiting k).dispatcher = s.dispatcher := rfl
@[simp] theorem State.noteWaiting_link (k : Nat) : (s.noteWaiting k).link = s.link := rfl
@[simp] theorem State.noteWaiting_pending (k : Nat) : (s.noteWaiting k).pending = s.pending := rfl
@[simp] theorem State.noteWaiting_free (k : Nat) : (s.noteWaiting k).free = s.free := rfl

/-! ### noteExit -/

@[simp] theorem State.noteExit_now : (s.noteExit).now = s.now := rfl
@[simp] theorem State.noteExit_mainsFail : (s.noteExit).mainsFail = s.mainsFail := rfl
@[simp] theorem State.noteExit_fitted : (s.noteExit).fitted = s.fitted := rfl
@[simp] theorem State.noteExit_holdStrap : (s.noteExit).holdStrap = s.holdStrap := rfl
@[simp] theorem State.noteExit_loading : (s.noteExit).loading = s.loading := rfl
@[simp] theorem State.noteExit_mode : (s.noteExit).mode = s.mode := rfl
@[simp] theorem State.noteExit_hold : (s.noteExit).hold = s.hold := rfl
@[simp] theorem State.noteExit_holdTimer : (s.noteExit).holdTimer = s.holdTimer := rfl
@[simp] theorem State.noteExit_tables : (s.noteExit).tables = s.tables := rfl
@[simp] theorem State.noteExit_store : (s.noteExit).store = s.store := rfl
@[simp] theorem State.noteExit_save : (s.noteExit).save = s.save := rfl
@[simp] theorem State.noteExit_lines : (s.noteExit).lines = s.lines := rfl
@[simp] theorem State.noteExit_rotation : (s.noteExit).rotation = s.rotation := rfl
@[simp] theorem State.noteExit_waitList : (s.noteExit).waitList = s.waitList := rfl
@[simp] theorem State.noteExit_supply : (s.noteExit).supply = s.supply := rfl
@[simp] theorem State.noteExit_supplyTimer : (s.noteExit).supplyTimer = s.supplyTimer := rfl
@[simp] theorem State.noteExit_channels : (s.noteExit).channels = s.channels := rfl
@[simp] theorem State.noteExit_queue : (s.noteExit).queue = s.queue := rfl
@[simp] theorem State.noteExit_routes : (s.noteExit).routes = s.routes := rfl
@[simp] theorem State.noteExit_receivers : (s.noteExit).receivers = s.receivers := rfl
@[simp] theorem State.noteExit_dispatcher : (s.noteExit).dispatcher = s.dispatcher := rfl
@[simp] theorem State.noteExit_link : (s.noteExit).link = s.link := rfl
@[simp] theorem State.noteExit_pending : (s.noteExit).pending = s.pending := rfl
@[simp] theorem State.noteExit_free : (s.noteExit).free = s.free := rfl

/-! ### setBusy -/

@[simp] theorem State.setBusy_now (b : Bool) : (s.setBusy b).now = s.now := rfl
@[simp] theorem State.setBusy_mainsFail (b : Bool) : (s.setBusy b).mainsFail = s.mainsFail := rfl
@[simp] theorem State.setBusy_fitted (b : Bool) : (s.setBusy b).fitted = s.fitted := rfl
@[simp] theorem State.setBusy_holdStrap (b : Bool) : (s.setBusy b).holdStrap = s.holdStrap := rfl
@[simp] theorem State.setBusy_loading (b : Bool) : (s.setBusy b).loading = s.loading := rfl
@[simp] theorem State.setBusy_mode (b : Bool) : (s.setBusy b).mode = s.mode := rfl
@[simp] theorem State.setBusy_hold (b : Bool) : (s.setBusy b).hold = s.hold := rfl
@[simp] theorem State.setBusy_holdTimer (b : Bool) : (s.setBusy b).holdTimer = s.holdTimer := rfl
@[simp] theorem State.setBusy_tables (b : Bool) : (s.setBusy b).tables = s.tables := rfl
@[simp] theorem State.setBusy_store (b : Bool) : (s.setBusy b).store = s.store := rfl
@[simp] theorem State.setBusy_save (b : Bool) : (s.setBusy b).save = s.save := rfl
@[simp] theorem State.setBusy_lines (b : Bool) : (s.setBusy b).lines = s.lines := rfl
@[simp] theorem State.setBusy_rotation (b : Bool) : (s.setBusy b).rotation = s.rotation := rfl
@[simp] theorem State.setBusy_waitList (b : Bool) : (s.setBusy b).waitList = s.waitList := rfl
@[simp] theorem State.setBusy_supply (b : Bool) : (s.setBusy b).supply = s.supply := rfl
@[simp] theorem State.setBusy_supplyTimer (b : Bool) : (s.setBusy b).supplyTimer = s.supplyTimer := rfl
@[simp] theorem State.setBusy_channels (b : Bool) : (s.setBusy b).channels = s.channels := rfl
@[simp] theorem State.setBusy_queue (b : Bool) : (s.setBusy b).queue = s.queue := rfl
@[simp] theorem State.setBusy_routes (b : Bool) : (s.setBusy b).routes = s.routes := rfl
@[simp] theorem State.setBusy_receivers (b : Bool) : (s.setBusy b).receivers = s.receivers := rfl
@[simp] theorem State.setBusy_dispatcher (b : Bool) : (s.setBusy b).dispatcher = s.dispatcher := rfl
@[simp] theorem State.setBusy_link (b : Bool) : (s.setBusy b).link = s.link := rfl
@[simp] theorem State.setBusy_pending (b : Bool) : (s.setBusy b).pending = s.pending := rfl
@[simp] theorem State.setBusy_free (b : Bool) : (s.setBusy b).free = s.free := rfl

/-! ### The field that is set -/

@[simp] theorem State.setWork_work (w : Work) : (s.setWork w).work = w := rfl
@[simp] theorem State.setLink_link (k : Link) : (s.setLink k).link = k := rfl
@[simp] theorem State.setMode_mode (m : Mode) : (s.setMode m).mode = m := rfl
@[simp] theorem State.setHold_hold (h : Hold) : (s.setHold h).hold = h := rfl
@[simp] theorem State.setHoldTimer_holdTimer (x : Option Nat) : (s.setHoldTimer x).holdTimer = x := rfl
@[simp] theorem State.setTables_tables (x : Tables) : (s.setTables x).tables = x := rfl
@[simp] theorem State.setSave_save (x : Option Save) : (s.setSave x).save = x := rfl
@[simp] theorem State.setRoutes_routes (x : Vector RouteEval 8) : (s.setRoutes x).routes = x := rfl
@[simp] theorem State.setSupply_supply (x : Supply) : (s.setSupply x).supply = x := rfl
@[simp] theorem State.setLoading_loading (b : Bool) : (s.setLoading b).loading = b := rfl
@[simp] theorem State.setQueue_queue (q : Queue) : (s.setQueue q).queue = q := rfl
@[simp] theorem State.setDispatcher_dispatcher (d : Dispatcher) : (s.setDispatcher d).dispatcher = d := rfl
@[simp] theorem State.setWaitList_waitList (ls : List LineNo) : (s.setWaitList ls).waitList = ls := rfl
@[simp] theorem State.setRotation_rotation (n : Nat) : (s.setRotation n).rotation = n := rfl
@[simp] theorem State.advance_now (t : Nat) : (s.advance t).now = max s.now t := rfl
@[simp] theorem State.setSupply_supplyTimer (x : Supply) : (s.setSupply x).supplyTimer = none := rfl
@[simp] theorem State.setFaults_link (fs : List FaultEntry) : (s.setFaults fs).link = { s.link with faults := fs } := rfl
@[simp] theorem State.tell_work : s.tell.work = { s.work with told := true } := rfl
@[simp] theorem State.noteExit_work : s.noteExit.work = { s.work with exitDue := true } := rfl
@[simp] theorem State.setBusy_work (b : Bool) : (s.setBusy b).work = { s.work with busy := b } := rfl
@[simp] theorem State.noteWaiting_work (k : Nat) :
    (s.noteWaiting k).work = { s.work with told := true, handOns := s.work.handOns ++ [k] } := rfl

/-! ### notice -/

@[simp] theorem State.notice_now (n : Notice) : (s.notice n).now = s.now := by
  unfold State.notice; split <;> rfl
@[simp] theorem State.notice_mainsFail (n : Notice) : (s.notice n).mainsFail = s.mainsFail := by
  unfold State.notice; split <;> rfl
@[simp] theorem State.notice_fitted (n : Notice) : (s.notice n).fitted = s.fitted := by
  unfold State.notice; split <;> rfl
@[simp] theorem State.notice_holdStrap (n : Notice) : (s.notice n).holdStrap = s.holdStrap := by
  unfold State.notice; split <;> rfl
@[simp] theorem State.notice_loading (n : Notice) : (s.notice n).loading = s.loading := by
  unfold State.notice; split <;> rfl
@[simp] theorem State.notice_mode (n : Notice) : (s.notice n).mode = s.mode := by
  unfold State.notice; split <;> rfl
@[simp] theorem State.notice_hold (n : Notice) : (s.notice n).hold = s.hold := by
  unfold State.notice; split <;> rfl
@[simp] theorem State.notice_holdTimer (n : Notice) : (s.notice n).holdTimer = s.holdTimer := by
  unfold State.notice; split <;> rfl
@[simp] theorem State.notice_tables (n : Notice) : (s.notice n).tables = s.tables := by
  unfold State.notice; split <;> rfl
@[simp] theorem State.notice_store (n : Notice) : (s.notice n).store = s.store := by
  unfold State.notice; split <;> rfl
@[simp] theorem State.notice_save (n : Notice) : (s.notice n).save = s.save := by
  unfold State.notice; split <;> rfl
@[simp] theorem State.notice_lines (n : Notice) : (s.notice n).lines = s.lines := by
  unfold State.notice; split <;> rfl
@[simp] theorem State.notice_rotation (n : Notice) : (s.notice n).rotation = s.rotation := by
  unfold State.notice; split <;> rfl
@[simp] theorem State.notice_waitList (n : Notice) : (s.notice n).waitList = s.waitList := by
  unfold State.notice; split <;> rfl
@[simp] theorem State.notice_supply (n : Notice) : (s.notice n).supply = s.supply := by
  unfold State.notice; split <;> rfl
@[simp] theorem State.notice_supplyTimer (n : Notice) : (s.notice n).supplyTimer = s.supplyTimer := by
  unfold State.notice; split <;> rfl
@[simp] theorem State.notice_channels (n : Notice) : (s.notice n).channels = s.channels := by
  unfold State.notice; split <;> rfl
@[simp] theorem State.notice_queue (n : Notice) : (s.notice n).queue = s.queue := by
  unfold State.notice; split <;> rfl
@[simp] theorem State.notice_routes (n : Notice) : (s.notice n).routes = s.routes := by
  unfold State.notice; split <;> rfl
@[simp] theorem State.notice_receivers (n : Notice) : (s.notice n).receivers = s.receivers := by
  unfold State.notice; split <;> rfl
@[simp] theorem State.notice_dispatcher (n : Notice) : (s.notice n).dispatcher = s.dispatcher := by
  unfold State.notice; split <;> rfl
@[simp] theorem State.notice_pending (n : Notice) : (s.notice n).pending = s.pending := by
  unfold State.notice; split <;> rfl
@[simp] theorem State.notice_free (n : Notice) : (s.notice n).free = s.free := by
  unfold State.notice; split <;> rfl
@[simp] theorem State.notice_work (n : Notice) : (s.notice n).work = s.work := by
  unfold State.notice; split <;> rfl

/-! ### Reading one line, channel or receiver back -/

theorem State.setLine_line (l k : LineNo) (x : Line) :
    (s.setLine l x).line k = if l = k then x else s.line k := by
  simp [State.setLine, State.line, Vector.getElem_set, Fin.ext_iff]

@[simp] theorem State.setLine_line_same (l : LineNo) (x : Line) : (s.setLine l x).line l = x := by
  simp [State.setLine_line]

theorem State.setLine_line_ne (l k : LineNo) (x : Line) (h : l ≠ k) : (s.setLine l x).line k = s.line k := by
  simp [State.setLine_line, h]

theorem State.setCtl_line (l k : LineNo) (x : LineCtl) :
    (s.setCtl l x).line k = if l = k then { s.line l with ctl := x } else s.line k := State.setLine_line ..

theorem State.setSense_line (l k : LineNo) (x : Sense) :
    (s.setSense l x).line k = if l = k then { s.line l with sense := x } else s.line k := State.setLine_line ..

theorem State.setDetector_line (l k : LineNo) (x : Detector) :
    (s.setDetector l x).line k = if l = k then { s.line l with detector := x } else s.line k := State.setLine_line ..

theorem State.setIface_line (l k : LineNo) (x : Iface) :
    (s.setIface l x).line k = if l = k then { s.line l with iface := x } else s.line k := State.setLine_line ..

theorem State.setCall_line (l k : LineNo) (x : Option Call) :
    (s.setCall l x).line k = if l = k then { s.line l with call := x } else s.line k := State.setLine_line ..

theorem State.setSlots_line (l k : LineNo) (x y : Slot) :
    (s.setSlots l x y).line k = if l = k then { s.line l with sending := x, next := y } else s.line k :=
  State.setLine_line ..

theorem State.setChannel_channel (c k : ChannelNo) (x : InputChannel) :
    (s.setChannel c x).channel k = if c = k then x else s.channel k := by
  simp [State.setChannel, State.channel, Vector.getElem_set, Fin.ext_iff]

@[simp] theorem State.setChannel_channel_same (c : ChannelNo) (x : InputChannel) :
    (s.setChannel c x).channel c = x := by
  simp [State.setChannel_channel]

theorem State.setRx_rx (e k : RxNo) (x : RxStatus) : (s.setRx e x).rx k = if e = k then x else s.rx k := by
  simp [State.setRx, State.rx, Vector.getElem_set, Fin.ext_iff]

@[simp] theorem State.setRx_rx_same (e : RxNo) (x : RxStatus) : (s.setRx e x).rx e = x := by
  simp [State.setRx_rx]

/-- A line is unchanged by an update of something else. -/
theorem State.line_congr {s t : State} (h : t.lines = s.lines) (l : LineNo) : t.line l = s.line l := by
  simp [State.line, h]

theorem State.channel_congr {s t : State} (h : t.channels = s.channels) (c : ChannelNo) :
    t.channel c = s.channel c := by
  simp [State.channel, h]

theorem State.rx_congr {s t : State} (h : t.receivers = s.receivers) (e : RxNo) : t.rx e = s.rx e := by
  simp [State.rx, h]

end Sys2Proof.Machine
end

