-- ==== Sys2Proof/Laws/Kept.lean ====
section
/-! SUPPORT. What the shared operations leave unchanged: three views of the state, each wider than the one before it, and one lemma for each operation that says which view it keeps. -/

namespace Sys2Proof.Machine

/-- What the queue, the Line Controllers and the Call Controllers leave unchanged beside the base: mode, hold, channels, routes, and the Dispatcher's own state. -/
structure Still where
  base : Base
  mode : Mode
  hold : Hold
  channels : Vector InputChannel 8
  routes : Vector RouteEval 8
  dispatcher : Dispatcher

def State.still (s : State) : Still :=
  { base := s.base, mode := s.mode, hold := s.hold, channels := s.channels, routes := s.routes,
    dispatcher := s.dispatcher }

/-- What the queue alone leaves unchanged beside that: receivers, the rotation counter, the waiting list, and of every line all but its block slots. -/
structure Calm where
  still : Still
  receivers : Vector RxStatus 12
  rotation : Nat
  waitList : List LineNo
  shell : LineNo → Line

def Line.shell (x : Line) : Line := { x with sending := Slot.empty, next := Slot.empty }

def State.calm (s : State) : Calm :=
  { still := s.still, receivers := s.receivers, rotation := s.rotation, waitList := s.waitList,
    shell := fun l => (s.line l).shell }

theorem base_of_still {s t : State} (h : t.still = s.still) : t.base = s.base := congrArg Still.base h

theorem still_of_calm {s t : State} (h : t.calm = s.calm) : t.still = s.still := congrArg Calm.still h

/-- A fold keeps a view that each of its steps keeps. -/
theorem foldl_view {α β : Type} (view : State → β) (f : State → α → State)
    (h : ∀ s a, view (f s a) = view s) (l : List α) : ∀ s, view (l.foldl f s) = view s := by
  induction l with
  | nil => intro s; rfl
  | cons a l ih => intro s; rw [List.foldl_cons, ih, h]

/-! ### Plain updates -/

section plain
variable (s : State)

@[simp] theorem State.setCtl_still (l : LineNo) (x : LineCtl) : (s.setCtl l x).still = s.still := by
  have h : ∀ k, ((s.setCtl l x).line k).toneOn = (s.line k).toneOn := by
    intro k; rw [State.setCtl_line]; split
    · next e => subst e; rfl
    · rfl
  simp [State.still, State.base, h]

@[simp] theorem State.setSense_still (l : LineNo) (x : Sense) : (s.setSense l x).still = s.still := by
  have h : ∀ k, ((s.setSense l x).line k).toneOn = (s.line k).toneOn := by
    intro k; rw [State.setSense_line]; split
    · next e => subst e; rfl
    · rfl
  simp [State.still, State.base, h]

@[simp] theorem State.setDetector_still (l : LineNo) (x : Detector) : (s.setDetector l x).still = s.still := by
  have h : ∀ k, ((s.setDetector l x).line k).toneOn = (s.line k).toneOn := by
    intro k; rw [State.setDetector_line]; split
    · next e => subst e; rfl
    · rfl
  simp [State.still, State.base, h]

@[simp] theorem State.setIface_still (l : LineNo) (x : Iface) : (s.setIface l x).still = s.still := by
  have h : ∀ k, ((s.setIface l x).line k).toneOn = (s.line k).toneOn := by
    intro k; rw [State.setIface_line]; split
    · next e => subst e; rfl
    · rfl
  simp [State.still, State.base, h]

@[simp] theorem State.setCall_still (l : LineNo) (x : Option Call) : (s.setCall l x).still = s.still := by
  have h : ∀ k, ((s.setCall l x).line k).toneOn = (s.line k).toneOn := by
    intro k; rw [State.setCall_line]; split
    · next e => subst e; rfl
    · rfl
  simp [State.still, State.base, h]

@[simp] theorem State.modCall_still (l : LineNo) (f : Call → Call) : (s.modCall l f).still = s.still :=
  State.setCall_still ..

@[simp] theorem State.enterState_still (l : LineNo) (c : CallState) (ms : Nat) :
    (s.enterState l c ms).still = s.still := State.modCall_still ..

@[simp] theorem State.setSender_still (l : LineNo) (x : Option Nat) : (s.setSender l x).still = s.still :=
  State.setIface_still ..

@[simp] theorem State.setSlots_calm (l : LineNo) (x y : Slot) : (s.setSlots l x y).calm = s.calm := by
  have h : ∀ k, ((s.setSlots l x y).line k).toneOn = (s.line k).toneOn := by
    intro k; rw [State.setSlots_line]; split
    · next e => subst e; rfl
    · rfl
  have g : ∀ k, ((s.setSlots l x y).line k).shell = (s.line k).shell := by
    intro k; rw [State.setSlots_line]; split
    · next e => subst e; rfl
    · rfl
  simp [State.calm, State.still, State.base, h, g]

@[simp] theorem State.setSlots_still (l : LineNo) (x y : Slot) : (s.setSlots l x y).still = s.still :=
  still_of_calm (s.setSlots_calm l x y)

@[simp] theorem State.setQueue_calm (q : Queue) : (s.setQueue q).calm = s.calm := rfl
@[simp] theorem State.modRecord_calm (k : Nat) (f : Record → Record) : (s.modRecord k f).calm = s.calm := rfl
@[simp] theorem State.setStates_calm (ks : List Nat) (x : RecordState) : (s.setStates ks x).calm = s.calm := rfl
@[simp] theorem State.setFaults_calm (fs : List FaultEntry) : (s.setFaults fs).calm = s.calm := rfl
@[simp] theorem State.tell_calm : s.tell.calm = s.calm := rfl
@[simp] theorem State.noteWaiting_calm (k : Nat) : (s.noteWaiting k).calm = s.calm := rfl
@[simp] theorem State.noteExit_calm : s.noteExit.calm = s.calm := rfl
@[simp] theorem State.setBusy_calm (b : Bool) : (s.setBusy b).calm = s.calm := rfl
@[simp] theorem State.setRx_still (e : RxNo) (x : RxStatus) : (s.setRx e x).still = s.still := rfl
@[simp] theorem State.setDispatcher_base (d : Dispatcher) : (s.setDispatcher d).base = s.base := rfl
@[simp] theorem State.setChannel_base (c : ChannelNo) (x : InputChannel) : (s.setChannel c x).base = s.base := rfl
@[simp] theorem State.setWork_calm (w : Work) : (s.setWork w).calm = s.calm := rfl
@[simp] theorem State.setHoldTimer_calm (x : Option Nat) : (s.setHoldTimer x).calm = s.calm := rfl
@[simp] theorem State.setWaitList_still (x : List LineNo) : (s.setWaitList x).still = s.still := rfl
@[simp] theorem State.setRotation_still (x : Nat) : (s.setRotation x).still = s.still := rfl
@[simp] theorem State.setRoutes_base (x : Vector RouteEval 8) : (s.setRoutes x).base = s.base := rfl

theorem Link.transmit_core (k : Link) :
    k.transmit.receiver = k.receiver ∧ k.transmit.byteTimer = k.byteTimer ∧ k.transmit.requests = k.requests
      ∧ k.transmit.requestsLost = k.requestsLost ∧ k.transmit.inHand = k.inHand ∧ k.transmit.faults = k.faults := by
  unfold Link.transmit; split
  · split <;> simp
  · simp

theorem Link.enqueue_core (k : Link) (n : Notice) :
    (k.enqueue n).receiver = k.receiver ∧ (k.enqueue n).byteTimer = k.byteTimer
      ∧ (k.enqueue n).requests = k.requests ∧ (k.enqueue n).requestsLost = k.requestsLost
      ∧ (k.enqueue n).inHand = k.inHand ∧ (k.enqueue n).faults = k.faults := by
  unfold Link.enqueue; split
  · simpa using Link.transmit_core { k with notices := k.notices ++ [n] }
  · simp

/-- A notice touches the notice buffer, its lost flag and the transmitter only (R159, R160). -/
@[simp] theorem State.notice_calm (n : Notice) : (s.notice n).calm = s.calm := by
  unfold State.notice; split
  · rfl
  · have h := Link.enqueue_core s.link n
    simp [State.calm, State.still, State.base, State.line, h]

end plain

/-! ### Fault list and queue -/

section queue
variable (s : State)

@[simp] theorem State.faultActive_calm (k : FaultKind) (i : Nat) : (s.faultActive k i).calm = s.calm := by
  unfold State.faultActive; split
  · simp
  · split <;> simp

@[simp] theorem State.faultCleared_calm (k : FaultKind) (i : Nat) : (s.faultCleared k i).calm = s.calm := by
  unfold State.faultCleared; split
  · rfl
  · split <;> simp

@[simp] theorem State.removeStoreCorrupt_calm : s.removeStoreCorrupt.calm = s.calm := by
  unfold State.removeStoreCorrupt; split <;> simp

@[simp] theorem State.settlePressure_calm : s.settlePressure.calm = s.calm := by
  unfold State.settlePressure; dsimp only; split <;> simp

@[simp] theorem State.settleComm_calm : s.settleComm.calm = s.calm := by
  unfold State.settleComm; split <;> simp

@[simp] theorem State.claimSending_calm (l : LineNo) (e : RxNo) (n : Nat) :
    (s.claimSending l e n).calm = s.calm := by simp [State.claimSending]

@[simp] theorem State.claimNext_calm (l : LineNo) (e : RxNo) (n : Nat) :
    (s.claimNext l e n).calm = s.calm := by simp [State.claimNext]

@[simp] theorem State.moveNext_calm (l : LineNo) : (s.moveNext l).calm = s.calm := by simp [State.moveNext]

@[simp] theorem State.releaseHeld_calm (r : Record) : (s.releaseHeld r).calm = s.calm := by
  unfold State.releaseHeld; split <;> simp

@[simp] theorem State.returnRecord_calm (k : Nat) : (s.returnRecord k).calm = s.calm := by
  unfold State.returnRecord; split
  · rfl
  · split
    · dsimp only; split <;> simp
    · rfl

@[simp] theorem State.returnAll_calm (ks : List Nat) : (s.returnAll ks).calm = s.calm :=
  foldl_view State.calm _ State.returnRecord_calm ks s

@[simp] theorem State.recompose_calm (l : LineNo) (e : RxNo) (k : Nat) : (s.recompose l e k).calm = s.calm := by
  unfold State.recompose; dsimp only; split
  · simp
  · split
    · split <;> simp
    · rfl

@[simp] theorem State.takeHandOn_calm (k : Nat) : (s.takeHandOn k).calm = s.calm := by
  unfold State.takeHandOn; split
  · rfl
  · split
    · split
      · rfl
      · split <;> simp
    · rfl

@[simp] theorem State.drainFuel_calm (n : Nat) : ∀ s : State, (State.drainFuel n s).calm = s.calm := by
  induction n with
  | zero => intro s; rfl
  | succ n ih =>
    intro s; unfold State.drainFuel; split
    · rfl
    · rw [ih]; simp

@[simp] theorem State.drain_calm : s.drain.calm = s.calm := by
  unfold State.drain; split <;> simp

@[simp] theorem State.handOn_calm (k : Nat) : (s.handOn k).calm = s.calm := by simp [State.handOn]

@[simp] theorem State.startHoldLimit_calm : s.startHoldLimit.calm = s.calm := by
  unfold State.startHoldLimit; split <;> simp

@[simp] theorem State.fireEntry_calm : s.fireEntry.calm = s.calm := by
  unfold State.fireEntry; split <;> simp

@[simp] theorem State.tellNeighbours_calm (k : Nat) (c : ReportClass) (x : RecordState) :
    (s.tellNeighbours k c x).calm = s.calm := by
  unfold State.tellNeighbours; dsimp only; split <;> split <;> split <;> simp

@[simp] theorem State.enter_calm (rep : Report) (b : Bool) (n : Nat) : (s.enter rep b n).calm = s.calm := by
  simp [State.enter]

@[simp] theorem State.accountLoss_calm : s.accountLoss.calm = s.calm := by
  unfold State.accountLoss; split
  · simp
  · split <;> simp

@[simp] theorem State.countLoss_calm (k : Nat) (rep : Report) : (s.countLoss k rep).calm = s.calm := by
  simp [State.countLoss]

@[simp] theorem State.removeRecord_calm (r : Record) : (s.removeRecord r).calm = s.calm := by
  unfold State.removeRecord; dsimp only
  split <;> (try split) <;> (try split) <;> simp

@[simp] theorem State.join_calm (r : Record) (rep : Report) : (s.join r rep).calm = s.calm := by
  unfold State.join; dsimp only; split
  · split <;> split <;> (try split) <;> split <;> simp
  · simp

theorem State.admit_calm (rep : Report) : (s.admission rep).1.calm = s.calm := by
  unfold State.admission; split
  · simp
  · split
    · simp
    · split <;> simp

/-- Admission changes the queue, notices and faults, block slots, the hold-limit timer and the notes of the step (R60 to R65). -/
@[simp] theorem State.report_calm (rep : Report) : (s.report rep).calm = s.calm := State.admit_calm s rep

@[simp] theorem State.acceptRecord_calm (e : RxNo) (k : Nat) : (State.acceptRecord e s k).calm = s.calm := by
  unfold State.acceptRecord; split
  · rfl
  · split
    · split
      · simp
      · split
        · dsimp only; split <;> simp
        · simp
    · rfl

@[simp] theorem State.applyAccept_calm (e : RxNo) (ks : List Nat) : (s.applyAccept e ks).calm = s.calm :=
  foldl_view State.calm _ (fun s k => State.acceptRecord_calm s e k) ks s

@[simp] theorem State.reexamineOne_calm (k : Nat) : (s.reexamineOne k).calm = s.calm := by
  unfold State.reexamineOne; split
  · rfl
  · split <;> simp

@[simp] theorem State.reexamine_calm : s.reexamine.calm = s.calm :=
  foldl_view State.calm _ State.reexamineOne_calm _ s

@[simp] theorem State.rebuild_calm : s.rebuild.calm = s.calm := by simp [State.rebuild]

/-! The same, for the view that the lines and calls keep. -/

@[simp] theorem State.notice_still (n : Notice) : (s.notice n).still = s.still := still_of_calm (s.notice_calm n)
@[simp] theorem State.tell_still : (s.tell).still = s.still := still_of_calm (s.tell_calm)
@[simp] theorem State.setQueue_still (q : Queue) : (s.setQueue q).still = s.still := still_of_calm (s.setQueue_calm q)
@[simp] theorem State.setBusy_still (b : Bool) : (s.setBusy b).still = s.still := still_of_calm (s.setBusy_calm b)
@[simp] theorem State.setFaults_still (fs : List FaultEntry) : (s.setFaults fs).still = s.still := still_of_calm (s.setFaults_calm fs)
@[simp] theorem State.modRecord_still (k : Nat) (f : Record → Record) : (s.modRecord k f).still = s.still := still_of_calm (s.modRecord_calm k f)
@[simp] theorem State.faultActive_still (k : FaultKind) (i : Nat) : (s.faultActive k i).still = s.still := still_of_calm (s.faultActive_calm k i)
@[simp] theorem State.faultCleared_still (k : FaultKind) (i : Nat) : (s.faultCleared k i).still = s.still := still_of_calm (s.faultCleared_calm k i)
@[simp] theorem State.removeStoreCorrupt_still : (s.removeStoreCorrupt).still = s.still := still_of_calm (s.removeStoreCorrupt_calm)
@[simp] theorem State.settlePressure_still : (s.settlePressure).still = s.still := still_of_calm (s.settlePressure_calm)
@[simp] theorem State.claimSending_still (l : LineNo) (e : RxNo) (n : Nat) : (s.claimSending l e n).still = s.still := still_of_calm (s.claimSending_calm l e n)
@[simp] theorem State.claimNext_still (l : LineNo) (e : RxNo) (n : Nat) : (s.claimNext l e n).still = s.still := still_of_calm (s.claimNext_calm l e n)
@[simp] theorem State.moveNext_still (l : LineNo) : (s.moveNext l).still = s.still := still_of_calm (s.moveNext_calm l)
@[simp] theorem State.returnAll_still (ks : List Nat) : (s.returnAll ks).still = s.still := still_of_calm (s.returnAll_calm ks)
@[simp] theorem State.drain_still : (s.drain).still = s.still := still_of_calm (s.drain_calm)
@[simp] theorem State.startHoldLimit_still : (s.startHoldLimit).still = s.still := still_of_calm (s.startHoldLimit_calm)
@[simp] theorem State.removeRecord_still (r : Record) : (s.removeRecord r).still = s.still := still_of_calm (s.removeRecord_calm r)
@[simp] theorem State.report_still (rep : Report) : (s.report rep).still = s.still := still_of_calm (s.report_calm rep)
@[simp] theorem State.applyAccept_still (e : RxNo) (ks : List Nat) : (s.applyAccept e ks).still = s.still := still_of_calm (s.applyAccept_calm e ks)
@[simp] theorem State.reexamine_still : (s.reexamine).still = s.still := still_of_calm (s.reexamine_calm)
@[simp] theorem State.rebuild_still : (s.rebuild).still = s.still := still_of_calm (s.rebuild_calm)

end queue

end Sys2Proof.Machine
end

