-- ==== Sys2Proof/Laws/KeptLines.lean ====
section
/-! SUPPORT. What the operations of the Line Controllers and the Call Controllers leave unchanged: mode, hold, channels, routes, the Dispatcher's state and the base. -/

namespace Sys2Proof.Machine

section lines
variable (s : State)

@[simp] theorem State.resetFailures_still (e : RxNo) : (s.resetFailures e).still = s.still := by
  simp [State.resetFailures]

@[simp] theorem State.receiverResult_still (e : RxNo) (x : Option CallResult) :
    (s.receiverResult e x).still = s.still := by
  unfold State.receiverResult; split
  · split
    · dsimp only; split <;> simp
    · simp
  · simp

@[simp] theorem State.lineNotice_still (l : LineNo) : (s.lineNotice l).still = s.still := by
  simp [State.lineNotice]

@[simp] theorem State.recompute_still (l : LineNo) : (s.recompute l).still = s.still := by
  unfold State.recompute; dsimp only; split <;> simp

@[simp] theorem State.startPromotion_still (l : LineNo) : (s.startPromotion l).still = s.still := by
  simp [State.startPromotion]

@[simp] theorem State.startNext_still : s.startNext.still = s.still := by
  unfold State.startNext; split
  · rfl
  · split <;> simp

@[simp] theorem State.joinWaitList_still (l : LineNo) : (s.joinWaitList l).still = s.still := by
  simp [State.joinWaitList]

@[simp] theorem State.needReady_still (l : LineNo) : (s.needReady l).still = s.still := by
  unfold State.needReady; split <;> split <;> simp

@[simp] theorem State.stepDown_still (l : LineNo) : (s.stepDown l).still = s.still := by
  unfold State.stepDown; dsimp only; split <;> simp

@[simp] theorem State.yieldPower_still (l : LineNo) : (s.yieldPower l).still = s.still := by
  unfold State.yieldPower; split <;> simp

@[simp] theorem State.reserveLine_still (l : LineNo) : (s.reserveLine l).still = s.still := by
  unfold State.reserveLine; split
  · simp
  · split <;> simp

@[simp] theorem State.normalLine_still (l : LineNo) : (s.normalLine l).still = s.still := by
  unfold State.normalLine; split <;> simp

@[simp] theorem State.beginLend_still (l : LineNo) : (s.beginLend l).still = s.still := by
  simp [State.beginLend]

@[simp] theorem State.endLend_still (l : LineNo) : (s.endLend l).still = s.still := by
  simp [State.endLend]

@[simp] theorem State.setClassOcc_still (l : LineNo) (o : ClassOcc) : (s.setClassOcc l o).still = s.still := by
  unfold State.setClassOcc; dsimp only; split <;> simp

@[simp] theorem State.lineDownReports_still (l : LineNo) (r : ClassReport) :
    (s.lineDownReports l r).still = s.still := by
  unfold State.lineDownReports; split
  · simp
  · split <;> simp

@[simp] theorem State.toneHeard_still (l : LineNo) : (s.toneHeard l).still = s.still := by
  simp [State.toneHeard]

@[simp] theorem State.countNoTone_still (l : LineNo) : (s.countNoTone l).still = s.still := by
  unfold State.countNoTone; dsimp only; split
  · rfl
  · split <;> simp

@[simp] theorem State.probeResult_still (l : LineNo) (x : Option CallResult) :
    (s.probeResult l x).still = s.still := by
  unfold State.probeResult; split <;> simp

@[simp] theorem State.lineResult_still (l : LineNo) (p : Purpose) (x : Option CallResult) :
    (s.lineResult l p x).still = s.still := by
  unfold State.lineResult; split
  · simp
  · split <;> simp

@[simp] theorem State.lineOff_still (l : LineNo) : (s.lineOff l).still = s.still := by
  simp [State.lineOff]

@[simp] theorem State.lineOn_still (l : LineNo) : (s.lineOn l).still = s.still := by
  unfold State.lineOn; dsimp only; split <;> simp

@[simp] theorem State.enabledChanged_still (l : LineNo) (b : Bool) : (s.enabledChanged l b).still = s.still := by
  unfold State.enabledChanged; dsimp only; split
  · split <;> simp
  · split
    · simp
    · split <;> simp

@[simp] theorem State.grant_still (l : LineNo) (b : Bool) : (s.grant l b).still = s.still := by
  simp [State.grant]

@[simp] theorem State.handBack_still (l : LineNo) (p : Purpose) (x : Option CallResult) :
    (s.handBack l p x).still = s.still := by
  unfold State.handBack; dsimp only; split
  · simp
  · split <;> simp

end lines

section calls
variable (s : State)

@[simp] theorem State.endContext_still (l : LineNo) (c : Call) (x : Option CallResult) :
    (s.endContext l c x).still = s.still := by
  unfold State.endContext; dsimp only; split <;> split <;> simp

@[simp] theorem State.releaseCall_still (l : LineNo) (c : Call) (x : CallResult) :
    (s.releaseCall l c x).still = s.still := by
  simp [State.releaseCall]

@[simp] theorem State.giveResult_still (l : LineNo) (x : CallResult) : (s.giveResult l x).still = s.still := by
  unfold State.giveResult; split
  · rfl
  · split <;> simp

@[simp] theorem State.dropCall_still (l : LineNo) : (s.dropCall l).still = s.still := by
  unfold State.dropCall; split <;> simp

@[simp] theorem State.enterDialtone_still (l : LineNo) : (s.enterDialtone l).still = s.still := by
  simp [State.enterDialtone]

@[simp] theorem State.takeLine_still (l : LineNo) : (s.takeLine l).still = s.still := by
  unfold State.takeLine; dsimp only; split <;> simp

@[simp] theorem State.startCall_still (l : LineNo) (c : Call) : (s.startCall l c).still = s.still := by
  unfold State.startCall; dsimp only; split
  · simp
  · split <;> simp

@[simp] theorem State.sendFailed_still (l : LineNo) (c : Call) : (s.sendFailed l c).still = s.still := by
  unfold State.sendFailed; split <;> simp

@[simp] theorem State.acceptBlock_still (l : LineNo) (c : Call) (e : RxNo) :
    (s.acceptBlock l c e).still = s.still := by
  unfold State.acceptBlock; dsimp only; split
  · simp
  · split <;> simp

@[simp] theorem State.replyEnd_still (l : LineNo) (c : Call) (o : Nat) (b : Band) (ms onset : Nat) :
    (s.replyEnd l c o b ms onset).still = s.still := by
  unfold State.replyEnd; split
  · split <;> simp
  · split
    · simp
    · split <;> simp

@[simp] theorem State.toneReport_still (l : LineNo) (r : ToneReport) : (s.toneReport l r).still = s.still := by
  unfold State.toneReport; split
  · rfl
  · split
    · dsimp only; split
      · split <;> simp
      · simp
    · dsimp only; split
      · simp
      · split <;> simp
      · simp
      · simp

@[simp] theorem State.mute_still (l : LineNo) : (s.mute l).still = s.still := by
  unfold State.mute; dsimp only; split <;> simp

@[simp] theorem State.unmute_still (l : LineNo) : (s.unmute l).still = s.still := by simp [State.unmute]

@[simp] theorem State.enterRingWait_still (l : LineNo) : (s.enterRingWait l).still = s.still := by
  simp [State.enterRingWait]

@[simp] theorem State.beginSymbols_still (l : LineNo) (ds : List Nat) :
    ∀ s : State, (State.beginSymbols l ds s).still = s.still := by
  induction ds with
  | nil => intro s; simp [State.beginSymbols]
  | cons d ds ih =>
    intro s; unfold State.beginSymbols; dsimp only; split
    · split
      · rw [ih]; simp
      · simp
    · split <;> simp

@[simp] theorem State.advanceDial_still (l : LineNo) : (s.advanceDial l).still = s.still := by
  unfold State.advanceDial; split <;> simp

@[simp] theorem State.beginDialling_still (l : LineNo) (e : RxNo) : (s.beginDialling l e).still = s.still := by
  unfold State.beginDialling; dsimp only; split <;> simp

@[simp] theorem State.beginSend_still (l : LineNo) (n : Nat) : (s.beginSend l n).still = s.still := by
  simp [State.beginSend]

@[simp] theorem State.nextBlockSymbol_still (l : LineNo) (n : Nat) : (s.nextBlockSymbol l n).still = s.still := by
  unfold State.nextBlockSymbol; split <;> simp

@[simp] theorem State.flagSet_still (l : LineNo) : (s.flagSet l).still = s.still := by
  unfold State.flagSet; split
  · rfl
  · split <;> simp

@[simp] theorem State.callClass_still (l : LineNo) (x : LoopClass) : (s.callClass l x).still = s.still := by
  unfold State.callClass; split
  · rfl
  · split <;> simp

@[simp] theorem State.callPolarity_still (l : LineNo) : (s.callPolarity l).still = s.still := by
  unfold State.callPolarity; split
  · rfl
  · split <;> simp

@[simp] theorem State.prepareChange_still (l : LineNo) : (s.prepareChange l).still = s.still := by
  unfold State.prepareChange; split
  · rfl
  · split
    · split <;> simp
    · rfl

@[simp] theorem State.classReport_still (l : LineNo) (r : ClassReport) : (s.classReport l r).still = s.still := by
  unfold State.classReport; dsimp only; split <;> simp

@[simp] theorem State.ringOffReport_still (l : LineNo) (x : LoopClass) : (s.ringOffReport l x).still = s.still := by
  unfold State.ringOffReport; split <;> simp

end calls

end Sys2Proof.Machine
end

