-- ==== Sys2Proof/Laws/KeptActs.lean ====
section
/-! SUPPORT. What the Input Monitor's operations, the exit from SERVICE and the acts of the Dispatcher leave unchanged. -/

namespace Sys2Proof.Machine

/-! ### Routes -/

section routes
variable (s : State)

@[simp] theorem State.reportRoute_calm (r : RouteNo) : (s.reportRoute r).calm = s.calm := by
  unfold State.reportRoute; split <;> simp

@[simp] theorem State.reportRoutes_calm : s.reportRoutes.calm = s.calm :=
  foldl_view State.calm _ State.reportRoute_calm _ s

/-- The base, mode, hold, channels and the Dispatcher's state: what an evaluation of the routes keeps. -/
def State.unrouted (s : State) : Base × Mode × Hold × Vector InputChannel 8 × Dispatcher :=
  (s.base, s.mode, s.hold, s.channels, s.dispatcher)

theorem unrouted_of_still {s t : State} (h : t.still = s.still) : t.unrouted = s.unrouted := by
  simp only [State.still, Still.mk.injEq] at h
  simp only [State.unrouted, h]

@[simp] theorem State.evaluateRoutes_unrouted : s.evaluateRoutes.unrouted = s.unrouted := by
  unfold State.evaluateRoutes
  rw [unrouted_of_still (still_of_calm (State.reportRoutes_calm _))]; rfl

end routes

/-! ### Input Monitor -/

/-- What the Input Monitor's operations leave unchanged: base, mode, hold, routes and the Dispatcher's state. -/
def State.gated (s : State) : Base × Mode × Hold × Vector RouteEval 8 × Dispatcher :=
  (s.base, s.mode, s.hold, s.routes, s.dispatcher)

theorem gated_of_still {s t : State} (h : t.still = s.still) : t.gated = s.gated := by
  simp only [State.still, Still.mk.injEq] at h
  simp only [State.gated, h]

theorem channels_of_still {s t : State} (h : t.still = s.still) : t.channels = s.channels :=
  congrArg Still.channels h

theorem readings_of_still {s t : State} (h : t.still = s.still) : t.readings = s.readings := by
  funext c; simp only [State.readings, State.channel_congr (channels_of_still h)]

section inputs
variable (s : State)

@[simp] theorem State.report_gated (rep : Report) : (s.report rep).gated = s.gated := gated_of_still (by simp)
@[simp] theorem State.report_channels (rep : Report) : (s.report rep).channels = s.channels :=
  channels_of_still (by simp)
@[simp] theorem State.report_channel (rep : Report) (c : ChannelNo) : (s.report rep).channel c = s.channel c :=
  State.channel_congr (by simp) c
@[simp] theorem State.report_readings (rep : Report) : (s.report rep).readings = s.readings :=
  readings_of_still (by simp)
@[simp] theorem State.setChannel_gated (c : ChannelNo) (x : InputChannel) : (s.setChannel c x).gated = s.gated := rfl
@[simp] theorem State.faultActive_gated (k : FaultKind) (i : Nat) : (s.faultActive k i).gated = s.gated :=
  gated_of_still (by simp)
@[simp] theorem State.faultCleared_gated (k : FaultKind) (i : Nat) : (s.faultCleared k i).gated = s.gated :=
  gated_of_still (by simp)
@[simp] theorem State.faultActive_readings (k : FaultKind) (i : Nat) : (s.faultActive k i).readings = s.readings :=
  readings_of_still (by simp)
@[simp] theorem State.faultCleared_readings (k : FaultKind) (i : Nat) :
    (s.faultCleared k i).readings = s.readings := readings_of_still (by simp)
@[simp] theorem State.notice_gated (n : Notice) : (s.notice n).gated = s.gated := gated_of_still (by simp)
@[simp] theorem State.notice_channel (n : Notice) (c : ChannelNo) : (s.notice n).channel c = s.channel c :=
  State.channel_congr (by simp) c

theorem State.setChannel_readings (c : ChannelNo) (x : InputChannel) (h : x.readings = (s.channel c).readings) :
    (s.setChannel c x).readings = s.readings := by
  funext k; simp only [State.readings, State.setChannel_channel]; split
  · next e => subst e; exact h
  · rfl

@[simp] theorem State.reports_gated (rs : List Report) : (rs.foldl State.report s).gated = s.gated :=
  foldl_view State.gated _ State.report_gated rs s

@[simp] theorem State.reports_channels (rs : List Report) : (rs.foldl State.report s).channels = s.channels :=
  foldl_view (fun s => s.channels) _ State.report_channels rs s

@[simp] theorem State.reports_readings (rs : List Report) : (rs.foldl State.report s).readings = s.readings :=
  foldl_view State.readings _ State.report_readings rs s

@[simp] theorem State.reconcileWiring_gated (c : ChannelNo) : (s.reconcileWiring c).gated = s.gated := by
  unfold State.reconcileWiring; split
  · rfl
  · dsimp only; split <;> simp

@[simp] theorem State.reconcileWiring_readings (c : ChannelNo) : (s.reconcileWiring c).readings = s.readings := by
  unfold State.reconcileWiring; split
  · rfl
  · dsimp only; split <;> simp <;> exact State.setChannel_readings _ _ _ rfl

@[simp] theorem State.reconcileAlarm_gated (c : ChannelNo) : (s.reconcileAlarm c).gated = s.gated := by
  unfold State.reconcileAlarm; dsimp only; split
  · simp
  · split <;> simp
  · rfl

@[simp] theorem State.reconcileAlarm_readings (c : ChannelNo) : (s.reconcileAlarm c).readings = s.readings := by
  unfold State.reconcileAlarm; dsimp only; split
  · simp; exact State.setChannel_readings _ _ _ rfl
  · split
    · simp; exact State.setChannel_readings _ _ _ rfl
    · exact State.setChannel_readings _ _ _ rfl
  · rfl

@[simp] theorem State.reconcile_gated (c : ChannelNo) : (s.reconcile c).gated = s.gated := by simp [State.reconcile]

@[simp] theorem State.reconcile_readings (c : ChannelNo) : (s.reconcile c).readings = s.readings := by
  simp [State.reconcile]

@[simp] theorem State.setForce_gated (c : ChannelNo) (f : Force) : (s.setForce c f).gated = s.gated := by
  unfold State.setForce; dsimp only; split
  · rfl
  · split <;> split <;> (try split) <;> simp

@[simp] theorem State.setForce_readings (c : ChannelNo) (f : Force) : (s.setForce c f).readings = s.readings := by
  unfold State.setForce; dsimp only; split
  · rfl
  · have h : (s.setChannel c { s.channel c with force := f }).readings = s.readings :=
      State.setChannel_readings _ _ _ rfl
    split <;> split <;> (try split) <;> simp [h]

@[simp] theorem State.releaseAll_gated : s.releaseAll.gated = s.gated :=
  foldl_view State.gated _ (fun s c => State.setForce_gated s c .none) _ s

@[simp] theorem State.releaseAll_readings : s.releaseAll.readings = s.readings :=
  foldl_view State.readings _ (fun s c => State.setForce_readings s c .none) _ s

@[simp] theorem State.interlock_gated (c : ChannelNo) : (s.interlock c).gated = s.gated := by
  unfold State.interlock; split <;> simp

@[simp] theorem State.interlock_readings (c : ChannelNo) : (s.interlock c).readings = s.readings := by
  unfold State.interlock; split <;> simp

@[simp] theorem State.inputReading_gated (c : ChannelNo) (n : Nat) : (s.inputReading c n).gated = s.gated := by
  unfold State.inputReading; dsimp only; split
  · split <;> simp
  · simp

@[simp] theorem State.isolateChannel_gated (c : ChannelNo) : (s.isolateChannel c).gated = s.gated := by
  unfold State.isolateChannel; dsimp only; split <;> simp

@[simp] theorem State.deIsolateChannel_gated (c : ChannelNo) : (s.deIsolateChannel c).gated = s.gated := by
  simp [State.deIsolateChannel]

@[simp] theorem State.unlatchChannel_gated (c : ChannelNo) : (s.unlatchChannel c).gated = s.gated := by
  unfold State.unlatchChannel; dsimp only; split <;> simp

end inputs

/-! ### Acts of the Dispatcher -/

theorem steady_of_still {s t : State} (h : t.still = s.still) (hq : t.queue = s.queue)
    (ht : t.holdTimer = s.holdTimer) : t.steady = s.steady := by
  simp only [State.still, Still.mk.injEq] at h
  simp only [State.steady, h, hq, ht]

theorem base_of_steady {s t : State} (h : t.steady = s.steady) : t.base = s.base := congrArg Steady.base h

section acts
variable (s : State)

@[simp] theorem State.setCtl_steady (l : LineNo) (x : LineCtl) : (s.setCtl l x).steady = s.steady :=
  steady_of_still (by simp) rfl rfl
@[simp] theorem State.setSense_steady (l : LineNo) (x : Sense) : (s.setSense l x).steady = s.steady :=
  steady_of_still (by simp) rfl rfl
@[simp] theorem State.setDetector_steady (l : LineNo) (x : Detector) : (s.setDetector l x).steady = s.steady :=
  steady_of_still (by simp) rfl rfl
@[simp] theorem State.setIface_steady (l : LineNo) (x : Iface) : (s.setIface l x).steady = s.steady :=
  steady_of_still (by simp) rfl rfl
@[simp] theorem State.setCall_steady (l : LineNo) (x : Option Call) : (s.setCall l x).steady = s.steady :=
  steady_of_still (by simp) rfl rfl
@[simp] theorem State.modCall_steady (l : LineNo) (f : Call → Call) : (s.modCall l f).steady = s.steady :=
  steady_of_still (by simp) rfl rfl
@[simp] theorem State.enterState_steady (l : LineNo) (c : CallState) (ms : Nat) :
    (s.enterState l c ms).steady = s.steady := steady_of_still (by simp) rfl rfl
@[simp] theorem State.setRx_steady (e : RxNo) (x : RxStatus) : (s.setRx e x).steady = s.steady := rfl
@[simp] theorem State.setDispatcher_steady (d : Dispatcher) : (s.setDispatcher d).steady = s.steady := rfl
@[simp] theorem State.setWaitList_steady (x : List LineNo) : (s.setWaitList x).steady = s.steady := rfl
@[simp] theorem State.setRotation_steady (x : Nat) : (s.setRotation x).steady = s.steady := rfl
@[simp] theorem State.tell_steady : s.tell.steady = s.steady := rfl
@[simp] theorem State.setWork_steady (w : Work) : (s.setWork w).steady = s.steady := rfl
@[simp] theorem State.notice_steady (n : Notice) : (s.notice n).steady = s.steady :=
  steady_of_still (by simp) (by simp) (by simp)

@[simp] theorem State.faultCleared_steady (k : FaultKind) (i : Nat) : (s.faultCleared k i).steady = s.steady := by
  unfold State.faultCleared; split
  · rfl
  · split
    · rw [State.notice_steady]; rfl
    · rfl

@[simp] theorem State.lineNotice_steady (l : LineNo) : (s.lineNotice l).steady = s.steady := by
  simp [State.lineNotice]

@[simp] theorem State.recompute_steady (l : LineNo) : (s.recompute l).steady = s.steady := by
  unfold State.recompute; dsimp only; split <;> simp

@[simp] theorem State.startPromotion_steady (l : LineNo) : (s.startPromotion l).steady = s.steady := by
  simp [State.startPromotion]

@[simp] theorem State.startNext_steady : s.startNext.steady = s.steady := by
  unfold State.startNext; split
  · rfl
  · split <;> simp

@[simp] theorem State.needReady_steady (l : LineNo) : (s.needReady l).steady = s.steady := by
  unfold State.needReady; split <;> split <;> simp [State.joinWaitList]

@[simp] theorem State.stepDown_steady (l : LineNo) : (s.stepDown l).steady = s.steady := by
  unfold State.stepDown; dsimp only; split <;> simp

@[simp] theorem State.yieldPower_steady (l : LineNo) : (s.yieldPower l).steady = s.steady := by
  unfold State.yieldPower; split <;> simp

@[simp] theorem State.beginLend_steady (l : LineNo) : (s.beginLend l).steady = s.steady := by simp [State.beginLend]

@[simp] theorem State.endLend_steady (l : LineNo) : (s.endLend l).steady = s.steady := by simp [State.endLend]

@[simp] theorem State.lineOff_steady (l : LineNo) : (s.lineOff l).steady = s.steady := by simp [State.lineOff]

@[simp] theorem State.grant_steady (l : LineNo) (b : Bool) : (s.grant l b).steady = s.steady := by
  simp [State.grant]

@[simp] theorem State.giveBack_steady (l : LineNo) : (s.giveBack l).steady = s.steady := by simp [State.giveBack]

theorem State.handBack_steady (l : LineNo) : (s.handBack l .report (some .cutShort)).steady = s.steady := by
  have h : s.lineResult l .report (some .cutShort) = s := by simp [State.lineResult]
  unfold State.handBack; dsimp only; rw [h]; split
  · simp
  · split <;> simp

theorem State.endContext_steady (l : LineNo) (c : Call) (h : c.purpose = .report) :
    (s.endContext l c (some .cutShort)).steady = s.steady := by
  unfold State.endContext; dsimp only; rw [h]
  split <;> simp [State.receiverResult, CallResult.receiverCaused, State.handBack_steady]

@[simp] theorem State.enterDialtone_steady (l : LineNo) : (s.enterDialtone l).steady = s.steady := by
  simp [State.enterDialtone]

@[simp] theorem State.takeLine_steady (l : LineNo) : (s.takeLine l).steady = s.steady := by
  unfold State.takeLine; dsimp only; split <;> simp

theorem State.setCall_call (l : LineNo) (x : Option Call) : (s.setCall l x).call l = x := by
  simp [State.call, State.setCall_line]

theorem State.startCall_steady (l : LineNo) (e : Option RxNo) (b : Bool) :
    (s.startCall l (Call.create .report e b)).steady = s.steady := by
  unfold State.startCall; dsimp only; split
  · simp [State.giveResult, State.setCall_call, Call.create, Call.resultOf, State.endContext_steady]
  · split <;> simp

theorem State.makeCalling_steady {t : State} (e : RxNo) (h : s.makeCalling e = some t) : t.steady = s.steady := by
  unfold State.makeCalling at h; split at h
  · cases h; rfl
  · cases h

@[simp] theorem State.passFuel_steady (n : Nat) : ∀ s : State, (State.passFuel n s).steady = s.steady := by
  induction n with
  | zero => intro s; rfl
  | succ n ih =>
    intro s; unfold State.passFuel; split
    · rfl
    · split
      · rfl
      · dsimp only; split
        · next hm => rw [ih, State.startCall_steady, State.makeCalling_steady _ _ hm, State.grant_steady]
        · rw [ih]; simp

@[simp] theorem State.evaluateUrgent_steady : s.evaluateUrgent.steady = s.steady := by
  unfold State.evaluateUrgent; dsimp only; split <;> simp

@[simp] theorem State.settleFireTimer_steady : s.settleFireTimer.steady = s.steady := by
  unfold State.settleFireTimer; dsimp only; split <;> simp

@[simp] theorem State.settleHeld_steady : s.settleHeld.steady = s.steady := by simp [State.settleHeld]

/-- An act of the Dispatcher changes lines, the rotation counter, the waiting list, receivers, its own state, notices and the fault list only (R99). -/
@[simp] theorem State.act_steady : s.act.steady = s.steady := by
  unfold State.act; dsimp only; split <;> simp [State.pass]

@[simp] theorem State.graceReclaim_steady : s.graceReclaim.steady = s.steady := by
  unfold State.graceReclaim; dsimp only; split <;> simp

@[simp] theorem State.actFuel_steady (n : Nat) : ∀ s : State, (State.actFuel n s).steady = s.steady := by
  induction n with
  | zero => intro s; rfl
  | succ n ih =>
    intro s; unfold State.actFuel; split
    · rw [ih]; simp
    · split
      · rw [ih]; simp
      · rfl

/-! ### The gate, the exit from SERVICE and the end of a command -/

@[simp] theorem State.openGate_base : s.openGate.base = s.base := by
  unfold State.openGate; dsimp only; split <;> rfl

@[simp] theorem State.closeGate_base : s.closeGate.base = s.base := rfl

@[simp] theorem State.settleGate_base : s.settleGate.base = s.base := by
  unfold State.settleGate; dsimp only; split
  · rfl
  · split <;> simp

theorem base_of_unrouted {s t : State} (h : t.unrouted = s.unrouted) : t.base = s.base := congrArg Prod.fst h

theorem base_of_gated {s t : State} (h : t.gated = s.gated) : t.base = s.base := congrArg Prod.fst h

@[simp] theorem State.notice_base (n : Notice) : (s.notice n).base = s.base := base_of_still (by simp)
@[simp] theorem State.reexamine_base : s.reexamine.base = s.base := base_of_still (by simp)
@[simp] theorem State.rebuild_base : s.rebuild.base = s.base := base_of_still (by simp)
@[simp] theorem State.evaluateRoutes_base : s.evaluateRoutes.base = s.base := base_of_unrouted (by simp)
@[simp] theorem State.releaseAll_base : s.releaseAll.base = s.base := base_of_gated (by simp)
@[simp] theorem State.drain_base : s.drain.base = s.base := base_of_still (by simp)
@[simp] theorem State.actFuel_base (n : Nat) : (State.actFuel n s).base = s.base := base_of_steady (by simp)
@[simp] theorem State.setMode_base (m : Mode) : (s.setMode m).base = s.base := rfl
@[simp] theorem State.setWork_base (w : Work) : (s.setWork w).base = s.base := rfl

@[simp] theorem State.serviceExit_base (c : ModeCause) : (s.serviceExit c).base = s.base := by
  simp [State.serviceExit]

@[simp] theorem State.settleExit_base : s.settleExit.base = s.base := by
  unfold State.settleExit; dsimp only; split <;> simp

/-- The end of a command's work leaves the base unchanged: clock, pins, tables, store, SAVE, supply, waiting commands, the link's receiving side. -/
@[simp] theorem State.settle_base : s.settle.base = s.base := by simp [State.settle]

@[simp] theorem State.settle_work : s.settle.work = Work.idle := rfl

end acts

end Sys2Proof.Machine
end

