-- ==== Sys2Proof/Laws/Acts.lean ====
section
/-! SUPPORT. What the acts of the Dispatcher do to one line and to one receiver: a line with no lend pending keeps its core, a line in CALL is left alone, a receiver keeps its failures, and one that is not READY keeps its status. -/

namespace Sys2Proof.Machine

/-! ### A relation between the state before and after, kept by every part of an act -/

/-- A line with no lend pending keeps its core and stays without one. -/
def CoreKept (l : LineNo) (s t : State) : Prop :=
  (s.ctl l).lend ≠ .pending → (t.line l).core = (s.line l).core ∧ (t.ctl l).lend ≠ .pending

/-- A line in CALL that is not LENT stays as it is, but for its promotion. -/
def CallKept (l : LineNo) (s t : State) : Prop :=
  (s.ctl l).occupancy = .call → (s.ctl l).lend ≠ .lent → (t.line l).parked = (s.line l).parked

/-- A receiver keeps its failure count; one that is not READY keeps its status; one that is READY with no due time is READY or CALLING with none. -/
def RxKept (e : RxNo) (s t : State) : Prop :=
  (t.rx e).failures = (s.rx e).failures ∧ ((s.rx e).state ≠ .ready → t.rx e = s.rx e) ∧
    ((s.rx e).state = .ready → (s.rx e).due = none →
      (t.rx e).due = none ∧ ((t.rx e).state = .ready ∨ (t.rx e).state = .calling))

theorem CoreKept.refl (l : LineNo) (s : State) : CoreKept l s s := fun h => ⟨rfl, h⟩

theorem CoreKept.trans {l : LineNo} {s t u : State} (h : CoreKept l s t) (g : CoreKept l t u) : CoreKept l s u :=
  fun p => ⟨(g (h p).2).1.trans (h p).1, (g (h p).2).2⟩

theorem CallKept.refl (l : LineNo) (s : State) : CallKept l s s := fun _ _ => rfl

theorem parked_ctl {x y : Line} (h : x.parked = y.parked) :
    x.ctl.occupancy = y.ctl.occupancy ∧ x.ctl.lend = y.ctl.lend := by
  simp only [Line.parked, Line.mk.injEq, LineCtl.mk.injEq] at h; tauto

theorem CallKept.trans {l : LineNo} {s t u : State} (h : CallKept l s t) (g : CallKept l t u) : CallKept l s u :=
  fun p q => by
    have e := parked_ctl (h p q)
    exact (g (e.1.trans p) (fun x => q (e.2.symm.trans x))).trans (h p q)

theorem RxKept.refl (e : RxNo) (s : State) : RxKept e s s := ⟨rfl, fun _ => rfl, fun p q => ⟨q, .inl p⟩⟩

/-- A line that an update does not touch. -/
theorem CoreKept.of_line {l : LineNo} {s t : State} (h : t.line l = s.line l) : CoreKept l s t := by
  intro p; simp only [State.ctl, h] at *; exact ⟨trivial, p⟩

theorem CallKept.of_line {l : LineNo} {s t : State} (h : t.line l = s.line l) : CallKept l s t := by
  intro _ _; rw [h]

theorem CoreKept.of_lines {l : LineNo} {s t : State} (h : t.lines = s.lines) : CoreKept l s t :=
  .of_line (State.line_congr h l)

theorem CallKept.of_lines {l : LineNo} {s t : State} (h : t.lines = s.lines) : CallKept l s t :=
  .of_line (State.line_congr h l)

section lines
variable (s : State)

@[simp] theorem State.faultCleared_lines (k : FaultKind) (i : Nat) : (s.faultCleared k i).lines = s.lines := by
  unfold State.faultCleared; split
  · rfl
  · split <;> simp

@[simp] theorem State.faultCleared_receivers (k : FaultKind) (i : Nat) :
    (s.faultCleared k i).receivers = s.receivers := by
  unfold State.faultCleared; split
  · rfl
  · split <;> simp

/-- A recomputation changes the occupancy at most, and only of its own line. -/
theorem State.recompute_line (l k : LineNo) :
    (s.recompute l).line k =
      if l = k then { s.line l with ctl := { s.ctl l with occupancy := s.occupancyNow l } } else s.line k := by
  unfold State.recompute; dsimp only; split
  · next h =>
    split
    · next e => subst e; rw [h]; rfl
    · rfl
  · have h : ∀ t : State, (t.lineNotice l).tell.line k = t.line k := fun t =>
      State.line_congr (by simp [State.lineNotice]) k
    rw [h, State.setCtl_line]

theorem State.recompute_line_ne {l k : LineNo} (h : l ≠ k) : (s.recompute l).line k = s.line k := by
  rw [State.recompute_line]; simp [h]

@[simp] theorem State.recompute_ctl_same (l : LineNo) :
    (s.recompute l).ctl l = { s.ctl l with occupancy := s.occupancyNow l } := by
  simp [State.ctl, State.recompute_line]

@[simp] theorem State.recompute_receivers (l : LineNo) : (s.recompute l).receivers = s.receivers := by
  unfold State.recompute; dsimp only; split <;> simp [State.lineNotice]

/-- A recomputation keeps every core. -/
theorem State.recompute_core (l k : LineNo) : CoreKept k s (s.recompute l) := by
  intro h; simp only [State.ctl, State.recompute_line]; split
  · next e => subst e; exact ⟨rfl, h⟩
  · exact ⟨rfl, h⟩

end lines


/-! ### The other lines -/

/-- Every line but one, each but for its promotion. -/
def State.others (l : LineNo) (s : State) : LineNo → Option Line :=
  fun k => if k = l then none else some (s.line k).parked

theorem others_of_parked {s t : State} (l : LineNo) (h : ∀ k, (t.line k).parked = (s.line k).parked) :
    t.others l = s.others l := by
  funext k; simp only [State.others, h]

theorem others_of_lines {s t : State} (l : LineNo) (h : t.lines = s.lines) : t.others l = s.others l :=
  others_of_parked l fun k => by rw [State.line_congr h]

theorem parked_of_others {l k : LineNo} {s t : State} (h : t.others l = s.others l) (n : k ≠ l) :
    (t.line k).parked = (s.line k).parked := by
  have := congrFun h k; simpa [State.others, n] using this

theorem core_of_parked {x y : Line} (h : x.parked = y.parked) : x.core = y.core := by
  simp only [Line.parked, Line.mk.injEq, LineCtl.mk.injEq] at h
  simp only [Line.core, LineCore.mk.injEq]; tauto

/-- An operation on one line keeps the core of every other, and leaves another in CALL alone. -/
theorem CoreKept.of_others {l k : LineNo} {s t : State} (h : t.others l = s.others l) (n : k ≠ l) : CoreKept k s t :=
  fun p => ⟨core_of_parked (parked_of_others h n), by
    have := (parked_ctl (parked_of_others h n)).2; simp only [State.ctl] at p ⊢; rw [this]; exact p⟩

theorem CallKept.of_others {l k : LineNo} {s t : State} (h : t.others l = s.others l) (n : k ≠ l) : CallKept k s t :=
  fun _ _ => parked_of_others h n

section others
variable (s : State) (l : LineNo)

@[simp] theorem State.setLine_others (x : Line) : (s.setLine l x).others l = s.others l := by
  funext k; simp only [State.others, State.setLine_line]; split
  · rfl
  · next n => rw [if_neg (Ne.symm n)]

@[simp] theorem State.setCtl_others (x : LineCtl) : (s.setCtl l x).others l = s.others l := State.setLine_others ..
@[simp] theorem State.setSense_others (x : Sense) : (s.setSense l x).others l = s.others l := State.setLine_others ..
@[simp] theorem State.setDetector_others (x : Detector) : (s.setDetector l x).others l = s.others l :=
  State.setLine_others ..
@[simp] theorem State.setIface_others (x : Iface) : (s.setIface l x).others l = s.others l := State.setLine_others ..
@[simp] theorem State.setCall_others (x : Option Call) : (s.setCall l x).others l = s.others l :=
  State.setLine_others ..
@[simp] theorem State.setSlots_others (x y : Slot) : (s.setSlots l x y).others l = s.others l :=
  State.setLine_others ..
@[simp] theorem State.modCall_others (f : Call → Call) : (s.modCall l f).others l = s.others l :=
  State.setCall_others ..
@[simp] theorem State.enterState_others (c : CallState) (ms : Nat) : (s.enterState l c ms).others l = s.others l :=
  State.modCall_others ..
@[simp] theorem State.notice_others (n : Notice) : (s.notice n).others l = s.others l := others_of_lines l (by simp)
@[simp] theorem State.setWaitList_others (x : List LineNo) : (s.setWaitList x).others l = s.others l :=
  others_of_lines l rfl
@[simp] theorem State.setRotation_others (x : Nat) : (s.setRotation x).others l = s.others l := others_of_lines l rfl
@[simp] theorem State.setWork_others (x : Work) : (s.setWork x).others l = s.others l := others_of_lines l rfl
@[simp] theorem State.setRx_others (e : RxNo) (x : RxStatus) : (s.setRx e x).others l = s.others l :=
  others_of_lines l rfl
@[simp] theorem State.tell_others : s.tell.others l = s.others l := others_of_lines l rfl
@[simp] theorem State.faultCleared_others (k : FaultKind) (i : Nat) : (s.faultCleared k i).others l = s.others l :=
  others_of_lines l (by simp)

@[simp] theorem State.recompute_others : (s.recompute l).others l = s.others l := by
  funext k; simp only [State.others, State.recompute_line]; split
  · rfl
  · next n => rw [if_neg (Ne.symm n)]

/-- The start of a promotion is seen in no parked line. -/
theorem State.startPromotion_parked (k : LineNo) : ((s.startPromotion l).line k).parked = (s.line k).parked := by
  simp only [State.startPromotion, State.setCtl_line]; split
  · next e => subst e; rfl
  · rfl

theorem State.startNext_parked (k : LineNo) : (s.startNext.line k).parked = (s.line k).parked := by
  unfold State.startNext; split
  · rfl
  · split
    · rfl
    · rw [State.startPromotion_parked]; rfl

@[simp] theorem State.startPromotion_others : (s.startPromotion l).others l = s.others l :=
  others_of_parked l (s.startPromotion_parked l)
@[simp] theorem State.startNext_others : s.startNext.others l = s.others l := others_of_parked l s.startNext_parked
@[simp] theorem State.joinWaitList_others : (s.joinWaitList l).others l = s.others l := by simp [State.joinWaitList]

@[simp] theorem State.needReady_others : (s.needReady l).others l = s.others l := by
  unfold State.needReady; split <;> split <;> simp

@[simp] theorem State.stepDown_others : (s.stepDown l).others l = s.others l := by
  unfold State.stepDown; dsimp only; split <;> simp

@[simp] theorem State.yieldPower_others : (s.yieldPower l).others l = s.others l := by
  unfold State.yieldPower; split <;> simp

@[simp] theorem State.beginLend_others : (s.beginLend l).others l = s.others l := by simp [State.beginLend]
@[simp] theorem State.endLend_others : (s.endLend l).others l = s.others l := by simp [State.endLend]
@[simp] theorem State.lineOff_others : (s.lineOff l).others l = s.others l := by simp [State.lineOff]
@[simp] theorem State.grant_others (b : Bool) : (s.grant l b).others l = s.others l := by simp [State.grant]
@[simp] theorem State.giveBack_others : (s.giveBack l).others l = s.others l := by simp [State.giveBack]

/-- A hand-back of a REPORT call that was never made touches its own line only. -/
theorem State.handBack_others (x : Option CallResult) (h : x ≠ some .noDialTone) (g : x ≠ some .noSecondTone) :
    (s.handBack l .report x).others l = s.others l := by
  unfold State.handBack; dsimp only
  have e : s.lineResult l .report x = s := by simp [State.lineResult, h, g]
  rw [e]; split
  · simp
  · split <;> simp

@[simp] theorem State.enterDialtone_others : (s.enterDialtone l).others l = s.others l := by
  simp [State.enterDialtone]

@[simp] theorem State.takeLine_others : (s.takeLine l).others l = s.others l := by
  unfold State.takeLine; dsimp only; split <;> simp

theorem State.startCall_others (e : Option RxNo) (b : Bool) :
    (s.startCall l (Call.create .report e b)).others l = s.others l := by
  unfold State.startCall; dsimp only; split
  · simp only [State.giveResult, State.setCall_call, Call.create, Call.resultOf, State.endContext]
    split
    · simp [State.receiverResult, CallResult.receiverCaused, State.handBack_others]
    · simp [State.handBack_others]
  · split <;> simp

theorem State.makeCalling_lines {s t : State} (e : RxNo) (h : s.makeCalling e = some t) : t.lines = s.lines := by
  unfold State.makeCalling at h; split at h
  · cases h; rfl
  · cases h

end others


/-! ### The line itself -/

section own
variable (s : State) (l : LineNo)

/-- A new control state that agrees on all that the core shows keeps the core. -/
theorem State.setCtl_core (x : LineCtl)
    (h : (x.power, x.classOcc, x.fault, x.noTone, x.probeTimer, x.disablePending, x.lend)
      = ((s.ctl l).power, (s.ctl l).classOcc, (s.ctl l).fault, (s.ctl l).noTone, (s.ctl l).probeTimer,
        (s.ctl l).disablePending, (s.ctl l).lend)) : CoreKept l s (s.setCtl l x) := by
  simp only [Prod.mk.injEq] at h
  intro p
  simp only [State.ctl] at h p
  simp only [State.ctl, State.setCtl_line, if_true, Line.core, h]
  exact ⟨by simp, p⟩

theorem State.setLine_core (x : Line) (h : x.core = (s.line l).core) (g : x.ctl.lend = (s.ctl l).lend) :
    CoreKept l s (s.setLine l x) := by
  intro p; simp only [State.ctl, State.setLine_line, if_true] at *
  exact ⟨h, by rw [g]; exact p⟩

theorem State.setIface_core (x : Iface) : CoreKept l s (s.setIface l x) := State.setLine_core _ _ _ rfl rfl
theorem State.setDetector_core (x : Detector) : CoreKept l s (s.setDetector l x) := State.setLine_core _ _ _ rfl rfl
theorem State.setCall_core (x : Option Call) : CoreKept l s (s.setCall l x) := State.setLine_core _ _ _ rfl rfl
theorem State.modCall_core (f : Call → Call) : CoreKept l s (s.modCall l f) := State.setCall_core _ _ _
theorem State.enterState_core (c : CallState) (ms : Nat) : CoreKept l s (s.enterState l c ms) :=
  State.modCall_core _ _ _

theorem State.enterDialtone_core : CoreKept l s (s.enterDialtone l) :=
  (((State.setIface_core _ _ _).trans (State.setDetector_core _ _ _)).trans (State.enterState_core _ _ _ _))

theorem State.takeLine_core : CoreKept l s (s.takeLine l) := by
  unfold State.takeLine; dsimp only
  have h := (State.setIface_core s l { (s.line l).iface with relayOpen := true }).trans
    (State.modCall_core _ l fun c => { c with
      seizedAt := some s.clock
      limitTimer := match c.purpose with
        | .report => some (s.now + s.t1.callLimit * 1000)
        | .probe => none })
  split
  · exact h.trans (State.enterState_core _ _ _ _)
  · exact h.trans (State.enterDialtone_core _ _)

theorem State.startPromotion_core : CoreKept l s (s.startPromotion l) := State.setCtl_core _ _ _ rfl

theorem State.needReady_core : CoreKept l s (s.needReady l) := by
  unfold State.needReady; split <;> split
  · exact .refl _ _
  · exact State.startPromotion_core _ _
  · exact (State.setCtl_core s l { s.ctl l with promotion := .waiting } rfl).trans (.of_lines rfl)
  · exact State.startPromotion_core _ _

theorem State.startCall_core (c : Call) (h : c.lendPending = false) : CoreKept l s (s.startCall l c) := by
  unfold State.startCall; dsimp only
  rw [if_neg (by simp [h])]
  split
  · exact (State.setCall_core _ _ _).trans (State.takeLine_core _ _)
  · exact (State.setCall_core _ _ _).trans (State.needReady_core _ _)

/-- A grant keeps the lend state of its line. -/
theorem State.grant_lend (b : Bool) : ((s.grant l b).ctl l).lend = (s.ctl l).lend := by
  have h : (s.grant l b).ctl l = ((s.setCtl l { s.ctl l with grant := some (s.grantKind l b) }).recompute l).ctl l := rfl
  rw [h, State.recompute_ctl_same]; simp [State.ctl, State.setCtl_line]

theorem State.grant_core (b : Bool) : CoreKept l s (s.grant l b) :=
  ((State.setCtl_core s l { s.ctl l with grant := some (s.grantKind l b) } rfl).trans
    (State.recompute_core _ l l)).trans (.of_lines rfl)

theorem State.giveBack_core : CoreKept l s (s.giveBack l) :=
  ((State.setCtl_core s l { s.ctl l with grant := none } rfl).trans (State.recompute_core _ l l)).trans (.of_lines rfl)

/-- The end of a lend keeps the core, and leaves no lend. -/
theorem State.endLend_core : CoreKept l s (s.endLend l) := by
  have h : CoreKept l s (s.setCtl l { s.ctl l with lend := .none, lendIdle := none }) := by
    intro p; simp only [State.ctl, State.setCtl_line, if_true, Line.core]; simp
  exact (h.trans (State.recompute_core _ l l)).trans (.of_lines rfl)

end own

/-! ### The acts -/

/-- What an act may do to any line and receiver. -/
def ActKept (s t : State) : Prop := (∀ l, CoreKept l s t) ∧ (∀ l, CallKept l s t) ∧ ∀ e, RxKept e s t

theorem RxKept.trans {e : RxNo} {s t u : State} (h : RxKept e s t) (g : RxKept e t u) : RxKept e s u := by
  obtain ⟨h1, h2, h3⟩ := h
  obtain ⟨g1, g2, g3⟩ := g
  refine ⟨g1.trans h1, ?_, ?_⟩
  · intro p; have := h2 p; rw [g2 (by rw [this]; exact p), this]
  · intro p q
    obtain ⟨d, r | c⟩ := h3 p q
    · exact g3 r d
    · have := g2 (by rw [c]; simp)
      rw [this]; exact ⟨d, .inr c⟩

theorem RxKept.of_receivers {e : RxNo} {s t : State} (h : t.receivers = s.receivers) : RxKept e s t := by
  have := State.rx_congr h e
  refine ⟨by rw [this], fun _ => this, fun p q => ?_⟩
  rw [this]; exact ⟨q, .inl p⟩

theorem ActKept.refl (s : State) : ActKept s s := ⟨fun _ => .refl _ _, fun _ => .refl _ _, fun _ => .refl _ _⟩

theorem ActKept.trans {s t u : State} (h : ActKept s t) (g : ActKept t u) : ActKept s u :=
  ⟨fun l => (h.1 l).trans (g.1 l), fun l => (h.2.1 l).trans (g.2.1 l), fun e => (h.2.2 e).trans (g.2.2 e)⟩

theorem ActKept.of_same {s t : State} (h : t.lines = s.lines) (g : t.receivers = s.receivers) : ActKept s t :=
  ⟨fun _ => .of_lines h, fun _ => .of_lines h, fun _ => .of_receivers g⟩

section receivers
variable (s : State)

@[simp] theorem State.startNext_receivers : s.startNext.receivers = s.receivers := by
  unfold State.startNext; split
  · rfl
  · split <;> rfl

@[simp] theorem State.stepDown_receivers (l : LineNo) : (s.stepDown l).receivers = s.receivers := by
  unfold State.stepDown; dsimp only; split <;> rfl

@[simp] theorem State.yieldPower_receivers (l : LineNo) : (s.yieldPower l).receivers = s.receivers := by
  unfold State.yieldPower; split <;> simp

@[simp] theorem State.lineOff_receivers (l : LineNo) : (s.lineOff l).receivers = s.receivers := by
  simp [State.lineOff]

@[simp] theorem State.beginLend_receivers (l : LineNo) : (s.beginLend l).receivers = s.receivers := by
  simp [State.beginLend]

@[simp] theorem State.endLend_receivers (l : LineNo) : (s.endLend l).receivers = s.receivers := by
  simp [State.endLend]

@[simp] theorem State.grant_receivers (l : LineNo) (b : Bool) : (s.grant l b).receivers = s.receivers := by
  simp [State.grant]

@[simp] theorem State.giveBack_receivers (l : LineNo) : (s.giveBack l).receivers = s.receivers := by
  simp [State.giveBack]

theorem State.handBack_receivers (l : LineNo) (x : Option CallResult) (h : x ≠ some .noDialTone)
    (g : x ≠ some .noSecondTone) : (s.handBack l .report x).receivers = s.receivers := by
  unfold State.handBack; dsimp only
  have e : s.lineResult l .report x = s := by simp [State.lineResult, h, g]
  rw [e]; split
  · simp
  · split <;> simp

@[simp] theorem State.takeLine_receivers (l : LineNo) : (s.takeLine l).receivers = s.receivers := by
  unfold State.takeLine; dsimp only; split <;> rfl

@[simp] theorem State.needReady_receivers (l : LineNo) : (s.needReady l).receivers = s.receivers := by
  unfold State.needReady; split <;> split <;> rfl

/-- A READY receiver takes a status that is READY or CALLING. -/
theorem RxKept.of_ready {s t : State} {e : RxNo} {x : RxStatus} (k : RxNo) (r : (s.rx e).state = .ready)
    (h : t.rx k = if e = k then x else s.rx k) (hf : x.failures = (s.rx e).failures)
    (hs : x.state = .ready ∨ x.state = .calling) (hd : (s.rx e).due = none → x.due = none) : RxKept k s t := by
  by_cases n : e = k
  · subst n
    rw [if_pos rfl] at h
    exact ⟨by rw [h, hf], fun p => absurd r p, fun _ q => by rw [h]; exact ⟨hd q, hs⟩⟩
  · rw [if_neg n] at h
    exact ⟨by rw [h], fun _ => h, fun p q => by rw [h]; exact ⟨q, .inl p⟩⟩

/-- A receiver made CALLING for a call that begins, or that ends at once, keeps its failures and has no due time if it had none. -/
theorem State.startCall_rx {t : State} (l : LineNo) (e k : RxNo) (b : Bool) (h : s.makeCalling e = some t) :
    RxKept k s (t.startCall l (Call.create .report (some e) b)) := by
  unfold State.makeCalling at h; split at h
  · next r =>
    cases h
    have first : ∀ u : State, u.receivers = (s.setRx e { s.rx e with state := .calling }).receivers → RxKept k s u :=
      fun u hu => .of_ready (x := { s.rx e with state := .calling }) k r (by rw [State.rx_congr hu]; exact State.setRx_rx ..) rfl (.inr rfl) id
    unfold State.startCall; dsimp only; split
    · simp only [State.giveResult, State.setCall_call, Call.create, Call.resultOf, State.endContext,
        State.receiverResult, CallResult.receiverCaused]
      have second : ∀ u : State, u.receivers = (s.setRx e { s.rx e with state := .calling }).receivers →
          RxKept k s ((u.setRx e { u.rx e with state := .ready, due := none }).tell) := by
        intro u hu
        refine .of_ready (x := { u.rx e with state := .ready, due := none }) k r ?_ ?_ (.inl rfl) fun _ => rfl
        · have : ((u.setRx e { u.rx e with state := .ready, due := none }).tell).rx k =
              if e = k then { u.rx e with state := .ready, due := none } else u.rx k := State.setRx_rx ..
          rw [this]; split
          · rfl
          · next n => rw [State.rx_congr hu, State.setRx_rx, if_neg n]
        · rw [State.rx_congr hu]; simp
      apply second
      rw [State.handBack_receivers _ _ _ (by simp) (by simp)]
      simp
    · split
      · exact first _ (by simp)
      · exact first _ (by simp)
  · cases h

end receivers


/-! ### The pass, the condition, the held-back list and the grace reclaim -/

section pass
variable (s : State)

/-- The line a search ends on is FREE or TENANT (R102). -/
theorem State.searchLine_occupancy {l : LineNo} (b : Bool) (h : s.searchLine b = some l) :
    (s.ctl l).occupancy = .free ∨ (s.ctl l).occupancy = .tenant := by
  unfold State.searchLine at h; dsimp only at h; split at h
  · next k hk =>
    cases h; left
    have := List.find?_some hk
    simp only [Bool.and_eq_true, beq_iff_eq] at this; exact this.1
  · right
    have := List.find?_some h
    simp only [Bool.and_eq_true, beq_iff_eq] at this; exact this.1

/-- A grant and what it leads to. -/
theorem State.grantCall_act {t : State} {l : LineNo} (b : Bool) (e : RxNo) (hl : (s.ctl l).occupancy ≠ .call)
    (h : (s.grant l b).makeCalling e = some t) :
    ActKept s (t.startCall l (Call.create .report (some e) ((t.ctl l).lend == .pending))) := by
  have hlines := State.makeCalling_lines e h
  have hothers : (t.startCall l (Call.create .report (some e) ((t.ctl l).lend == .pending))).others l = s.others l := by
    rw [State.startCall_others, others_of_lines l hlines, State.grant_others]
  have hlend : (t.ctl l).lend = (s.ctl l).lend := by
    rw [← s.grant_lend l b]; simp only [State.ctl, State.line_congr hlines]
  refine ⟨fun k => ?_, fun k => ?_, fun k => ?_⟩
  · by_cases n : k = l
    · subst n
      by_cases p : (s.ctl k).lend = .pending
      · exact fun q => absurd p q
      · refine ((State.grant_core s k b).trans (.of_lines hlines)).trans (State.startCall_core t k _ ?_)
        simp [Call.create, hlend, p]
    · exact .of_others hothers n
  · by_cases n : k = l
    · subst n; exact fun p => absurd p hl
    · exact .of_others hothers n
  · exact (RxKept.of_receivers (State.grant_receivers s l b)).trans (State.startCall_rx _ l e k _ h)

theorem State.giveBack_act {l : LineNo} (b : Bool) (hl : (s.ctl l).occupancy ≠ .call) :
    ActKept s ((s.grant l b).giveBack l) := by
  have hothers : ((s.grant l b).giveBack l).others l = s.others l := by simp
  refine ⟨fun k => ?_, fun k => ?_, fun k => .of_receivers (by simp)⟩
  · by_cases n : k = l
    · subst n; exact (State.grant_core s k b).trans (State.giveBack_core _ k)
    · exact .of_others hothers n
  · by_cases n : k = l
    · subst n; exact fun p => absurd p hl
    · exact .of_others hothers n

theorem State.passFuel_act (n : Nat) : ∀ s : State, ActKept s (State.passFuel n s) := by
  induction n with
  | zero => intro s; exact .refl s
  | succ n ih =>
    intro s; unfold State.passFuel; split
    · exact .refl s
    · split
      · exact .refl s
      · next l hl =>
        have ho : (s.ctl l).occupancy ≠ .call := by
          rcases s.searchLine_occupancy _ hl with h | h <;> simp [h]
        dsimp only; split
        · next t ht => exact (State.grantCall_act s _ _ ho ht).trans (ih _)
        · exact (State.giveBack_act s _ ho).trans (ih _)

theorem State.evaluateUrgent_lines : s.evaluateUrgent.lines = s.lines := by
  unfold State.evaluateUrgent; dsimp only; split <;> simp
theorem State.evaluateUrgent_receivers : s.evaluateUrgent.receivers = s.receivers := by
  unfold State.evaluateUrgent; dsimp only; split <;> simp
theorem State.settleFireTimer_lines : s.settleFireTimer.lines = s.lines := by
  unfold State.settleFireTimer; dsimp only; split <;> simp
theorem State.settleFireTimer_receivers : s.settleFireTimer.receivers = s.receivers := by
  unfold State.settleFireTimer; dsimp only; split <;> simp
theorem State.settleHeld_lines : s.settleHeld.lines = s.lines := by
  rw [State.settleHeld, State.settleFireTimer_lines]; rfl
theorem State.settleHeld_receivers : s.settleHeld.receivers = s.receivers := by
  rw [State.settleHeld, State.settleFireTimer_receivers]; rfl

theorem State.act_act : ActKept s s.act := by
  unfold State.act; dsimp only
  have h : ActKept s (if (s.setWork { s.work with told := false }).dispatcher.gateOpen then
      (s.setWork { s.work with told := false }).pass else s.setWork { s.work with told := false }) := by
    split
    · exact (ActKept.of_same (t := s.setWork { s.work with told := false }) rfl rfl).trans (State.passFuel_act 8 _)
    · exact .of_same rfl rfl
  refine h.trans (.of_same ?_ ?_)
  · rw [State.settleHeld_lines, State.evaluateUrgent_lines]
  · rw [State.settleHeld_receivers, State.evaluateUrgent_receivers]

/-- A LENT line's lend ends: a line without a pending lend keeps its core, and a line in CALL that is not LENT is another. -/
theorem State.endLend_act {l : LineNo} (h : (s.ctl l).lend = .lent) : ActKept s (s.endLend l) := by
  refine ⟨fun k => ?_, fun k => ?_, fun k => .of_receivers (by simp)⟩
  · by_cases n : k = l
    · subst n; exact State.endLend_core s k
    · exact .of_others (l := l) (by simp) n
  · by_cases n : k = l
    · subst n; exact fun _ q => absurd h q
    · exact .of_others (l := l) (by simp) n

theorem State.graceReclaim_act : ActKept s s.graceReclaim := by
  unfold State.graceReclaim; dsimp only; split
  · exact .of_same rfl rfl
  · next l rest hl =>
    have hm : l ∈ s.lentLines := by
      have : s.lentLines = l :: rest := hl
      rw [this]; simp
    have hlent : (s.ctl l).lend = .lent := by
      simp only [State.lentLines, List.mem_filter, beq_iff_eq] at hm; exact hm.2
    exact ((ActKept.of_same rfl rfl).trans
      (State.endLend_act (s.setWork { s.work with fireDue := false, expired := true }) (l := l) hlent)).trans
      (.of_same rfl rfl)

/-- What the acts at the end of a command may do to any line and receiver. -/
theorem State.actFuel_act (n : Nat) : ∀ s : State, ActKept s (State.actFuel n s) := by
  induction n with
  | zero => intro s; exact .refl s
  | succ n ih =>
    intro s; unfold State.actFuel; split
    · exact (State.graceReclaim_act s).trans (ih _)
    · split
      · exact (State.act_act s).trans (ih _)
      · exact .refl s

end pass

/-! ### The end of a command's work -/

section settle
variable (s : State)

/-- With nothing told, the end of a command's work changes nothing. -/
theorem State.settle_rested (h : s.work = Work.idle) : s.settle = s := by
  have e : s.settleExit = s := by
    unfold State.settleExit; rw [h]; simp only [Work.idle]
    simp only [Bool.false_eq_true, false_and, if_false]
    cases s; simp_all [State.setWork, Work.idle]
  have d : s.drain = s := by
    unfold State.drain; rw [h]; simp only [Work.idle]
    simp only [Bool.false_eq_true, if_false]
    unfold State.drainFuel; rw [h]; rfl
  have a : State.actFuel 64 s = s := by
    unfold State.actFuel; rw [h]; simp [Work.idle]
  rw [State.settle, e, d, a]
  cases s; simp_all [State.setWork]

/-- With no exit due and nothing handed on, the end of a command's work is the acts of the Dispatcher. -/
theorem State.settle_told (h : s.work.exitDue = false) (g : s.work.handOns = []) :
    s.settle = (s.actFuel 64).setWork Work.idle := by
  have e : s.settleExit = s := by
    unfold State.settleExit; rw [h]
    simp only [Bool.false_eq_true, false_and, if_false]
    rw [← h]; rfl
  have d : s.drain = s := by
    unfold State.drain; split
    · rfl
    · unfold State.drainFuel; rw [g]
  rw [State.settle, e, d]

theorem State.settle_act (h : s.work.exitDue = false) (g : s.work.handOns = []) : ActKept s s.settle := by
  rw [State.settle_told s h g]; exact (State.actFuel_act 64 s).trans (.of_same rfl rfl)

theorem State.settle_steady (h : s.work.exitDue = false) (g : s.work.handOns = []) : s.settle.steady = s.steady := by
  rw [State.settle_told s h g, State.setWork_steady, State.actFuel_steady]

end settle

end Sys2Proof.Machine
end

