-- ==== Sys2Proof/Laws/Roster.lean ====
section
/-! SUPPORT. What the queue's operations leave of its roster: the tickets and reports of its records in order, the ticket counter, the lost tally and the periodic test; and what admission adds to it. -/

namespace Sys2Proof.Machine

/-- What no claim, move, return, recomposition or re-examination changes of the queue. -/
structure Roster where
  held : List (Nat × Report × Bool)
  ticketCounter : Nat
  lostTally : Nat
  testTimer : Option Nat
  gateOpened : Bool

/-- What the roster shows of a record. -/
def Record.entry (r : Record) : Nat × Report × Bool := (r.ticket, r.report, r.reserved)

def State.roster (s : State) : Roster :=
  { held := s.queue.records.map Record.entry, ticketCounter := s.queue.ticketCounter,
    lostTally := s.queue.lostTally, testTimer := s.queue.testTimer, gateOpened := s.queue.gateOpened }

theorem roster_of_queue {s t : State} (h : t.queue = s.queue) : t.roster = s.roster := by
  simp only [State.roster, h]

/-- The tickets and reports are read from the roster. -/
theorem reports_of_roster {s t : State} (h : t.roster = s.roster) : t.reports = s.reports := by
  have e := congrArg (fun x => x.held.map fun y => (y.1, y.2.1)) h
  simpa [State.roster, State.reports, Record.entry, List.map_map, Function.comp_def] using e

/-- A change of records that keeps each one's entry. -/
theorem map_entry (rs : List Record) (f : Record → Record) (h : ∀ r, (f r).entry = r.entry) :
    (rs.map f).map Record.entry = rs.map Record.entry := by
  simp [List.map_map, Function.comp_def, h]

section roster
variable (s : State)

theorem State.setQueue_roster (q : Queue) (h : q.records.map Record.entry = s.queue.records.map Record.entry)
    (h1 : q.ticketCounter = s.queue.ticketCounter) (h2 : q.lostTally = s.queue.lostTally)
    (h3 : q.testTimer = s.queue.testTimer) (h4 : q.gateOpened = s.queue.gateOpened) :
    (s.setQueue q).roster = s.roster := by
  simp [State.roster, h, h1, h2, h3, h4]

theorem State.modRecord_roster (k : Nat) (f : Record → Record) (h : ∀ r, (f r).entry = r.entry) :
    (s.modRecord k f).roster = s.roster := by
  refine State.setQueue_roster s _ (map_entry _ _ fun r => ?_) rfl rfl rfl rfl
  split
  · exact h r
  · rfl

@[simp] theorem State.setStates_roster (ks : List Nat) (x : RecordState) : (s.setStates ks x).roster = s.roster := by
  refine State.setQueue_roster s _ (map_entry _ _ fun r => ?_) rfl rfl rfl rfl
  split <;> rfl

@[simp] theorem State.notice_roster (n : Notice) : (s.notice n).roster = s.roster := roster_of_queue (by simp)
@[simp] theorem State.setSlots_roster (l : LineNo) (x y : Slot) : (s.setSlots l x y).roster = s.roster := rfl
@[simp] theorem State.setRx_roster (e : RxNo) (x : RxStatus) : (s.setRx e x).roster = s.roster := rfl
@[simp] theorem State.setWork_roster (w : Work) : (s.setWork w).roster = s.roster := rfl
@[simp] theorem State.setHoldTimer_roster (x : Option Nat) : (s.setHoldTimer x).roster = s.roster := rfl
@[simp] theorem State.setChannel_roster (c : ChannelNo) (x : InputChannel) : (s.setChannel c x).roster = s.roster := rfl
@[simp] theorem State.setMode_roster (m : Mode) : (s.setMode m).roster = s.roster := rfl
@[simp] theorem State.setRoutes_roster (x : Vector RouteEval 8) : (s.setRoutes x).roster = s.roster := rfl
@[simp] theorem State.tell_roster : s.tell.roster = s.roster := rfl
@[simp] theorem State.noteWaiting_roster (k : Nat) : (s.noteWaiting k).roster = s.roster := rfl
@[simp] theorem State.noteExit_roster : s.noteExit.roster = s.roster := rfl
@[simp] theorem State.setBusy_roster (b : Bool) : (s.setBusy b).roster = s.roster := rfl
@[simp] theorem State.setFaults_roster (fs : List FaultEntry) : (s.setFaults fs).roster = s.roster := rfl

@[simp] theorem State.faultActive_roster (k : FaultKind) (i : Nat) : (s.faultActive k i).roster = s.roster := by
  unfold State.faultActive; split
  · simp
  · split <;> simp

@[simp] theorem State.faultCleared_roster (k : FaultKind) (i : Nat) : (s.faultCleared k i).roster = s.roster := by
  unfold State.faultCleared; split
  · rfl
  · split <;> simp

@[simp] theorem State.settlePressure_roster : s.settlePressure.roster = s.roster := by
  unfold State.settlePressure; dsimp only; split
  · exact State.setQueue_roster _ _ rfl rfl rfl rfl rfl
  · rw [State.tell_roster]; exact State.setQueue_roster _ _ rfl rfl rfl rfl rfl

@[simp] theorem State.settleComm_roster : s.settleComm.roster = s.roster := by
  unfold State.settleComm; split <;> simp

@[simp] theorem State.claimSending_roster (l : LineNo) (e : RxNo) (n : Nat) :
    (s.claimSending l e n).roster = s.roster := by simp [State.claimSending]

@[simp] theorem State.claimNext_roster (l : LineNo) (e : RxNo) (n : Nat) :
    (s.claimNext l e n).roster = s.roster := by simp [State.claimNext]

@[simp] theorem State.moveNext_roster (l : LineNo) : (s.moveNext l).roster = s.roster := by simp [State.moveNext]

@[simp] theorem State.releaseHeld_roster (r : Record) : (s.releaseHeld r).roster = s.roster := by
  unfold State.releaseHeld; split
  · refine State.setQueue_roster _ _ (map_entry _ _ fun x => ?_) rfl rfl rfl rfl
    split <;> rfl
  · rfl

@[simp] theorem State.returnRecord_roster (k : Nat) : (s.returnRecord k).roster = s.roster := by
  unfold State.returnRecord; split
  · rfl
  · split
    · dsimp only
      split <;> split <;> simp <;> exact State.modRecord_roster _ _ _ fun _ => rfl
    · rfl

@[simp] theorem State.returnAll_roster (ks : List Nat) : (s.returnAll ks).roster = s.roster :=
  foldl_view State.roster _ State.returnRecord_roster ks s

@[simp] theorem State.recompose_roster (l : LineNo) (e : RxNo) (k : Nat) : (s.recompose l e k).roster = s.roster := by
  unfold State.recompose; dsimp only; split
  · simp
  · split
    · split <;> simp
    · rfl

@[simp] theorem State.takeHandOn_roster (k : Nat) : (s.takeHandOn k).roster = s.roster := by
  unfold State.takeHandOn; split
  · rfl
  · split
    · split
      · rfl
      · split <;> simp
    · rfl

@[simp] theorem State.drainFuel_roster (n : Nat) : ∀ s : State, (State.drainFuel n s).roster = s.roster := by
  induction n with
  | zero => intro s; rfl
  | succ n ih =>
    intro s; unfold State.drainFuel; split
    · rfl
    · rw [ih]; simp

@[simp] theorem State.drain_roster : s.drain.roster = s.roster := by
  unfold State.drain; split <;> simp

@[simp] theorem State.handOn_roster (k : Nat) : (s.handOn k).roster = s.roster := by simp [State.handOn]

@[simp] theorem State.startHoldLimit_roster : s.startHoldLimit.roster = s.roster := by
  unfold State.startHoldLimit; split <;> simp

@[simp] theorem State.fireEntry_roster : s.fireEntry.roster = s.roster := by
  unfold State.fireEntry; split <;> simp

@[simp] theorem State.tellNeighbours_roster (k : Nat) (c : ReportClass) (x : RecordState) :
    (s.tellNeighbours k c x).roster = s.roster := by
  unfold State.tellNeighbours; dsimp only; split <;> split <;> split <;> simp

@[simp] theorem State.reexamineOne_roster (k : Nat) : (s.reexamineOne k).roster = s.roster := by
  unfold State.reexamineOne; split
  · rfl
  · split
    · simp; exact State.modRecord_roster _ _ _ fun _ => rfl
    · simp; exact State.modRecord_roster _ _ _ fun _ => rfl
    · rfl

@[simp] theorem State.reexamine_roster : s.reexamine.roster = s.roster :=
  foldl_view State.roster _ State.reexamineOne_roster _ s

@[simp] theorem State.rebuild_roster : s.rebuild.roster = s.roster := by
  refine State.setQueue_roster _ _ (map_entry _ _ fun r => ?_) rfl rfl rfl rfl
  split <;> rfl

@[simp] theorem State.evaluateRoutes_roster : s.evaluateRoutes.roster = s.roster := by
  have h : ∀ t : State, t.reportRoutes.roster = t.roster := fun t =>
    foldl_view State.roster State.reportRoute (fun u r => by unfold State.reportRoute; split <;> simp) allRoutes t
  unfold State.evaluateRoutes; rw [h]; rfl

/-! ### What admission adds (R58, R60, R62) -/

/-- A record made and entered: one entry more, at the end; the ticket counter moves on. -/
theorem State.enter_roster (rep : Report) (b : Bool) (n : Nat) :
    (s.enter rep b n).roster =
      { s.roster with
        held := s.roster.held ++ [(s.ticketToGive, rep, b)]
        ticketCounter := nextTicket s.ticketToGive } := by
  unfold State.enter; dsimp only; rw [State.tellNeighbours_roster]
  simp [State.roster, State.ticketToGive, Record.entry]

/-- With a place free and no record to join, the report enters under the next free ticket. -/
theorem State.admit_new (rep : Report) (hj : s.joinable rep = none) (hc : s.ordinaryCount < 32) :
    s.admission rep = (s.enter rep false 0, .new s.ticketToGive) := by
  unfold State.admission; rw [hj]; simp [hc]

theorem State.reports_enter (rep : Report) (b : Bool) (n : Nat) :
    (s.enter rep b n).reports = s.reports ++ [(s.ticketToGive, rep)] := by
  have e := congrArg (fun x => x.held.map fun y => (y.1, y.2.1)) (s.enter_roster rep b n)
  simpa [State.roster, State.reports, Record.entry, List.map_map, Function.comp_def] using e

end roster

/-! ### A forced exit is noted for a FIRE record alone -/

section exit
variable (s : State)

@[simp] theorem State.notice_exitDue (n : Notice) : (s.notice n).work.exitDue = s.work.exitDue := by simp

@[simp] theorem State.faultActive_work (k : FaultKind) (i : Nat) : (s.faultActive k i).work = s.work := by
  unfold State.faultActive; split
  · simp
  · split <;> simp

@[simp] theorem State.faultCleared_work (k : FaultKind) (i : Nat) : (s.faultCleared k i).work = s.work := by
  unfold State.faultCleared; split
  · rfl
  · split <;> simp

@[simp] theorem State.settleComm_work : s.settleComm.work = s.work := by
  unfold State.settleComm; split <;> simp

@[simp] theorem State.settlePressure_exitDue : s.settlePressure.work.exitDue = s.work.exitDue := by
  unfold State.settlePressure; dsimp only; split <;> rfl


@[simp] theorem State.claimNext_exitDue (l : LineNo) (e : RxNo) (n : Nat) :
    (s.claimNext l e n).work.exitDue = s.work.exitDue := by simp [State.claimNext]

@[simp] theorem State.releaseHeld_work (r : Record) : (s.releaseHeld r).work = s.work := by
  unfold State.releaseHeld; split <;> rfl

@[simp] theorem State.returnRecord_exitDue (k : Nat) : (s.returnRecord k).work.exitDue = s.work.exitDue := by
  unfold State.returnRecord; split
  · rfl
  · split
    · dsimp only; split <;> split <;> simp
    · rfl

@[simp] theorem State.recompose_exitDue (l : LineNo) (e : RxNo) (k : Nat) :
    (s.recompose l e k).work.exitDue = s.work.exitDue := by
  unfold State.recompose; dsimp only; split
  · simp
  · split
    · split <;> simp
    · rfl

@[simp] theorem State.takeHandOn_exitDue (k : Nat) : (s.takeHandOn k).work.exitDue = s.work.exitDue := by
  unfold State.takeHandOn; split
  · rfl
  · split
    · split
      · rfl
      · split <;> simp
    · rfl

@[simp] theorem State.drainFuel_exitDue (n : Nat) :
    ∀ s : State, (State.drainFuel n s).work.exitDue = s.work.exitDue := by
  induction n with
  | zero => intro s; rfl
  | succ n ih =>
    intro s; unfold State.drainFuel; split
    · rfl
    · rw [ih]; simp

@[simp] theorem State.drain_exitDue : s.drain.work.exitDue = s.work.exitDue := by
  unfold State.drain; split <;> simp

@[simp] theorem State.handOn_exitDue (k : Nat) : (s.handOn k).work.exitDue = s.work.exitDue := by
  simp [State.handOn]

/-- The entry of a record that is not FIRE asks for no exit. -/
theorem State.tellNeighbours_exitDue (k : Nat) {c : ReportClass} (h : c ≠ .fire) (x : RecordState) :
    (s.tellNeighbours k c x).work.exitDue = s.work.exitDue := by
  unfold State.tellNeighbours; dsimp only
  rw [if_neg h]
  split <;> split <;> simp

theorem State.enter_exitDue {rep : Report} (h : rep.cls ≠ .fire) (b : Bool) (n : Nat) :
    (s.enter rep b n).work.exitDue = s.work.exitDue := by
  unfold State.enter; dsimp only; rw [State.tellNeighbours_exitDue _ _ h]; rfl

theorem State.accountLoss_exitDue : s.accountLoss.work.exitDue = s.work.exitDue := by
  unfold State.accountLoss; split
  · rw [State.faultActive_work, State.enter_exitDue _ (by simp [lossReport])]
  · split <;> rfl

theorem State.countLoss_exitDue (k : Nat) (rep : Report) : (s.countLoss k rep).work.exitDue = s.work.exitDue := by
  simp [State.countLoss]

theorem State.removeRecord_exitDue (r : Record) : (s.removeRecord r).work.exitDue = s.work.exitDue := by
  unfold State.removeRecord; dsimp only
  split <;> (try split) <;> (try split) <;>
    simp [State.enter_exitDue _ (show lossReport.cls ≠ .fire by simp [lossReport])]

theorem State.join_exitDue (r : Record) {rep : Report} (h : rep.cls ≠ .fire) :
    (s.join r rep).work.exitDue = s.work.exitDue := by
  unfold State.join; dsimp only
  simp only [if_neg h]
  split
  · split <;> split <;> split <;> simp
  · simp

/-- The admission of a report that is not FIRE asks for no exit from SERVICE (R65 step 2, R171). -/
theorem State.admit_exitDue {rep : Report} (h : rep.cls ≠ .fire) :
    (s.admission rep).1.work.exitDue = s.work.exitDue := by
  unfold State.admission; split
  · exact State.join_exitDue s _ h
  · split
    · exact State.enter_exitDue s h _ _
    · split
      · dsimp only
        rw [State.accountLoss_exitDue, State.enter_exitDue _ h, State.countLoss_exitDue, State.removeRecord_exitDue]
      · rw [State.accountLoss_exitDue, State.countLoss_exitDue]

theorem State.report_exitDue {rep : Report} (h : rep.cls ≠ .fire) :
    (s.report rep).work.exitDue = s.work.exitDue := State.admit_exitDue s h

end exit

end Sys2Proof.Machine
end

