-- ==== Sys2Proof/Laws/Gate.lean ====
section
/-! SUPPORT. The gate and the rotation counter through the acts of the Dispatcher, and the invariants of `Safety` through the end of a command's work. -/

namespace Sys2Proof.Machine

/-! ### The gate -/

section gate
variable (s : State)

theorem dispatcher_of_still {s t : State} (h : t.still = s.still) : t.dispatcher = s.dispatcher :=
  congrArg Still.dispatcher h

@[simp] theorem State.giveBack_still (l : LineNo) : (s.giveBack l).still = s.still := by simp [State.giveBack]

@[simp] theorem State.setWork_still (w : Work) : (s.setWork w).still = s.still := rfl

theorem State.makeCalling_still {t : State} (e : RxNo) (h : s.makeCalling e = some t) : t.still = s.still := by
  unfold State.makeCalling at h; split at h
  · cases h; rfl
  · cases h

@[simp] theorem State.passFuel_still (n : Nat) : ∀ s : State, (State.passFuel n s).still = s.still := by
  induction n with
  | zero => intro s; rfl
  | succ n ih =>
    intro s; unfold State.passFuel; split
    · rfl
    · split
      · rfl
      · dsimp only; split
        · next ht => rw [ih, State.startCall_still, State.makeCalling_still _ _ ht, State.grant_still]
        · rw [ih]; simp

@[simp] theorem State.evaluateUrgent_gate : s.evaluateUrgent.dispatcher.gateOpen = s.dispatcher.gateOpen := by
  unfold State.evaluateUrgent; dsimp only; split <;> simp

@[simp] theorem State.settleFireTimer_gate : s.settleFireTimer.dispatcher.gateOpen = s.dispatcher.gateOpen := by
  unfold State.settleFireTimer; dsimp only; split <;> simp

@[simp] theorem State.settleHeld_gate : s.settleHeld.dispatcher.gateOpen = s.dispatcher.gateOpen := by
  rw [State.settleHeld, State.settleFireTimer_gate]; rfl

@[simp] theorem State.act_gate : s.act.dispatcher.gateOpen = s.dispatcher.gateOpen := by
  unfold State.act; dsimp only
  rw [State.settleHeld_gate, State.evaluateUrgent_gate]
  split
  · rw [State.pass, dispatcher_of_still (State.passFuel_still _ _)]; rfl
  · rfl

@[simp] theorem State.graceReclaim_dispatcher : s.graceReclaim.dispatcher = s.dispatcher := by
  unfold State.graceReclaim; dsimp only; split
  · rfl
  · exact dispatcher_of_still (by simp)

@[simp] theorem State.actFuel_gate (n : Nat) :
    ∀ s : State, (State.actFuel n s).dispatcher.gateOpen = s.dispatcher.gateOpen := by
  induction n with
  | zero => intro s; rfl
  | succ n ih =>
    intro s; unfold State.actFuel; split
    · rw [ih]; simp
    · split
      · rw [ih]; simp
      · rfl

/-- An act behind a closed gate leaves the Dispatcher as the closing left it (R98). -/
theorem State.act_closed (h : s.dispatcher = Dispatcher.reset) : s.act.dispatcher = Dispatcher.reset := by
  unfold State.act; dsimp only
  rw [if_neg (by simp [h, Dispatcher.reset])]
  have hu : (s.setWork { s.work with told := false }).evaluateUrgent.dispatcher = Dispatcher.reset := by
    unfold State.evaluateUrgent; dsimp only
    simp only [State.setWork_dispatcher, h, State.urgentNow, Dispatcher.reset, Bool.false_and]
    rfl
  unfold State.settleHeld State.settleFireTimer
  have hh : (s.setWork { s.work with told := false }).evaluateUrgent.heldAfter = [] := by
    simp [State.heldAfter, State.heldBack, hu, Dispatcher.reset]
  dsimp only
  simp only [State.setDispatcher_dispatcher, hh, hu, fireExpiry]
  split <;> rfl

theorem State.actFuel_closed (n : Nat) : ∀ s : State, s.dispatcher = Dispatcher.reset →
    (State.actFuel n s).dispatcher = Dispatcher.reset := by
  induction n with
  | zero => intro s h; exact h
  | succ n ih =>
    intro s h; unfold State.actFuel; split
    · exact ih _ (by rw [State.graceReclaim_dispatcher, h])
    · split
      · exact ih _ (State.act_closed s h)
      · exact h

end gate

end Sys2Proof.Machine
end

