-- ==== Sys2Proof/Laws/Requests.lean ====
section
/-! SUPPORT. What serving a request does, once for all requests: the response of its owner's answer, formed after the owner's effect and the end of the command's work. -/

namespace Sys2Proof.Machine

section requests
variable (s : State)

theorem State.decoding_of_asked {kind : Byte} {payload : List Byte} (h : s.Asked kind payload) :
    s.decoding kind payload = true := by
  unfold State.decoding; rw [h.1, h.2]; simp

/-- A response formed is a response in hand, and nothing else (R152, R153, R160). -/
theorem State.respond_eq (kind : Byte) (a : Answer) :
    s.respond kind a =
      s.answered kind a.status.code (a.clamped.toNat + 2 * a.evicted.toNat + 4 * a.coalesced.toNat) a.fields := by
  have e : responseFrame kind s.link.requestsLost a =
      s.link.responseTo kind a.status.code (a.clamped.toNat + 2 * a.evicted.toNat + 4 * a.coalesced.toNat) a.fields := by
    unfold responseFrame Link.responseTo flagsByte
    cases s.link.requestsLost <;> simp
  unfold State.respond State.answered Link.holding Link.transmit
  rw [e]
  cases h : s.link.transmitter <;> simp [h]

theorem State.serve_asked {kind : Byte} {payload : List Byte} (h : s.Asked kind payload) (ok : Bool)
    (bad : List Byte) (owner : State → State × Answer) :
    s.serve kind payload ok bad owner =
      if ok then ((owner s).1.settle).respond kind (owner s).2
      else s.respond kind { Answer.plain .badLength with fields := bad } := by
  unfold State.serve; rw [State.decoding_of_asked s h]; rfl

/-- A request that its owner answers without changing anything. -/
theorem State.serve_unchanged {kind : Byte} {payload : List Byte} (h : s.Asked kind payload) (hw : s.Rested)
    {bad : List Byte} {owner : State → State × Answer} {a : Answer} {ok : Bool} (hok : ok = true)
    (ho : owner s = (s, a)) :
    s.serve kind payload ok bad owner =
      s.answered kind a.status.code (a.clamped.toNat + 2 * a.evicted.toNat + 4 * a.coalesced.toNat) a.fields := by
  rw [State.serve_asked s h, hok, if_pos rfl, ho, State.settle_rested s hw, State.respond_eq]

/-- A request of a wrong length. -/
theorem State.serve_badLength {kind : Byte} {payload : List Byte} (h : s.Asked kind payload)
    {bad : List Byte} {owner : State → State × Answer} {ok : Bool} (hok : ok = false) :
    s.serve kind payload ok bad owner = s.answered kind 3 0 bad := by
  rw [State.serve_asked s h, hok, if_neg (by simp), State.respond_eq]; rfl

/-- A request whose owner changes the state and tells nobody. -/
theorem State.serve_quiet {t : State} {kind : Byte} {payload : List Byte} (h : s.Asked kind payload)
    {bad : List Byte} {owner : State → State × Answer} {a : Answer} {ok : Bool} (hok : ok = true)
    (ho : owner s = (t, a)) (hw : t.Rested) :
    s.serve kind payload ok bad owner =
      t.answered kind a.status.code (a.clamped.toNat + 2 * a.evicted.toNat + 4 * a.coalesced.toNat) a.fields := by
  rw [State.serve_asked s h, hok, if_pos rfl, ho, State.settle_rested t hw, State.respond_eq]

/-- A request with an effect: the response is in hand, and the rest is the owner's effect and the end of the work. -/
theorem State.serve_effect {t : State} {kind : Byte} {payload : List Byte} (h : s.Asked kind payload)
    {bad : List Byte} {owner : State → State × Answer} {a : Answer} {ok : Bool} (hok : ok = true)
    (ho : owner s = (t, a)) :
    s.serve kind payload ok bad owner = t.settle.respond kind a := by
  rw [State.serve_asked s h, hok, if_pos rfl, ho]

/-- The response in hand after an effect that leaves the base. -/
theorem Answered.of_base {s t : State} {kind : Byte} {a : Answer} {code flags : Nat} {fields : List Byte}
    (h : t.link.requestsLost = s.link.requestsLost) (hc : a.status.code = code)
    (hf : a.clamped.toNat + 2 * a.evicted.toNat + 4 * a.coalesced.toNat = flags) (hx : a.fields = fields) :
    Answered s (t.respond kind a) kind code flags fields := by
  rw [State.respond_eq, hc, hf, hx]
  refine ⟨?_, rfl⟩
  show some (t.link.responseTo kind code flags fields) = some (s.link.responseTo kind code flags fields)
  unfold Link.responseTo; rw [h]

theorem State.asked_advance {kind : Byte} {payload : List Byte} (t : Nat) (h : s.Asked kind payload) :
    (s.advance t).Asked kind payload := h

theorem State.rested_advance (t : Nat) (h : s.Rested) : (s.advance t).Rested := h

/-! A response leaves all but the link's response side. -/

@[simp] theorem State.respond_steady_queue (kind : Byte) (a : Answer) : (s.respond kind a).queue = s.queue := rfl
@[simp] theorem State.respond_lines (kind : Byte) (a : Answer) : (s.respond kind a).lines = s.lines := rfl
@[simp] theorem State.respond_line (kind : Byte) (a : Answer) (l : LineNo) : (s.respond kind a).line l = s.line l := rfl
@[simp] theorem State.respond_ctl (kind : Byte) (a : Answer) (l : LineNo) : (s.respond kind a).ctl l = s.ctl l := rfl
@[simp] theorem State.respond_channels (kind : Byte) (a : Answer) : (s.respond kind a).channels = s.channels := rfl
@[simp] theorem State.respond_channel (kind : Byte) (a : Answer) (c : ChannelNo) :
    (s.respond kind a).channel c = s.channel c := rfl
@[simp] theorem State.respond_readings (kind : Byte) (a : Answer) : (s.respond kind a).readings = s.readings := rfl
@[simp] theorem State.respond_reports (kind : Byte) (a : Answer) : (s.respond kind a).reports = s.reports := rfl
@[simp] theorem State.respond_mode (kind : Byte) (a : Answer) : (s.respond kind a).mode = s.mode := rfl
@[simp] theorem State.respond_hold (kind : Byte) (a : Answer) : (s.respond kind a).hold = s.hold := rfl
@[simp] theorem State.respond_holdTimer (kind : Byte) (a : Answer) : (s.respond kind a).holdTimer = s.holdTimer := rfl
@[simp] theorem State.respond_tables (kind : Byte) (a : Answer) : (s.respond kind a).tables = s.tables := rfl
@[simp] theorem State.respond_store (kind : Byte) (a : Answer) : (s.respond kind a).store = s.store := rfl
@[simp] theorem State.respond_work (kind : Byte) (a : Answer) : (s.respond kind a).work = s.work := rfl
@[simp] theorem State.respond_dispatcher (kind : Byte) (a : Answer) : (s.respond kind a).dispatcher = s.dispatcher := rfl
@[simp] theorem State.respond_now (kind : Byte) (a : Answer) : (s.respond kind a).now = s.now := rfl
@[simp] theorem State.respond_fitted (kind : Byte) (a : Answer) : (s.respond kind a).fitted = s.fitted := rfl
@[simp] theorem State.respond_rotation (kind : Byte) (a : Answer) : (s.respond kind a).rotation = s.rotation := rfl

end requests

end Sys2Proof.Machine
end

