-- ==== Sys2Proof/Laws/Store.lean ====
section
/-! SUPPORT. The store: a byte read after a write, and the canonical form, which every operation on the store keeps. -/

namespace Sys2Proof.Machine

/-! ### The canonical form -/

/-- An address that lies above a bound. -/
def above (lo : Option Nat) (a : Nat) : Prop := ∀ p, lo = some p → p < a

theorem storeWfFrom_cons (lo : Option Nat) (k : Nat) (b : Byte) (rest : List Host.Cell) :
    storeWfFrom lo ((k, b) :: rest) = true ↔
      above lo k ∧ k < storeSize ∧ b ≠ blankByte ∧ storeWfFrom (some k) rest = true := by
  cases lo <;> simp [storeWfFrom, above, and_assoc]

theorem storeWfFrom_lower {lo lo' : Option Nat} {m : List Host.Cell} (h : storeWfFrom lo m = true)
    (g : ∀ a, above lo a → above lo' a) : storeWfFrom lo' m = true := by
  cases m with
  | nil => rfl
  | cons c rest =>
    obtain ⟨k, b⟩ := c
    rw [storeWfFrom_cons] at h ⊢
    exact ⟨g k h.1, h.2⟩

theorem storeInsert_wf (a : Nat) (v : Byte) (ha : a < storeSize) :
    ∀ (m : List Host.Cell) (lo : Option Nat), storeWfFrom lo m = true → above lo a →
      storeWfFrom lo (storeInsert a v m) = true := by
  intro m
  induction m with
  | nil =>
    intro lo _ hl; unfold storeInsert; split
    · rfl
    · next hv => rw [storeWfFrom_cons]; exact ⟨hl, ha, hv, rfl⟩
  | cons c rest ih =>
    obtain ⟨k, b⟩ := c
    intro lo h hl
    have h' := (storeWfFrom_cons lo k b rest).1 h
    unfold storeInsert; split
    · next hk =>
      split
      · exact h
      · next hv =>
        rw [storeWfFrom_cons]
        refine ⟨hl, ha, hv, ?_⟩
        rw [storeWfFrom_cons]
        exact ⟨fun p hp => by cases hp; exact hk, h'.2⟩
    · split
      · next hk =>
        subst hk; split
        · refine storeWfFrom_lower h'.2.2.2 fun x hx p hp => ?_
          exact Nat.lt_trans (hl p hp) (hx _ rfl)
        · next hv => rw [storeWfFrom_cons]; exact ⟨hl, ha, hv, h'.2.2.2⟩
      · next h1 h2 =>
        rw [storeWfFrom_cons]
        refine ⟨h'.1, h'.2.1, h'.2.2.1, ih _ h'.2.2.2 fun p hp => ?_⟩
        cases hp; omega

/-- A write keeps the canonical form. -/
theorem storeWrite_wf (a : Nat) (v : Byte) (m : List Host.Cell) (h : Memory.wf m = true) :
    Memory.wf (storeWrite a v m) = true := by
  unfold storeWrite; split
  · next ha => exact storeInsert_wf a v ha m none h fun p hp => by cases hp
  · exact h

/-- A run of writes keeps the canonical form. -/
theorem storeWriteBytes_wf (bs : List Byte) :
    ∀ (m : List Host.Cell) (a : Nat), Memory.wf m = true → Memory.wf (storeWriteBytes m a bs) = true := by
  induction bs with
  | nil => intro m a h; exact h
  | cons v rest ih => intro m a h; exact ih _ _ (storeWrite_wf a v m h)

/-- A page torn by a reset leaves the store in canonical form. -/
theorem tornStore_wf (m : List Host.Cell) (free page : Nat) (h : Memory.wf m = true) :
    Memory.wf (tornStore m free page) = true := by
  unfold tornStore; dsimp only
  have h1 := storeWriteBytes_wf
    ((List.range 16).map fun i => Config.tornByte free (pageAddress page + i)) m (pageAddress page) h
  split
  · exact storeWrite_wf _ _ _ h1
  · exact h1

/-- The store of the reset state is in canonical form. -/
theorem reset_store_wf : Memory.wf State.reset.store = true := rfl

/-! ### Reading after a write -/

theorem storeRead_below {m : List Host.Cell} {lo : Option Nat} {a : Nat} (h : storeWfFrom lo m = true)
    (ha : ∀ k, above lo k → a < k) : storeRead m a = blankByte := by
  induction m generalizing lo with
  | nil => rfl
  | cons c rest ih =>
    obtain ⟨k, b⟩ := c
    have h' := (storeWfFrom_cons lo k b rest).1 h
    have hk := ha k h'.1
    unfold storeRead; rw [if_neg (by omega)]
    exact ih h'.2.2.2 fun x hx => Nat.lt_trans hk (hx k rfl)

/-- Reading after the insertion of a cell, in the canonical form. -/
theorem storeRead_storeInsert (a x : Nat) (v : Byte) :
    ∀ (m : List Host.Cell) (lo : Option Nat), storeWfFrom lo m = true → above lo a →
      storeRead (storeInsert a v m) x = if x = a then v else storeRead m x := by
  intro m
  induction m with
  | nil =>
    intro lo _ _; unfold storeInsert; split
    · next hv => subst hv; split <;> rfl
    · simp only [storeRead]; by_cases h : x = a
      · rw [if_pos h, if_pos h.symm]
      · rw [if_neg h, if_neg (Ne.symm h)]
  | cons c rest ih =>
    obtain ⟨k, b⟩ := c
    intro lo h hl
    have h' := (storeWfFrom_cons lo k b rest).1 h
    have tailBelow : ∀ y, y ≤ k → storeRead rest y = blankByte := fun y hy =>
      storeRead_below h'.2.2.2 fun z hz => Nat.lt_of_le_of_lt hy (hz k rfl)
    unfold storeInsert; split
    · next hk =>
      split
      · next hv =>
        split
        · next hx =>
          subst hx; subst hv
          unfold storeRead; rw [if_neg (by omega), tailBelow x (by omega)]
        · rfl
      · conv_lhs => unfold storeRead
        by_cases hx : x = a
        · rw [if_pos hx, if_pos hx.symm]
        · rw [if_neg hx, if_neg (Ne.symm hx)]
    · split
      · next hk =>
        subst hk; split
        · next hv =>
          subst hv
          by_cases hx : x = a
          · rw [if_pos hx]; exact tailBelow x (by omega)
          · rw [if_neg hx]; conv_rhs => unfold storeRead
            rw [if_neg (Ne.symm hx)]
        · conv_lhs => unfold storeRead
          conv_rhs => rhs; unfold storeRead
          by_cases hx : x = a
          · rw [if_pos hx, if_pos hx.symm]
          · rw [if_neg hx, if_neg (Ne.symm hx), if_neg (Ne.symm hx)]
      · next h1 h2 =>
        have ih' := ih (some k) h'.2.2.2 fun p hp => by cases hp; omega
        simp only [storeRead]
        by_cases hx : k = x
        · rw [if_pos hx, if_pos hx, if_neg (by omega)]
        · rw [if_neg hx, if_neg hx, ih']

/-- A byte read after a write inside the store: the written byte at its address, the old byte elsewhere. -/
theorem storeRead_storeWrite (a x : Nat) (v : Byte) (m : List Host.Cell) (h : Memory.wf m = true)
    (ha : a < storeSize) : storeRead (storeWrite a v m) x = if x = a then v else storeRead m x := by
  unfold storeWrite; rw [if_pos ha]
  exact storeRead_storeInsert a x v m none h fun p hp => by cases hp

/-- A byte read after a run of writes inside the store. -/
theorem storeRead_storeWriteBytes (x : Nat) (bs : List Byte) :
    ∀ (m : List Host.Cell) (a : Nat), Memory.wf m = true → a + bs.length ≤ storeSize →
      storeRead (storeWriteBytes m a bs) x =
        if a ≤ x ∧ x < a + bs.length then bs.getD (x - a) 0 else storeRead m x := by
  induction bs with
  | nil => intro m a _ _; rw [if_neg (by simp only [List.length_nil]; omega)]; rfl
  | cons v rest ih =>
    intro m a h hl
    simp only [List.length_cons] at hl ⊢
    have step := ih (storeWrite a v m) (a + 1) (storeWrite_wf a v m h) (by omega)
    rw [storeWriteBytes, step, storeRead_storeWrite a x v m h (by omega)]
    by_cases hx : x = a
    · subst hx; rw [if_neg (by omega), if_pos rfl, if_pos (by omega)]; simp
    · by_cases hr : a + 1 ≤ x ∧ x < a + 1 + rest.length
      · rw [if_pos hr, if_pos (by omega)]
        obtain ⟨n, hn⟩ : ∃ n, x - a = n + 1 := ⟨x - a - 1, by omega⟩
        rw [hn, List.getD_cons_succ]; congr 1; omega
      · rw [if_neg hr, if_neg hx, if_neg (by omega)]

/-! ### Parts written one after another -/

/-- The parts of an arrangement written into the store, in order. -/
def storeWriteParts (m : List Host.Cell) (parts : List (Nat × List Byte)) : List Host.Cell :=
  parts.foldl (fun m p => storeWriteBytes m p.1 p.2) m

/-- An address outside every part reads as before. -/
theorem storeRead_storeWriteParts_outside (x : Nat) (parts : List (Nat × List Byte)) :
    ∀ m : List Host.Cell, Memory.wf m = true → (∀ p ∈ parts, p.1 + p.2.length ≤ storeSize) →
      (∀ p ∈ parts, ¬(p.1 ≤ x ∧ x < p.1 + p.2.length)) → storeRead (storeWriteParts m parts) x = storeRead m x := by
  induction parts with
  | nil => intro m _ _ _; rfl
  | cons p rest ih =>
    intro m h hl hx
    refine (ih _ (storeWriteBytes_wf _ _ _ h) (fun q hq => hl q (List.mem_cons_of_mem _ hq))
      (fun q hq => hx q (List.mem_cons_of_mem _ hq))).trans ?_
    rw [storeRead_storeWriteBytes x _ _ _ h (hl p List.mem_cons_self), if_neg (hx p List.mem_cons_self)]

/-- Parts that do not overlap read back as they were written. -/
theorem storeRead_storeWriteParts (parts : List (Nat × List Byte)) :
    ∀ m : List Host.Cell, Memory.wf m = true → (∀ p ∈ parts, p.1 + p.2.length ≤ storeSize) →
      parts.Pairwise (fun p q => p.1 + p.2.length ≤ q.1) → ∀ p ∈ parts, ∀ i, i < p.2.length →
        storeRead (storeWriteParts m parts) (p.1 + i) = p.2.getD i 0 := by
  induction parts with
  | nil => intro m _ _ _ p hp; cases hp
  | cons q rest ih =>
    intro m h hl hd p hp i hi
    have hr := fun x hx => hl x (List.mem_cons_of_mem q hx)
    rw [List.pairwise_cons] at hd
    rcases List.mem_cons.1 hp with rfl | hp
    · refine (storeRead_storeWriteParts_outside _ rest _ (storeWriteBytes_wf _ _ _ h) hr ?_).trans ?_
      · intro x hx g; have := hd.1 x hx; omega
      · rw [storeRead_storeWriteBytes _ _ _ _ h (hl p List.mem_cons_self), if_pos ⟨by omega, by omega⟩]
        congr 1; omega
    · exact ih _ (storeWriteBytes_wf _ _ _ h) hr hd.2 p hp i hi

end Sys2Proof.Machine
end

