-- ==== Sys2Proof/WellFormed.lean ====
section
/-! DEFINITION. Which commands can reach the part: the ranges of their operands that their types do not already give. -/

namespace Sys2Proof

/-- The payload that a frame can carry: LENGTH is at most 200 and counts KIND (`09` section 9.1, R149). -/
def payloadFits (payload : List Byte) : Bool := payload.length ≤ 199

/-- The operand ranges: a ticket is 1..65535 (R56), a page has 16 bytes (R168), a payload at most 199. -/
def Instr.wf : Instr → Bool
  | .ageTick _ ticket => 1 ≤ ticket && ticket ≤ 65535
  | .savePageWritten _ differ => differ.length ≤ 16
  | .unknownKind _ _ p => payloadFits p
  | .echo _ p => payloadFits p
  | .ident _ p => payloadFits p
  | .status _ p => payloadFits p
  | .queueList _ p => payloadFits p
  | .receiverList _ p => payloadFits p
  | .lineList _ p => payloadFits p
  | .channelList _ p => payloadFits p
  | .faultRead _ p => payloadFits p
  | .faultClear _ p => payloadFits p
  | .raise _ p => payloadFits p
  | .withdraw _ p => payloadFits p
  | .testCall _ p => payloadFits p
  | .lend _ p => payloadFits p
  | .reclaim _ p => payloadFits p
  | .force _ p => payloadFits p
  | .forceCancelAll _ p => payloadFits p
  | .isolate _ p => payloadFits p
  | .deIsolate _ p => payloadFits p
  | .unlatch _ p => payloadFits p
  | .abortCall _ p => payloadFits p
  | .get _ p => payloadFits p
  | .set _ p => payloadFits p
  | .save _ p => payloadFits p
  | .mode _ p => payloadFits p
  | .release _ p => payloadFits p
  | .reset _ _ _ | .loaderDone _ | .loopSample _ _ _ | .ringOffTimerExpiry _ _ | .toneQualified _ _
  | .toneEnded _ _ | .mainsFailInput _ _ | .supplyChange _ | .promotionComplete _ _
  | .probeTimerExpiry _ _ | .lendIdleExpiry _ _ | .inputReading _ _ _ | .periodicTestExpiry _
  | .backoffEnd _ _ | .restEnd _ _ | .fireWaitExpiry _ | .cleardownEnd _ _ | .dialToneRecognised _ _
  | .dialtoneTimeout _ _ | .dialSymbolToneEnd _ _ | .dialSymbolEnd _ _ | .secondToneRecognised _ _
  | .secondToneTimeout _ _ | .ringWaitTimeout _ _ | .handshakeTimeout _ _ | .callLimitExpiry _ _
  | .releaseGuardEnd _ _ | .delayEnd _ _ | .blockSymbolToneEnd _ _ | .blockSymbolEnd _ _
  | .replyTimeout _ _ | .retryEnd _ _ | .gapEnd _ _ | .frameReceived _ _ | .interByteTimeout _
  | .frameSent _ _ | .holdLimitExpiry _ | .incomingByte _ _ | .toneAppears _ _ _ | .toneStops _ _ _
  | .countingSegmentOverrun _ _ => true

end Sys2Proof
end

