-- ==== Sys2Proof/Tests/Slice0.lean ====
section
/-! SUPPORT. Tests of single steps, with expected results from the manual's worked examples and tables, and for each statement a state that meets its hypotheses. -/

namespace Sys2Proof.Tests

open Sys2Proof Sys2Proof.Machine

-- One theorem after another: each test waits for the kernel, and the memory of many threads at once passes the check's limit.
set_option Elab.async false

/-! ### WellFormed refuses what cannot reach the part -/

theorem test_wf_refuses_ticket_0 : Instr.wf (.ageTick 0 0) = false := by decide +kernel
theorem test_wf_refuses_ticket_65536 : Instr.wf (.ageTick 0 65536) = false := by decide +kernel
theorem test_wf_takes_ticket_65535 : Instr.wf (.ageTick 0 65535) = true := by decide +kernel
theorem test_wf_refuses_page_of_17 : Instr.wf (.savePageWritten 0 (List.replicate 17 0)) = false := by decide +kernel
theorem test_wf_takes_payload_199 : Instr.wf (.echo 0 (List.replicate 199 0)) = true := by decide +kernel

/-- A payload of 200 bytes fits no frame, whatever the kind (R149). -/
theorem test_wf_refuses_payload_200 :
    let p : List Byte := List.replicate 200 0
    [Instr.unknownKind 0 0x7F p, .echo 0 p, .ident 0 p, .status 0 p, .queueList 0 p, .receiverList 0 p, .lineList 0 p,
      .channelList 0 p, .faultRead 0 p, .faultClear 0 p, .raise 0 p, .withdraw 0 p, .testCall 0 p, .lend 0 p,
      .reclaim 0 p, .force 0 p, .forceCancelAll 0 p, .isolate 0 p, .deIsolate 0 p, .unlatch 0 p, .abortCall 0 p,
      .get 0 p, .set 0 p, .save 0 p, .mode 0 p, .release 0 p].all (fun c => !c.wf) = true := by decide +kernel

/-! ### Small states -/

/-- A part that runs: four lines, OPERATE, RELEASED, gate OPEN, 700 s after reset. -/
def calm : State :=
  { State.reset with
    now := 700000, loading := false, hold := .released
    dispatcher := { Dispatcher.reset with gateOpen := true }
    link := { Link.reset with receiver := .hunt } }

/-- A line that is READY and FREE. -/
def readyLine : Line :=
  { Line.reset true PerBand.silence with
    ctl := { LineCtl.reset true with power := .ready, classOcc := .free, occupancy := .free } }

/-- A REPORT call to entry 1 in a state whose timer ends now. -/
def callIn (st : CallState) : Call :=
  { Call.create .report (some 0) false with
    state := st, stateTimer := some 700000, limitTimer := some 700000, dialString := [1, 12, 13] }

/-- Line 1 with a call on it. -/
def callLine (c : Call) : Line :=
  { readyLine with
    ctl := { readyLine.ctl with occupancy := .call, grant := some .trickle }
    iface := { offHook := true, relayOpen := true, sender := none }
    call := some c }

/-- The part that runs, with line 1 as given. -/
def lined (x : Line) : State := calm.setLine 0 x

/-- The part that runs, with a call on line 1. -/
def calling (c : Call) : State := lined (callLine c)

/-- A detector that hears, with a segment open or none. -/
def hearing (g : Option Segment) : Detector :=
  { listening := true, muted := false, since := ⟨none, none, none⟩, segment := g }

/-- A WAITING record of a ticket for entry 1. -/
def waitingRecord (ticket : Nat) : Record :=
  { ticket, report := { cls := .trouble, qualifier := .new, source := .host, sourceNumber := 0, event := 5, zone := ticket }
    route := 0, pendingList := [0], acceptedList := [], state := .waiting, age := 0, repeats := 0, enteredAt := 640
    reserved := false }

/-- A state with some records in its queue. -/
def holding (s : State) (rs : List Record) : State :=
  s.setQueue { Queue.reset with records := rs, ticketCounter := rs.length + 1, gateOpened := true }

/-- A full queue of tickets 1..32. -/
def fullQueue : List Record := (List.range 32).map fun i => waitingRecord (i + 1)

/-- A report of a class, and the RAISE that gives it. -/
def raising (cls : ReportClass) : Report :=
  { cls, qualifier := .new, source := .host, sourceNumber := 0, event := 5, zone := 99 }

def raiseOf (rank : Byte) : List Byte := [rank, 1, 0, 0, 0, 5, 0, 99]

/-- The request that waits to be decoded. -/
def asking (s : State) (kind : Byte) (payload : List Byte) : State :=
  s.setLink { s.link with requests := [{ kind, payload }] }

/-- The state that a command answers. -/
def after (c : Instr) (s : State) : State :=
  match exec c s with
  | .next t => t
  | _ => State.reset

/-! ### Line sensing (`01`) -/

/-- Window w13 of section 1.8: M 6870, A 858, R 1350, RING. -/
theorem test_window_w13 :
    let w : List Int := [1500, 1100, 300, -700, -1240, -820, 160, 1050]
    magnitudeSum w = 6870 ∧ average w = 858 ∧ rawSum w = 1350 ∧ windowClass .onHook w = .ring := by decide +kernel

/-- Window w6 of section 1.8: an average of 290 reads OFF-HOOK over 320 and ON-HOOK over 280. -/
theorem test_window_hysteresis :
    let w : List Int := List.replicate 8 290
    windowClass .offHook w = .offHook ∧ windowClass .onHook w = .onHook := by decide +kernel

/-- The first sample of w13 was 1720 at the sensor and was clipped (section 1.8). -/
theorem test_sample_is_clipped :
    ((after (.loopSample 700000 0 1720) (lined readyLine)).sense 0).window = [1500] := by decide +kernel

/-- Window w5 of section 1.8 confirms OFF-HOOK after a run of 3, and the line becomes TENANT. -/
theorem test_sample_confirms_tenant :
    let u : Sense := { Sense.reset with window := List.replicate 7 85, confirmed := .onHook, candidate := some .offHook, run := 3 }
    let s := after (.loopSample 700000 0 85) (lined { readyLine with sense := u })
    (s.sense 0).confirmed = .offHook ∧ (s.ctl 0).occupancy = .tenant := by decide +kernel

/-- The ring-off timer of section 1.8 at 8960 ms carries ON-HOOK, and the line becomes FREE. -/
theorem test_ring_off_frees_line :
    let x : Line :=
      { readyLine with
        sense := { Sense.reset with confirmed := .onHook, ringOff := some 8960 }
        ctl := { readyLine.ctl with classOcc := .ringing, occupancy := .ringing } }
    ((after (.ringOffTimerExpiry 8960 0) { lined x with now := 8950 }).ctl 0).occupancy = .free := by decide +kernel

/-- The last segment of section 1.10 but one: DIAL-BAND from 0 to 500, END at 520 with 500 ms. -/
theorem test_busy_segment_duration :
    (hearing (some { band := .dial, onset := 0, stopped := some 500 })).ended 520
      = some (hearing none, .ended .dial 500 0 500, none) := by decide +kernel

/-- Two bands that qualify together open the segment in T2 (R13). -/
theorem test_two_bands_open_t2 :
    ((({ hearing none with since := ⟨some 0, some 0, some 0⟩ } : Detector).qualify 20).map Prod.snd)
      = some (.onset .t2 0) := by decide +kernel

/-! ### Lines, supply and lending (`02`) -/

/-- Successive grants with four lines and the counter at 4 search from 4, 3, 2, 1, 4 (R33). -/
theorem test_rotation :
    rotationOrder 4 4 = [3, 2, 1, 0] ∧ rotationOrder 4 2 = [1, 0, 3, 2] ∧ nextRotation 4 4 = 3 ∧ nextRotation 4 1 = 4 := by
  decide

/-- A promotion that ends makes its line READY (R24). -/
theorem test_promotion_ready :
    let x : Line := { readyLine with ctl := { readyLine.ctl with power := .sense, promotion := .settling 700000 } }
    ((after (.promotionComplete 700000 0) (lined x)).ctl 0).power = .ready := by decide +kernel

/-- Reserve supply raises TROUBLE 903 NEW and the fault entry (R26). -/
theorem test_supply_reserve :
    let s := after (.supplyChange 700000) { calm with mainsFail := true, supplyTimer := some 700000 }
    s.supply = .reserve ∧ (s.queue.records.map fun r => r.report.event) = [903]
      ∧ (s.link.faults.any fun e => e.kind == .supplyReserve && e.active) = true := by decide +kernel

/-- A line with the third NO-DIAL-TONE in a row is NO-TONE, with its probe 300 s off (R22). -/
theorem test_third_no_tone :
    let x : Line := { readyLine with ctl := { readyLine.ctl with noTone := 2 } }
    let c := ((lined x).countNoTone 0).ctl 0
    c.fault = .noTone ∧ c.noTone = 3 ∧ c.probeTimer = some 1000000 := by decide +kernel

/-- LEND of a FREE line: LENT, with 120 s of idle time to run (R34, R36). -/
theorem test_lend_free_line :
    let s := after (.lend 700000 [1]) (asking (lined readyLine) 0x18 [1])
    (s.ctl 0).occupancy = .lent ∧ (s.ctl 0).lendIdle = some 820000 := by decide +kernel

/-! ### Channels (`03`) -/

/-- The bounds of the measured classes (R39). -/
theorem test_measured_classes :
    [0, 99, 100, 399, 400, 799, 800, 1023].map InputClass.ofCode
      = [.shortLoop, .shortLoop, .normal, .normal, .active, .active, .openLoop, .openLoop] := by decide +kernel

/-- With a debounce of 500 ms the reading that brings the timer to 500 confirms, and the channel raises its NEW (R40, R43). -/
theorem test_reading_confirms :
    let x : InputChannel := { InputChannel.reset with candidate := some .active, debounce := some 480 }
    let s := after (.inputReading 700000 0 500) (calm.setChannel 0 x)
    (s.channel 0).confirmed = .active ∧ (s.queue.records.map fun r => r.report.event) = [101] := by decide +kernel

/-- FORCE is refused in OPERATE with MODE, status 5 (R50): the frame C3 03 20 05 00 D8. -/
theorem test_force_refused_in_operate :
    (after (.force 700000 (List.replicate 8 0)) (asking calm 0x20 (List.replicate 8 0))).link.inHand
      = some [0xC3, 0x03, 0x20, 0x05, 0x00, 0xD8] := by decide +kernel

/-! ### The queue (`04`), receivers (`05`), Dispatcher (`06`) -/

/-- Ticket 65535 is followed by 1, and a ticket that a record holds is passed over (R58). -/
theorem test_ticket_wraps :
    nextTicket 65535 = 1 ∧ freeTicket [waitingRecord 65535, waitingRecord 1] 34 65535 = 2 := by decide +kernel

/-- A report without a valid route enters STRANDED (R65), and its response carries its ticket. -/
theorem test_raise_strands :
    let p : List Byte := [3, 1, 0, 0, 0, 5, 0, 0]
    let s := after (.raise 700000 p) (asking calm 0x10 p)
    (s.queue.records.map fun r => r.state) = [.stranded] ∧ s.queue.ticketCounter = 2 := by decide +kernel

/-- Events 901..921 are the part's own, and RAISE refuses them with RANGE (R77). -/
theorem test_raise_refuses_part_events :
    raisedReport [3, 1, 0, 0, 0x03, 0x85, 0, 0] = none ∧ raisedReport [3, 1, 0, 0, 0x03, 0x99, 0, 0] = none ∧
      (raisedReport [3, 1, 0, 0, 0x03, 0x84, 0, 0]).isSome = true := by decide +kernel

/-- The chains of the table below R81. -/
theorem test_route_walks :
    let e := fun next : Nat => ({ dialNumber := [1], account := [0, 0, 0, 0], attemptLimit := 4, next } : T3)
    let t3 : Vector T3 12 := #v[e 2, e 0, e 0, e 7, e 6, e 5, { e 0 with dialNumber := [] }, e 9, e 10, e 11, e 12, e 0]
    [1, 3, 4, 8, 5, 0].map (walk t3)
      = [.valid [0, 1], .valid [2], .emptyDial, .tooLong, .loop, .noHead] := by decide +kernel

/-- The backoffs of the worked example of `05`: base 10 and base 60, cap 300. -/
theorem test_backoffs :
    [1, 2, 3, 4, 5].map (backoffSeconds 10 300) = [10, 20, 40, 80, 160] ∧
      [1, 2, 3, 4, 5, 14].map (backoffSeconds 60 300) = [60, 120, 240, 300, 300, 300] := by decide +kernel

/-- A rest that is over leaves the receiver READY with no failures (R91). -/
theorem test_rest_end :
    let s := after (.restEnd 700000 3) (calm.setRx 3 { state := .exhausted, failures := 4, due := some 700 })
    s.rx 3 = { state := .ready, failures := 0, due := none } := by decide +kernel

/-! ### The call (`07`) and the exchange (`08`) -/

/-- CLEARDOWN ends at 1500 ms of the worked example: off-hook, DIALTONE until 6500. -/
theorem test_cleardown_end :
    let c := { callIn .cleardown with stateTimer := some 1500 }
    let s := after (.cleardownEnd 1500 0) { calling c with now := 0 }
    (s.call 0).map (fun c => (c.state, c.stateTimer)) = some (.dialtone, some 6500) := by decide +kernel

/-- The gap of 9 ends at 2660 of the worked example: SECOND-TONE at 'W' until 7660. -/
theorem test_second_tone :
    let c := { callIn .dialling with dialString := [9, 13, 0], stateTimer := some 2660 }
    let s := after (.dialSymbolEnd 2660 0) { calling c with now := 2580 }
    (s.call 0).map (fun c => (c.state, c.stateTimer, c.dialPos)) = some (.secondTone, some 7660, 1) := by decide +kernel

/-- The gap of the last digit ends at 6980 of the worked example: RING-WAIT until 51980. -/
theorem test_ring_wait :
    let c := { callIn .dialling with dialString := [5, 7], dialPos := 1, stateTimer := some 6980 }
    let s := after (.dialSymbolEnd 6980 0) { calling c with now := 6900 }
    (s.call 0).map (fun c => (c.state, c.stateTimer, c.dialPos)) = some (.ringWait, some 51980, 2) := by decide +kernel

/-- The READY tone of the worked example, END at 16020 with 1000 ms: EXCHANGE, its delay until 16270. -/
theorem test_ready_tone :
    let x := { callLine (callIn .handshake) with
      detector := hearing (some { band := .t1, onset := 15000, stopped := some 16000 }) }
    let s := after (.toneEnded 16020 0) { lined x with now := 16000 }
    (s.call 0).map (fun c => (c.state, c.stateTimer)) = some (.exchange .delay, some 16270) := by decide +kernel

/-- The check symbols of the worked example of `08`: 3, and 11, which is sent as #. -/
theorem test_check_symbols :
    checkSymbol [4, 4, 1, 7, 1, 1, 4, 5, 1, 2, 0, 0, 3] = 3 ∧
      checkSymbol [4, 4, 1, 7, 1, 3, 3, 9, 0, 3, 0, 0, 0] = 11 := by decide +kernel

/-- The first block of that example, whole. -/
theorem test_block :
    composeBlock [4, 4, 1, 7]
      [{ cls := .plant, qualifier := .new, source := .host, sourceNumber := 0, event := 512, zone := 3 }]
      = [11, 4, 4, 1, 7, 1, 1, 4, 5, 1, 2, 0, 0, 3, 3] := by decide +kernel

/-- A send that hears nothing is sent again after 250 ms (R142, R143). -/
theorem test_reply_timeout :
    let c := { callIn (.exchange (.reply 698460)) with sendCount := some 1 }
    ((after (.replyTimeout 700000 0) (calling c)).call 0).map (fun c => (c.state, c.stateTimer))
      = some (.exchange .retry, some 700250) := by decide +kernel

/-! ### The Host Link (`09`) -/

/-- The frames of R150: STATUS is C3 01 03 FC, and WITHDRAW of ticket 40 is C3 03 11 00 28 C4. -/
theorem test_frames_of_r150 :
    frame 0x03 [] = [0xC3, 0x01, 0x03, 0xFC] ∧ frame 0x11 [0x00, 0x28] = [0xC3, 0x03, 0x11, 0x00, 0x28, 0xC4] := by
  decide

/-- The last byte of that STATUS puts the request into the buffer. -/
theorem test_frame_received :
    let k : Link := { calm.link with receiver := .body 1 [0x03] 1, byteTimer := some 700050 }
    (after (.frameReceived 700000 0xFC) (calm.setLink k)).link.requests = [{ kind := 0x03, payload := [] }] := by decide +kernel

/-- A lost request is told by the next response alone (R152, worked example of `09`). -/
theorem test_requests_lost_told_once :
    let s := after (.mode 700000 [1]) (asking (calm.setLink { calm.link with requestsLost := true }) 0x33 [1])
    s.link.inHand = some [0xC3, 0x03, 0x33, 0x00, 0x08, 0xC2] ∧ s.link.requestsLost = false := by decide +kernel

/-! ### Settings, store, start-up (`10`) -/

/-- The T5 section of the worked example: bytes 1 1 2 3 2, check byte 247. -/
theorem test_t5_check :
    Tables.default.sectionBytes 5 = [1, 1, 2, 3, 2] ∧ checkByte (Tables.default.sectionBytes 5) = 247 := by decide +kernel

/-- The parts of the arrangement end with T6 at 512 and its 120 bytes, within the 38 section pages (R168). -/
theorem test_arrangement :
    (Tables.default.parts.map fun p => (p.1, p.2.length))
      = [(0, 25), (32, 18), (64, 28), (96, 384), (480, 16), (496, 5), (512, 120)] := by decide +kernel

/-- A part with an erased store starts HELD with the gate CLOSED and four fault entries (R170, R174), and its STARTED notice is C3 06 80 04 01 01 01 04 6F. -/
theorem test_start_of_erased_part :
    let s := after (.loaderDone 100) State.reset
    (s.hold, s.dispatcher.gateOpen) = (.held, false) ∧
      s.link.faults.map (fun e => (e.kind, e.inst))
        = [(.storeCorrupt, 0), (.routeInvalid, 1), (.routeInvalid, 2), (.routeInvalid, 3)] ∧
      s.link.transmitter = .notice [0xC3, 0x06, 0x80, 0x04, 0x01, 0x01, 0x01, 0x04, 0x6F] := by decide +kernel

/-- A T1 number outside its range is clamped, and the response says so (R165, R167). -/
theorem test_clamped :
    T1.decode ({ T1.default with callLimit := 601 }.image) = some ({ T1.default with callLimit := 600 }, true) := by decide +kernel

/-! ### A state that meets the hypotheses of each statement, clause by clause -/

theorem asking_asked (s : State) (kind : Byte) (p : List Byte) (h : s.link.inHand = none) :
    (asking s kind p).Asked kind p := ⟨h, rfl⟩

theorem now_reached : 700000 ≤ max 700000 700000 := by decide +kernel

theorem calling_ends (c : Call) (h : c.stateTimer = some 700000) : (calling c).TimerEnds 0 c 700000 :=
  ⟨rfl, 700000, h, now_reached⟩

theorem lined_ends (x : Line) (c : Call) (g : x.call = some c) (h : c.stateTimer = some 700000) :
    (lined x).TimerEnds 0 c 700000 := ⟨g, 700000, h, now_reached⟩

/-- StepRunsFrontCommand, EveryStepCompletesAndRests and the statements of what a step keeps: a state that meets every condition, with a command to run. -/
theorem witness_steps :
    let full := holding calm fullQueue
    let s : State :=
      { full with queue := { full.queue with deferred := 32, pressure := true }, pending := [.testCall 700000 [0, 0]] }
    s.pending = .testCall 700000 [0, 0] :: [] ∧ (∃ t, step s = .next t) ∧ calm.pending = [] ∧ s.Rested ∧
      Memory.wf s.store = true ∧ s.GateKept ∧ s.RotationKept ∧ s.BuffersKept ∧ s.FaultsKept ∧ s.ForceKept ∧
      s.QueueKept ∧ s.LossKept ∧ s.loading = false ∧ s.PressureKept := by
  refine ⟨rfl, ⟨_, rfl⟩, ?_⟩
  unfold State.Rested State.GateKept State.RotationKept State.BuffersKept State.FaultsKept State.ForceKept
    State.QueueKept State.LossKept State.PressureKept
  decide +kernel

/-- StepKeepsStoreAndTables, StepKeepsPressure, ImagesDecodeToTheirEntries, SavedTablesLoadBack: the built-in defaults. -/
theorem witness_tables : Tables.default.InRange := by
  refine ⟨by unfold T1.InRange; decide, fun i => ?_, fun i => ?_, fun i => ?_, fun i => ?_⟩
  · revert i; unfold T2.InRange; decide
  · revert i; unfold T3.InRange; decide
  · revert i; unfold T4.InRange; decide
  · revert i; unfold T6.InRange; decide

/-- ResetGivesStartingValues and OnlyTheirCommandsChangeSettingsAndPins: no SAVE, and one that writes any page of a store in its canonical form. -/
theorem witness_reset :
    calm.save = none ∧ (∃ t, exec (.save 700000 []) calm = .next t) ∧ (∀ a b h, Instr.save 700000 [] ≠ .reset a b h) ∧
      Memory.wf calm.store = true ∧
      ∀ page < 40, ∃ w : Save, ({ calm with save := some w } : State).save = some w ∧ w.page = page :=
  ⟨rfl, ⟨_, rfl⟩, nofun, rfl, fun page _ => ⟨{ page, startMode := .operate, pageEnds := 0 }, rfl, rfl⟩⟩

/-- LoaderDoneStartsThePart: a directory whose check fails, and one whose check holds. -/
theorem witness_loader :
    byteSum (storeBytes [] 0 25) ≠ 0 ∧ ¬byteSum (storeBytes [(0, 24)] 0 25) ≠ 0 ∧ (1 ≤ 1 ∧ 4 ≤ 4) := by decide +kernel

/-- A Line Sense Unit one sample short of a window of eight. -/
def shortOfWindow (volts : Int) (confirmed : LoopClass) (run : Nat) (candidate : Option LoopClass) : Sense :=
  { Sense.reset with window := List.replicate 7 volts, confirmed, run, candidate }

/-- SamplesFillAndSettleTheWindow: OFF; the seventh sample; the eighth that confirms, after a run of three, and that does not; a window counted of a fourth and of a third opposite sign, of the confirmed sign, and not counted. -/
theorem witness_samples :
    let off := lined { readyLine with ctl := { readyLine.ctl with power := .off } }
    let six := lined { readyLine with sense := { Sense.reset with window := List.replicate 6 0 } }
    let u := shortOfWindow 85 .onHook 3 (some .offHook)
    let eight := lined { readyLine with sense := u }
    let w := List.replicate 8 (85 : Int)
    (off.ctl 0).power = .off ∧ (six.sense 0).window.length < 7 ∧ (six.ctl 0).power ≠ .off ∧ (eight.ctl 0).power ≠ .off ∧
      (eight.ctl 0).disablePending = false ∧ (eight.sense 0).window.length = 7 ∧
      windowClass u.confirmed w ≠ u.confirmed ∧ 4 ≤ u.run + 1 ∧
      ¬4 ≤ (shortOfWindow 85 .onHook 2 (some .offHook)).run + 1 ∧ windowClass .offHook w = .offHook ∧
      windowClass .onHook w ≠ .ring ∧ w.sum ≠ 0 ∧ (List.replicate 8 (0 : Int)).sum = 0 := by decide +kernel

/-- RingOffEndsRinging: RING, and ON-HOOK, OFF-HOOK and DEAD under RINGING. -/
theorem witness_ring_off (confirmed : LoopClass) :
    let x : Line :=
      { readyLine with
        sense := { Sense.reset with confirmed, ringOff := some 700000 }
        ctl := { readyLine.ctl with classOcc := .ringing, occupancy := .ringing } }
    ((lined x).sense 0).ringOff = some 700000 ∧ 700000 ≤ max (lined x).now 700000 ∧
      ((lined x).ctl 0).disablePending = false ∧ ((lined x).ctl 0).lend ≠ .pending ∧
      ((lined x).sense 0).confirmed = confirmed := ⟨rfl, now_reached, rfl, nofun, rfl⟩

/-- A part behind a closed gate whose line 1 is one sample short of a window. -/
def sensing (u : Sense) (x : Line) : State := { lined { x with sense := u } with dispatcher := Dispatcher.reset }

/-- What the statement asks of a sample whose window confirms a class. -/
def Confirming (s : State) (volts : Int) (w : LoopClass) : Prop :=
  s.Rested ∧ (s.ctl 0).power ≠ .off ∧ (s.ctl 0).disablePending = false ∧ (s.sense 0).window.length = 7 ∧
    Confirms (s.sense 0) ((s.sense 0).window ++ [max (-1500) (min 1500 volts)]) w ∧ s.dispatcher.gateOpen = false ∧
    (0 : LineNo).val < s.fitted

/-- ClassReportsSetOccupancy without a call: the fourth OFF-HOOK window, the twenty-fifth DEAD one, ON-HOOK that ends DEAD, ON-HOOK that shows what it showed. -/
theorem witness_class_reports :
    let tenant := sensing (shortOfWindow 85 .onHook 3 (some .offHook)) readyLine
    let dead := sensing (shortOfWindow 0 .offHook 24 (some .dead)) readyLine
    let back := sensing (shortOfWindow 480 .dead 3 (some .onHook)) readyLine
    let same := sensing { shortOfWindow 480 .unknown 0 none with settling := true } readyLine
    Confirming tenant 85 .offHook ∧ tenant.call 0 = none ∧ (tenant.ctl 0).grant = none ∧
      occupancyAfter (tenant.sense 0) .free .offHook ≠ (tenant.ctl 0).classOcc ∧ Confirming dead 0 .dead ∧
      dead.joinable (trouble .new 901 1) = none ∧ dead.ordinaryCount < 32 ∧ Confirming back 480 .onHook ∧
      back.FaultsKept ∧ back.joinable (trouble .restore 901 1) = none ∧ Confirming same 480 .onHook ∧
      occupancyAfter (same.sense 0) .free .onHook = (same.ctl 0).classOcc := by
  unfold Confirming Confirms State.Rested State.FaultsKept
  decide +kernel

/-- ClassReportsSetOccupancy with a call: PREPARE kept on a line to be seized and dropped on another, a call in HANDSHAKE that goes on at OFF-HOOK and ends at ON-HOOK. -/
theorem witness_class_reports_of_calls (grant : Grant) :
    let tenant := shortOfWindow 85 .onHook 3 (some .offHook)
    let free := shortOfWindow 480 .offHook 3 (some .onHook)
    let prepare := callLine (callIn .prepare)
    let waits := sensing tenant { prepare with ctl := { prepare.ctl with grant := some grant } }
    let goes := sensing tenant (callLine (callIn .handshake))
    let ends := sensing free (callLine (callIn .handshake))
    Confirming waits 85 .offHook ∧ waits.call 0 = some (callIn .prepare) ∧ (waits.ctl 0).lend = .none ∧
      (waits.ctl 0).grant = some grant ∧ occupancyAfter (waits.sense 0) .free .offHook ≠ (waits.ctl 0).classOcc ∧
      Confirming goes 85 .offHook ∧ goes.call 0 = some (callIn .handshake) ∧ (goes.ctl 0).occupancy = .call ∧
      (goes.ctl 0).lend ≠ .lent ∧ Confirming ends 480 .onHook := by
  cases grant <;> (unfold Confirming Confirms State.Rested; decide +kernel)

/-- ClassReportsSetOccupancy, the answer indication: the fourth positive window after negative ones, in RING-WAIT. -/
theorem witness_polarity :
    let u : Sense :=
      { shortOfWindow 85 .offHook 0 none with polarity := some .negative, polarityRun := some (.positive, 3) }
    let s := lined { callLine (callIn .ringWait) with sense := u }
    (∀ w, ¬Confirms u (u.window ++ [85]) w) ∧ s.Rested ∧ s.sense 0 = u ∧ s.call 0 = some (callIn .ringWait) ∧
      classOfWindow u.confirmed (u.window ++ [85]) ≠ .ring ∧ 0 < (u.window ++ [85]).sum := by
  refine ⟨fun w => ?_, rfl, rfl, rfl, by decide +kernel⟩
  cases w <;> (unfold Confirms; decide +kernel)

/-- TonesReachTheDetector, where tone appears and stops. -/
theorem witness_tones :
    (calm.line 0).toneOn.get .dial = false ∧
      ((lined { readyLine with toneOn := ⟨true, false, false⟩ }).line 0).toneOn.get .dial = true := by decide +kernel

/-- TonesReachTheDetector, where tone qualifies: T1 of exactly 20 ms, with DIAL-BAND from the same instant and T2 from the next, without a call, outside RING-WAIT, and in RING-WAIT with no candidate, and after 350, 349 and 651 ms of silence, with each busy run. -/
theorem witness_qualified (busyRun : Nat) (candidate : Option Nat) (h : busyRun ≤ 2) :
    let d : Detector := { hearing none with since := ⟨some 699980, some 699980, some 699981⟩ }
    let place := fun b : Band => [Band.t2, .t1, .dial].idxOf b
    let c := { callIn .ringWait with tone := { ToneRecord.fresh with busyRun, busyCandidate := candidate } }
    let free := lined { readyLine with detector := d }
    let waits := lined { callLine c with detector := d }
    (free.Rested ∧ (free.line 0).call = none ∧ (free.detector 0).since.get .t1 = some 699980 ∧
        699980 + 20 ≤ max free.now 700000) ∧
      (∀ b other, b ≠ Band.t1 → (free.detector 0).since.get b = some other →
        699980 < other ∨ (699980 = other ∧ place .t1 < place b)) ∧
      (waits.line 0).call = some c ∧ c.state = .ringWait ∧ c.tone.busyRun ≤ 2 ∧ c.tone.busyCandidate = candidate ∧
      (callIn .handshake).state ≠ .ringWait ∧ 350 ≤ 699980 - 699630 ∧ 699980 - 699631 < 350 ∧ 650 < 699980 - 699329 ∧
      (waits.line 0).sending.tickets = [] ∧ (waits.line 0).next.tickets = [] := by
  refine ⟨⟨rfl, rfl, rfl, by decide⟩, ?_, rfl, rfl, h, rfl, nofun, by decide, by decide, by decide, rfl, rfl⟩
  intro b other h e
  cases b with
  | dial => cases e; exact .inr ⟨rfl, by decide⟩
  | t1 => exact absurd rfl h
  | t2 => cases e; exact .inl (by decide)

/-- SegmentEnds: absence of exactly 20 ms, in RING-WAIT and with a READY tone of 400 ms in HANDSHAKE, with no other tone and with DIAL-BAND from the end instant on. -/
theorem witness_segment_ends (other : Bool) :
    let g : Segment := { band := .t1, onset := 699580, stopped := some 699980 }
    let since : PerBand (Option Nat) := ⟨if other then some 699980 else none, none, some 699981⟩
    let x := { callLine (callIn .handshake) with detector := { hearing (some g) with since } }
    (lined x).Rested ∧ ((lined x).detector 0).segment = some g ∧ ((lined x).detector 0).listening = true ∧
      699980 + 20 ≤ max (lined x).now 700000 ∧
      ([Band.t2, .t1, .dial].find? fun b => (((lined x).detector 0).since.get b).any fun k => k ≤ 699980) =
        (if other then some .dial else none) ∧
      ((lined x).line 0).call = some (callIn .handshake) ∧ g.band = .t1 ∧ 400 ≤ min (699980 - g.onset) 65535 ∧
      (callIn .ringWait).state = .ringWait := by
  cases other <;> exact ⟨rfl, rfl, rfl, now_reached, rfl, rfl, rfl, by decide⟩

/-- SupplyFollowsTheMains. -/
theorem witness_supply :
    let s : State := { calm with supplyTimer := some 700000 }
    true ≠ calm.mainsFail ∧ false = calm.mainsFail ∧ s.loading = false ∧ s.supplyTimer = some 700000 ∧
      700000 ≤ max s.now 700000 ∧ s.supply = .normal ∧ ({ s with supply := .reserve } : State).supply = .reserve := by
  decide

/-- A line 1 that waits out its guard under RESERVE, and a line 2 in a call whose promotion settles. -/
def reserved : State :=
  let settling := { callLine (callIn .prepare) with
    ctl := { (callLine (callIn .prepare)).ctl with power := .sense, promotion := .settling 700100 } }
  { (calling (callIn .release)).setLine 1 settling with
    supply := .reserve, supplyTimer := some 700000, dispatcher := Dispatcher.reset }

/-- PowerIsSharedUnderReserve: RESERVE entered with one call READY and one that settles; NORMAL again, with a line that waits on the list; a probe while no line is READY and while one is; a guard that ends. -/
theorem witness_power :
    let normal : State := { reserved with supply := .normal }
    let x := { readyLine with ctl := { readyLine.ctl with power := .sense, probeTimer := some 700000 } }
    let alone : State := { lined x with supply := .reserve }
    let other := alone.setLine 1 readyLine
    let waits := { (callLine (callIn .prepare)).ctl with power := .sense, promotion := .waiting }
    let listed : State := { reserved.setCtl 2 waits with waitList := [2] }
    listed.Rested ∧ listed.supply = .reserve ∧ listed.loading = false ∧ listed.supplyTimer = some 700000 ∧
      listed.dispatcher.gateOpen = false ∧ listed.waitList = [2] ∧ (listed.ctl 2).power = .sense ∧
      (listed.ctl 2).promotion = .waiting ∧ (∃ e, (listed.ctl 1).promotion = .settling e) ∧ normal.Rested ∧ normal.loading = false ∧ normal.supplyTimer = some 700000 ∧ normal.dispatcher.gateOpen = false ∧
      normal.waitList = [] ∧ reserved.supply = .reserve ∧ reserved.FaultsKept ∧
      normal.joinable (trouble .new 903 0) = none ∧ normal.joinable (trouble .restore 903 0) = none ∧
      normal.ordinaryCount < 32 ∧ alone.Rested ∧ (alone.ctl 0).power = .sense ∧
      (alone.ctl 0).probeTimer = some 700000 ∧ 700000 ≤ max alone.now 700000 ∧ (alone.ctl 0).occupancy = .free ∧
      alone.dispatcher.gateOpen = true ∧ alone.call 0 = none ∧ alone.usable 0 = true ∧
      (∀ l, (alone.ctl l).lend = .none) ∧ (∀ l, (alone.ctl l).power ≠ .ready ∧ (alone.ctl l).promotion = .none) ∧
      (other.ctl 1).power = .ready ∧ (∀ l, (other.ctl l).lend = .none) ∧
      reserved.call 0 = some (callIn .release) ∧ (reserved.ctl 0).power = .ready ∧
      (reserved.ctl 0).disablePending = false := by
  refine ⟨rfl, rfl, rfl, rfl, rfl, rfl, rfl, rfl, ⟨_, rfl⟩, ?_⟩
  unfold State.Rested State.FaultsKept
  decide +kernel

theorem witness_power_guard : reserved.TimerEnds 0 (callIn .release) 700000 := ⟨rfl, 700000, rfl, now_reached⟩

/-- PromotionTakesTheLine: a call in PREPARE on a TENANT line and on a FREE one. -/
theorem witness_promotion (o : ClassOcc) :
    let x := { callLine (callIn .prepare) with
      ctl := { (callLine (callIn .prepare)).ctl with power := .sense, promotion := .settling 700000, classOcc := o } }
    ((lined x).ctl 0).promotion = .settling 700000 ∧ 700000 ≤ max (lined x).now 700000 ∧ ((lined x).ctl 0).lend = .none ∧
      (lined x).Rested ∧ (lined x).call 0 = some (callIn .prepare) ∧ ((lined x).ctl 0).occupancy = .call ∧
      ((lined x).ctl 0).classOcc = o := ⟨rfl, now_reached, rfl, rfl, rfl, rfl, rfl⟩

/-- ProbeTimerExpires: a FREE line behind an open gate, and a line with a call. -/
theorem witness_probe :
    let ctl := { readyLine.ctl with fault := .noTone, probeTimer := some 700000 }
    let free := lined { readyLine with ctl }
    let busy := lined { callLine (callIn .release) with ctl := { ctl with occupancy := .call } }
    (free.ctl 0).probeTimer = some 700000 ∧ (free.ctl 0).occupancy = .free ∧ free.dispatcher.gateOpen = true ∧
      free.call 0 = none ∧ free.usable 0 = true ∧ (free.ctl 0).lend = .none ∧ (busy.ctl 0).probeTimer = some 700000 ∧
      (busy.ctl 0).occupancy ≠ .free ∧ busy.call 0 ≠ none := by decide +kernel

/-- LendsBeginAndEnd, where a timer ends it: a lend idle for its timeout, and a FIRE-wait timer behind a LENT line. -/
theorem witness_lend_timers :
    let x := { readyLine with ctl := { readyLine.ctl with lend := .lent, occupancy := .lent, lendIdle := some 700000 } }
    let s : State := { lined x with dispatcher := { calm.dispatcher with fireTimer := some 700 } }
    s.Rested ∧ (s.ctl 0).lendIdle = some 700000 ∧ 700000 ≤ max s.now 700000 ∧ s.dispatcher.fireTimer = some 700 ∧
      700 ≤ max s.now 700000 / 1000 ∧ (s.ctl 0).lend = .lent ∧ (∀ k : LineNo, k < 0 → (s.ctl k).lend ≠ .lent) :=
  ⟨rfl, rfl, by decide +kernel, rfl, by decide +kernel, rfl, nofun⟩

/-- LendsBeginAndEnd, RECLAIM: numbers 0 and 5, a line beyond the fitted count, no lend, one pending under a call, one begun. -/
theorem witness_reclaim (lend : Lend) :
    let s := asking (lined { callLine (callIn .release) with ctl := { (callLine (callIn .release)).ctl with lend } }) 0x19 [1]
    let lent := lined { readyLine with ctl := { readyLine.ctl with lend := .lent, occupancy := .lent } }
    s.Rested ∧ s.Asked 0x19 [1] ∧ ofNum 4 (1 : Byte).toNat = some 0 ∧ ofNum 4 (0 : Byte).toNat = none ∧
      ofNum 4 (5 : Byte).toNat = none ∧ ({ s with fitted := 0 } : State).usable 0 = false ∧ s.usable 0 = true ∧
      (s.ctl 0).lend = lend ∧ (s.ctl 0).occupancy = .call ∧ (lent.ctl 0).lend = .lent ∧
      ({ lent with dispatcher := Dispatcher.reset } : State).dispatcher.gateOpen = false ∧ lent.call 0 = none ∧
      (lent.ctl 0).grant = none :=
  ⟨rfl, asking_asked _ _ _ rfl, rfl, rfl, rfl, rfl, rfl, rfl, rfl, rfl, rfl, rfl, rfl⟩

/-- LendsBeginAndEnd, LEND: numbers 0 and 5, a line beyond the fitted count, a FREE line; a line with a call in any state, and one with a lend pending or begun. -/
theorem witness_lend (st : CallState) (lend : Lend) :
    let held := asking (calling (callIn st)) 0x18 [1]
    let free := asking (lined readyLine) 0x18 [4]
    let again := fun occupancy : Occupancy => lined { readyLine with ctl := { readyLine.ctl with occupancy, lend } }
    (held.Rested ∧ held.Asked 0x18 [1] ∧ free.Asked 0x18 [4]) ∧ ofNum 4 (0 : Byte).toNat = none ∧
      ofNum 4 (5 : Byte).toNat = none ∧ ofNum 4 (1 : Byte).toNat = some 0 ∧ ofNum 4 (4 : Byte).toNat = some 3 ∧
      ({ free with fitted := 3 } : State).usable 3 = false ∧ held.usable 0 = true ∧ (held.ctl 0).occupancy = .call ∧
      (held.ctl 0).lend = .none ∧ (held.ctl 0).disablePending = false ∧ held.call 0 = some (callIn st) ∧
      (callIn st).state = st ∧ free.usable 3 = true ∧ (free.ctl 3).occupancy ≠ .call ∧ (free.ctl 3).lend = .none ∧
      free.dispatcher.held = [] ∧ held.dispatcher.held = [] ∧ ((again .call).ctl 0).lend = lend ∧
      ((again .call).ctl 0).occupancy = .call ∧ ((again .lent).ctl 0).lend = lend ∧ ((again .lent).ctl 0).occupancy ≠ .call :=
  ⟨⟨rfl, asking_asked _ _ _ rfl, asking_asked _ _ _ rfl⟩, rfl, rfl, rfl, rfl, rfl, rfl, rfl, rfl, rfl, rfl, rfl, rfl, nofun, rfl,
    rfl, rfl, rfl, rfl, rfl, nofun⟩

/-- Line 1 with a call that holds ticket 1 IN-FLIGHT and the LOSS record STAGED, with two losses held. -/
def slotted (st : CallState) : State :=
  let flight := { waitingRecord 1 with state := .inFlight }
  let loss := { waitingRecord 2 with report := lossReport, reserved := true, state := .staged }
  let s := holding
    (lined { callLine (callIn st) with sending := { tickets := [1], block := [] }, next := { tickets := [2], block := [] } })
    [flight, loss, waitingRecord 3]
  s.setQueue { s.queue with heldLosses := 2 }

/-- LendsBeginAndEnd, AbortReleasesTheCall and TimersReleaseTheCall, with records in the slots: none FIRE, tickets of their own, no other call. -/
theorem witness_slots (st : CallState) :
    let s := slotted st
    s.Rested ∧ s.QueueKept ∧ (∀ k, k ≠ 0 → s.call k = none) ∧ s.call 0 = some (callIn st) ∧ s.link.inHand = none ∧
      (callIn st).limitTimer = some 700000 ∧
      (s.ctl 0).occupancy = .call ∧ (s.ctl 0).lend ≠ .lent ∧ (s.line 0).sending.tickets ++ (s.line 0).next.tickets = [1, 2] ∧
      ¬∃ r ∈ s.queue.records, r.report.cls = .fire ∧ r.ticket ∈ (s.line 0).sending.tickets ++ (s.line 0).next.tickets := by
  have kept : (slotted .release).QueueKept := by unfold State.QueueKept; decide +kernel
  have calm' : ¬∃ r ∈ (slotted .release).queue.records, r.report.cls = .fire ∧ r.ticket ∈ [1, 2] := by decide +kernel
  refine ⟨rfl, kept, ?_, rfl, rfl, rfl, rfl, nofun, rfl, calm'⟩
  intro k h
  fin_cases k <;> first | exact absurd rfl h | rfl

/-- ReadingIsConfirmed: the confirmed class; a candidate held for the debounce time; one held for 20 ms less. -/
theorem witness_reading :
    let channel := fun debounce : Nat =>
      ({ InputChannel.reset with candidate := some .active, debounce := some debounce } : InputChannel)
    calm.loading = false ∧ classOfReading 399 = (calm.channel 0).confirmed ∧ classOfReading 400 = .active ∧
      (calm.t6 0).debounce ≤ (channel 480).debounce.getD 0 + 20 ∧ (channel 460).debounce.getD 0 + 20 < (calm.t6 0).debounce ∧
      classOfReading 400 ≠ (channel 460).confirmed := by decide +kernel

/-- ConfirmationsAreReconciled: ACTIVE confirmed on a reporting channel, on an isolated one, and on a FIRE channel forced NORMAL; OPEN-LOOP confirmed and left. -/
theorem witness_confirmations :
    let x := fun m => ({ InputChannel.reset with candidate := some m, debounce := some 480 } : InputChannel)
    let s := calm.setChannel 0 (x .active)
    let isolated := calm.setChannel 0 { x .active with isolated := true }
    let forced : State :=
      { calm.setChannel 0 { x .active with force := .normal } with
        mode := .service
        tables := { Tables.default with t6 := Tables.default.t6.set 0 { calm.t6 0 with cls := .fire } } }
    let left := calm.setChannel 0 { x .normal with confirmed := .openLoop, wiring := .openLoop }
    let sends := { calm.link with transmitter := .notice [] }
    let held := fun (s : State) m => if (s.channel 0).candidate = some m then (s.channel 0).debounce.getD 0 + 20 else 0
    s.Rested ∧ s.loading = false ∧ classOfReading (500#10).toNat = .active ∧ .active ≠ (s.channel 0).confirmed ∧
      (s.t6 0).debounce ≤ held s .active ∧ (s.channel 0).isolated = false ∧ (s.channel 0).force = .none ∧
      ((s.t6 0).cls = .fire → s.mode = .operate) ∧ (s.t6 0).event ≠ (s.t6 0).openCode ∧
      (s.t6 0).event ≠ (s.t6 0).shortCode ∧ (∀ r ∈ s.queue.records, r.report.source ≠ .input) ∧ s.ordinaryCount ≤ 30 ∧
      (isolated.channel 0).isolated = true ∧ (forced.t6 0).cls = .fire ∧ (forced.channel 0).force = .normal ∧
      (forced.channel 0).alarm = false ∧ (forced.t6 0).debounce ≤ held forced .active ∧
      wiringOf (classOfReading (900#10).toNat) ≠ .none ∧ (s.channel 0).wiring = .none ∧
      wiringOf (classOfReading (200#10).toNat) = .none ∧ (left.channel 0).wiring ≠ .none ∧ left.FaultsKept ∧
      (left.t6 0).debounce ≤ held left .normal ∧ sends.receiver ≠ .silent ∧ sends.transmitter ≠ .idle ∧
      sends.notices.length < 16 := by
  unfold State.Rested State.FaultsKept
  decide +kernel

/-- IsolationAndUnlatching: numbers 0 and 9, a channel isolated and one not, forced and not, at any confirmed state and wiring; no report to join, no report of an input, and an empty queue. -/
theorem witness_isolation (isolated : Bool) (force : Force) (confirmed : InputClass) (wiring : Wiring) :
    let x : InputChannel := { InputChannel.reset with isolated, force, confirmed, wiring }
    let s := (asking calm 0x22 [8]).setChannel 7 x
    let d := (asking calm 0x23 [8]).setChannel 7 x
    let test : Report := { eventReport (s.t6 7) .testRestore with cls := .routine }
    (s.Rested ∧ s.Asked 0x22 [8] ∧ d.Rested ∧ d.Asked 0x23 [8]) ∧ s.channel 7 = x ∧ d.channel 7 = x ∧
      ofNum 8 (8 : Byte).toNat = some 7 ∧ ofNum 8 (0 : Byte).toNat = none ∧ ofNum 8 (9 : Byte).toNat = none ∧
      s.joinable test = none ∧ s.joinable (trouble .new 905 8) = none ∧ d.joinable (trouble .restore 905 8) = none ∧
      s.ordinaryCount = 0 ∧ d.FaultsKept ∧ d.queue.records = [] ∧ (d.t6 7).cls ≠ .fire ∧
      (d.t6 7).event ≠ (d.t6 7).openCode ∧ (d.t6 7).event ≠ (d.t6 7).shortCode :=
  ⟨⟨rfl, asking_asked _ _ _ rfl, rfl, asking_asked _ _ _ rfl⟩, rfl, rfl, rfl, rfl, rfl, rfl, rfl, rfl, rfl,
    ⟨List.nodup_nil, nofun⟩, rfl, nofun, (show 108 ≠ 920 by decide), (show 108 ≠ 921 by decide)⟩

/-- IsolationAndUnlatching, UNLATCH: not latched, latched and ACTIVE, latched and NORMAL with an alarm that restores. -/
theorem witness_unlatch (latched : Bool) (confirmed : InputClass) :
    let s := (asking calm 0x24 [1]).setChannel 0 { InputChannel.reset with latched, confirmed, alarm := true }
    s.Rested ∧ s.Asked 0x24 [1] ∧ ofNum 8 (1 : Byte).toNat = some 0 ∧ (s.channel 0).latched = latched ∧
      (s.channel 0).confirmed = confirmed ∧ (s.channel 0).isolated = false ∧ (s.channel 0).force = .none ∧
      (s.channel 0).alarm = true ∧ (s.channel 0).wiring = .none ∧ (s.t6 0).restoreReporting = true ∧
      ((s.t6 0).cls = .fire → s.mode = .operate) ∧ s.joinable (eventReport (s.t6 0) .restore) = none ∧
      s.ordinaryCount < 32 :=
  ⟨rfl, asking_asked _ _ _ rfl, rfl, rfl, rfl, rfl, rfl, rfl, rfl, rfl, fun _ => rfl, rfl, (show 0 < 32 by decide)⟩

/-- ForcesAreSetAndCancelled: OPERATE; a code of 4; an isolated channel; codes 0 to 3 that pass, with RELEASE and without. -/
theorem witness_forces :
    let passes := asking { calm with mode := .service } 0x20 [0, 1, 2, 3, 0, 0, 0, 0]
    let isolated := passes.setChannel 7 { InputChannel.reset with isolated := true }
    let code := fun (p : List Byte) (c : ChannelNo) => (p.getD c.val 0).toNat
    (asking calm 0x20 [0, 1, 2, 3, 0, 0, 0, 0]).Asked 0x20 [0, 1, 2, 3, 0, 0, 0, 0] ∧ calm.mode = .operate ∧
      passes.mode = .service ∧ (∃ c, 3 < code [0, 0, 0, 0, 0, 0, 0, 4] c) ∧
      (∀ c, code [0, 1, 2, 3, 0, 0, 0, 0] c ≤ 3) ∧
      (∀ c, code [0, 1, 2, 3, 0, 0, 0, 0] c ≠ 0 → (passes.channel c).isolated = false) ∧
      (∀ c, code [0, 1, 2, 3, 0, 0, 0, 0] c = 1 → ¬((passes.t6 c).cls = .fire ∧ (passes.channel c).confirmed = .active)) ∧
      (∃ c, code [0, 0, 0, 0, 0, 0, 0, 1] c ≠ 0 ∧ (isolated.channel c).isolated = true) ∧
      (∀ c, code [0, 1, 2, 3, 0, 0, 0, 0] c = 3 → (passes.t6 c).cls ≠ .fire) ∧
      (∀ c, (passes.channel c).force ≠ .none → (passes.t6 c).cls ≠ .fire) ∧ passes.link.inHand = none :=
  ⟨asking_asked _ _ _ rfl, rfl, rfl, by decide +kernel⟩

/-- ForcesAreSetAndCancelled, the reports: a FORCE to ACTIVE, to NORMAL and of a RELEASE, each of its own channel, with no report of an input in the queue. -/
theorem witness_force_reports :
    let force := fun f : Force => ({ InputChannel.reset with force := f } : InputChannel)
    let s := ((calm.setChannel 1 (force .active)).setChannel 2 (force .active)).setChannel 3 (force .normal)
    let force' := fun c : ChannelNo => [Force.active, .normal, .none, .none, .none, .none, .none, .none].getD c.val .none
    let reports := ((List.finRange 8).map fun c => forceReports (s.t6 c) (s.channel c) (force' c)).flatten
    reports.length = 3 ∧ reports.Pairwise (fun a b => { a with cls := b.cls } ≠ b) ∧
      (∀ r ∈ s.queue.records, r.report.source ≠ .input) ∧ s.ordinaryCount + reports.length ≤ 32 := by
  decide +kernel

/-- RaiseEntersTheQueue: numbers of 999, events 900 and 922, and a place free for the last record. -/
theorem witness_raise :
    let p := fun e1 e0 : Byte => ([1, 1, 3, 231, e1, e0, 3, 231] : List Byte)
    let s := asking (holding calm (fullQueue.take 31)) 0x10 (p 3 132)
    let rep : Report :=
      { cls := .fire, qualifier := .new, source := .host, sourceNumber := 999, event := 900, zone := 999 }
    s.Rested ∧ s.Asked 0x10 (p 3 132) ∧ raisedReport (p 3 132) = some rep ∧ (raisedReport (p 3 154)).isSome = true ∧
      s.mode = .operate ∧ s.joinable rep = none ∧ s.ordinaryCount < 32 ∧ s.find s.queue.ticketCounter = none :=
  ⟨rfl, asking_asked _ _ _ rfl, by decide +kernel⟩

/-- RaiseIsCheckedAndEndsService: each number at the first value outside its range, and a FIRE report in SERVICE, HELD with a hold limit to start. -/
theorem witness_raise_checks :
    let p := fun cls qualifier number event zone : Nat =>
      ([u8 cls, u8 qualifier, u8 (number / 256), u8 number, u8 (event / 256), u8 event, u8 (zone / 256), u8 zone] : List Byte)
    let bad := fun p : List Byte =>
      let number := fun i => (p.getD i 0).toNat * 256 + (p.getD (i + 1) 0).toNat
      p.getD 0 0 ∉ ([1, 2, 3, 4, 5] : List Byte) ∨ p.getD 1 0 ∉ ([1, 3, 6, 7, 8] : List Byte) ∨ 999 < number 2 ∨
        999 < number 4 ∨ 999 < number 6 ∨ (901 ≤ number 4 ∧ number 4 ≤ 921)
    let s : State :=
      asking { calm with mode := .service, hold := .held, dispatcher := Dispatcher.reset } 0x10 (p 1 1 999 900 999)
    (∀ q ∈ [p 0 1 0 0 0, p 6 1 0 0 0, p 1 2 0 0 0, p 1 9 0 0 0, p 1 1 1000 0 0, p 1 1 0 1000 0, p 1 1 0 0 1000,
      p 1 1 0 901 0, p 1 1 0 921 0], q.length = 8 ∧ bad q) ∧ ¬bad (p 1 1 999 900 999) ∧ ¬bad (p 5 8 999 922 999) ∧
      s.Rested ∧ s.Asked 0x10 (p 1 1 999 900 999) ∧ s.mode = .service ∧ s.hold = .held ∧ s.holdTimer = none ∧
      s.t1.holdLimit ≠ 0 ∧ s.storeCorrupt = false ∧ s.ordinaryCount < 32 ∧
      ((raisedReport (p 1 1 999 900 999)).any fun rep => rep.cls = .fire ∧ (s.joinable rep).isNone) = true := by
  unfold State.Rested State.Asked
  decide +kernel

/-- RaiseEntersTheQueue, the report of a record that waits: of its own class, and of a better one. -/
theorem witness_raise_joins :
    ∀ x ∈ [((3 : Byte), ReportClass.trouble), (2, .supervisory)],
      let p : List Byte := [x.1, 1, 0, 0, 0, 5, 0, 1]
      let s := asking (holding calm fullQueue) 0x10 p
      let rep : Report := { cls := x.2, qualifier := .new, source := .host, sourceNumber := 0, event := 5, zone := 1 }
      s.Rested ∧ p.length = 8 ∧ s.Asked 0x10 p ∧ ReportClass.ofRank (p.getD 0 0).toNat = some rep.cls ∧
        Qualifier.ofCode (p.getD 1 0).toNat = some rep.qualifier ∧ s.mode = .operate ∧ s.QueueKept ∧ s.LossKept ∧
        ((inRank s).find? fun r => r.report.qualifier = rep.qualifier ∧ r.report.source = .host ∧
          r.report.sourceNumber = rep.sourceNumber ∧ r.report.event = rep.event ∧ r.report.zone = rep.zone ∧
          (r.state = .waiting ∨ r.state = .stranded)) = some (waitingRecord 1) ∧
        (x.2.rank < (waitingRecord 1).report.cls.rank ∨ x.2 = (waitingRecord 1).report.cls) := by
  unfold State.Rested State.Asked State.QueueKept State.LossKept
  decide +kernel

/-- TestCallEntersOrIsLost: zones 999 and 1000, a place free and none, the LOSS record absent and in any state, at a repeat count of 255 too. -/
theorem witness_test_call (state : RecordState) (repeats : Nat) :
    let rep : Report :=
      { cls := .routine, qualifier := .status, source := .part, sourceNumber := 0, event := 911, zone := 999 }
    let loss := { waitingRecord 33 with report := lossReport, reserved := true, state, repeats }
    let s := asking (holding calm (fullQueue.take 31)) 0x12 [3, 231]
    let full := asking (holding calm (fullQueue ++ [loss])) 0x12 [3, 231]
    s.Rested ∧ s.Asked 0x12 [3, 231] ∧ full.Asked 0x12 [3, 231] ∧ 999 < (3 : Byte).toNat * 256 + (232 : Byte).toNat ∧
      (3 : Byte).toNat * 256 + (231 : Byte).toNat ≤ 999 ∧ s.joinable rep = none ∧ s.ordinaryCount < 32 ∧
      full.joinable rep = none ∧ full.ordinaryCount = 32 ∧ full.lossRecord = some loss ∧ s.lossRecord = none :=
  ⟨rfl, asking_asked _ _ _ rfl, asking_asked _ _ _ rfl, by decide +kernel, by decide +kernel, by decide +kernel,
    by decide +kernel, by cases state <;> rfl, by cases state <;> rfl, rfl, rfl⟩

/-- BetterRankEvicts: a full queue of TROUBLE records, and a SUPERVISORY report. -/
theorem witness_evict :
    let p : List Byte := [2, 1, 0, 0, 0, 1, 0, 0]
    let s := asking (holding calm fullQueue) 0x10 p
    let rep : Report :=
      { cls := .supervisory, qualifier := .new, source := .host, sourceNumber := 0, event := 1, zone := 0 }
    s.Rested ∧ s.QueueKept ∧ s.Asked 0x10 p ∧ raisedReport p = some rep ∧ s.joinable rep = none ∧
      s.ordinaryCount = 32 ∧
      ((inRank s).filter fun x => !x.reserved && x.isFree && decide (2 < x.report.cls.rank)).getLast? = some (waitingRecord 32) := by
  refine ⟨rfl, ?_, asking_asked _ _ _ rfl, by decide +kernel⟩
  unfold State.QueueKept; decide +kernel

/-- WithdrawRemovesTheRecord: ticket 0, no such ticket, FIRE, IN-FLIGHT, WAITING. -/
theorem witness_withdraw :
    let fire := { waitingRecord 1 with report := { (waitingRecord 1).report with cls := .fire } }
    let flight := { waitingRecord 2 with state := .inFlight }
    let s := asking (holding calm [fire, flight, waitingRecord 3]) 0x11 [0, 3]
    s.Rested ∧ s.Asked 0x11 [0, 3] ∧ s.find 9 = none ∧ s.find 1 = some fire ∧ fire.report.cls = .fire ∧
      s.find 2 = some flight ∧ flight.report.cls ≠ .fire ∧ s.find 3 = some (waitingRecord 3) ∧
      (waitingRecord 3).state ≠ .inFlight ∧ (waitingRecord 3).reserved = false :=
  ⟨rfl, asking_asked _ _ _ rfl, rfl, rfl, rfl, rfl, by decide +kernel⟩

/-- AgesAndTestsRecur: the sixtieth second, and a test timer that ends. -/
theorem witness_age :
    let s := holding calm [waitingRecord 1]
    let test : State := { calm with queue := { Queue.reset with testTimer := some 700000 } }
    s.Rested ∧ s.find 1 = some (waitingRecord 1) ∧ (waitingRecord 1).age < 255 ∧
      (waitingRecord 1).enteredAt + 60 * ((waitingRecord 1).age + 1) ≤ max s.now 700000 / 1000 ∧
      test.queue.testTimer = some 700000 ∧ 700000 ≤ max test.now 700000 := by
  refine ⟨rfl, by decide +kernel⟩

/-- BackoffAndRestEnd and DispatcherStartsTheCall: a due time reached, a WAITING record of the receiver that is the first to wait, line 4 first in the search; FREE, TENANT and to be seized for a SUPERVISORY record, and no line at all. -/
theorem witness_backoff (cls : ReportClass) (occupancy : Occupancy) :
    let r := { waitingRecord 1 with report := { (waitingRecord 1).report with cls } }
    let tables := { Tables.default with t2 := Tables.default.t2.set 3 { T2.default with seizeTenant := true } }
    let s : State :=
      { (holding (calm.setLine 3 { readyLine with ctl := { readyLine.ctl with occupancy } }) [r]).setRx 0
          { state := .backoff, failures := 1, due := some 700 } with tables }
    let x := calm.setRx 0 { state := .exhausted, failures := 4, due := some 700 }
    s.Rested ∧ (s.rx 0).state = .backoff ∧ (s.rx 0).due = some 700 ∧ 700 ≤ max s.now 700000 / 1000 ∧
      s.dispatcher.gateOpen = true ∧ ((inRank s).find? fun x => x.state = .waiting) = some r ∧
      (∀ r ∈ s.queue.records, r.state = .waiting → firstUsable s r.pendingList = some 0) ∧
      rotationOrder s.fitted s.rotation = [] ++ 3 :: [2, 1, 0] ∧ (s.ctl 3).occupancy = occupancy ∧
      (s.ctl 3).fault = .none ∧ (s.ctl 3).lend = .none ∧ s.usable 3 = true ∧ (s.t2 3).seizeTenant = true ∧
      (occupancy ≠ .free → ∀ k, ¬((s.ctl k).occupancy = .free ∧ (s.ctl k).fault = .none)) ∧
      (occupancy = .ringing → ∀ k, ¬Grants s k) ∧ (cls = .supervisory → seizes s r = true) ∧ s.dispatcher.held = [] ∧
      (x.rx 0).state = .exhausted ∧ (x.rx 0).due = some 700 := by
  unfold State.Rested Grants
  cases cls <;> cases occupancy <;> decide +kernel

/-- A part whose line 4 alone is there to be granted, first in the search; every route has the chain of entry 1, in the tables and as evaluated. -/
def lineFour (occupancy : Occupancy) : State :=
  { calm.setLine 3 { readyLine with ctl := { readyLine.ctl with occupancy } } with
    tables :=
      { Tables.default with
        t2 := Tables.default.t2.set 3 { T2.default with seizeTenant := true }
        t3 := Tables.default.t3.set 0 { T3.default with dialNumber := [1] }
        t4 := Vector.replicate 8 { head := 1, mode := .any } }
    routes := Vector.replicate 8 { valid := true, chain := [0] } }

/-- The search ends on line 4: FREE for any record, TENANT for one that is seize-eligible. -/
theorem search_ends_on_line_4 (occupancy : Occupancy) (s : State) (eligible : Prop)
    (lines : s.lines = (lineFour occupancy).lines) (tables : s.tables = (lineFour occupancy).tables)
    (fitted : s.fitted = 4) (rotation : s.rotation = 4)
    (h : occupancy = .free ∨ (occupancy = .tenant ∧ eligible)) : SearchEnds s eligible 3 := by
  unfold SearchEnds Grants State.ctl State.line State.t2
  rw [lines, tables, fitted, rotation]
  refine ⟨[], [2, 1, 0], by decide, ?_⟩
  rcases h with rfl | ⟨rfl, h⟩
  · exact .inl (by decide +kernel)
  · exact .inr ⟨h, by decide +kernel⟩

/-- DispatcherStartsTheCall, a backoff that ends, an admission and the openings of the gate: line 4 FREE, and TENANT with a record to seize it. -/
theorem witness_dispatch (occupancy : Occupancy) (h : occupancy = .free ∨ occupancy = .tenant) :
    let r := { waitingRecord 1 with report := raising .supervisory, pendingList := [0] }
    let s := lineFour occupancy
    let back := (holding s [r]).setRx 0 { state := .backoff, failures := 1, due := some 700 }
    let raised := asking s 0x10 (raiseOf 2)
    let held : State :=
      asking { holding s [r] with hold := .held, holdTimer := some 700000, dispatcher := Dispatcher.reset } 0x34 []
    let stranded := { r with state := .stranded, pendingList := [] }
    let service : State := asking { holding s [stranded] with mode := .service, dispatcher := Dispatcher.reset } 0x33 [1]
    (SearchEnds back (seizes back r = true) 3 ∧ SearchEnds held (seizes held r = true) 3 ∧
        SearchEnds raised ((raising .supervisory).cls = .fire ∨ (raising .supervisory).cls = .supervisory) 3 ∧
        SearchEnds service (stranded.report.cls = .fire ∨ stranded.report.cls = .supervisory) 3) ∧
      (raised.Asked 0x10 (raiseOf 2) ∧ held.Asked 0x34 [] ∧ service.Asked 0x33 [1]) ∧
      (back.Rested ∧ raised.Rested ∧ held.Rested ∧ service.Rested) ∧
      (raisedReport (raiseOf 2) = some (raising .supervisory) ∧ raised.joinable (raising .supervisory) = none ∧
        raised.ordinaryCount < 32 ∧ raised.dispatcher.gateOpen = true ∧ raised.queue.records = [] ∧
        firstUsable raised (raised.buildPending (raised.classRoute .supervisory) []) = some 0 ∧
        (raised.rx 0).state = .ready ∧ ∀ k, raised.call k = none) ∧
      (held.hold = .held ∧ held.storeCorrupt = false ∧ held.holdTimer = some 700000 ∧ held.mode = .operate ∧
        held.dispatcher.gateOpen = false ∧ (held.rx 0).state = .ready ∧
        ((inRank held).find? fun x => x.state = .waiting) = some r ∧ firstUsable held r.pendingList = some 0) ∧
      (service.mode = .service ∧ service.hold = .released ∧ (∀ c, (service.channel c).force = .none) ∧
        service.queue.records = [stranded] ∧ (∀ k, service.call k = none) ∧
        IsRouteChain service.tables.t3 (service.t4 (service.classRoute stranded.report.cls)).head [0] ∧
        firstUsable service [0] = some 0 ∧ (service.rx 0).state = .ready) ∧
      (held.ctl 3).lend = .none ∧ held.usable 3 = true := by
  have found : ∀ (s : State) (eligible : Prop), s.lines = (lineFour occupancy).lines →
      s.tables = (lineFour occupancy).tables → s.fitted = 4 → s.rotation = 4 → eligible → SearchEnds s eligible 3 :=
    fun s eligible a b c d e => search_ends_on_line_4 occupancy s eligible a b c d (h.imp id fun x => ⟨x, e⟩)
  refine ⟨⟨found _ _ rfl rfl rfl rfl ?_, found _ _ rfl rfl rfl rfl ?_, found _ _ rfl rfl rfl rfl (.inr rfl),
    found _ _ rfl rfl rfl rfl (.inr rfl)⟩, ⟨asking_asked _ _ _ rfl, asking_asked _ _ _ rfl, asking_asked _ _ _ rfl⟩,
    ⟨rfl, rfl, rfl, rfl⟩, ?_, ?_, ?_, rfl, ?_⟩
  all_goals rcases h with rfl | rfl
  all_goals try decide +kernel
  all_goals exact ⟨rfl, rfl, by decide +kernel, rfl, by decide +kernel,
    ⟨by decide, by decide, by decide, rfl, by decide +kernel, rfl⟩, by decide +kernel, rfl⟩

/-- A part that waits for a frame to be sent, with line 1 LENT and the other lines unknown, a FIRE record and its receiver's due time reached. -/
def heldBack : State :=
  let lent := { readyLine with ctl := { readyLine.ctl with lend := .lent, occupancy := .lent } }
  let fire := { waitingRecord 1 with report := { (waitingRecord 1).report with cls := .fire } }
  let s := (lined lent).setLink { calm.link with transmitter := .notice [] }
  (holding s [fire]).setRx 0 { state := .backoff, failures := 1, due := some 700 }

/-- UrgentAndHeldBack: no line that would be granted, one LENT, and a FIRE record for the receiver that is READY again. -/
theorem witness_urgent :
    let s := heldBack
    let s1 := s.setRx 0 { state := .ready, failures := (s.rx 0).failures, due := none }
    s.Rested ∧ (s.rx 0).state = .backoff ∧ (s.rx 0).due = some 700 ∧ 700 ≤ max s.now 700000 / 1000 ∧
      s.dispatcher.held = [] ∧ s.dispatcher.urgent = false ∧ s.dispatcher.gateOpen = true ∧
      (∀ l : LineNo, l.val < s.fitted → ¬Grants s l) ∧ (∃ l, (s.ctl l).lend = .lent) ∧ s.RotationKept ∧
      s.link.receiver ≠ .silent ∧ s.link.transmitter ≠ .idle ∧ s.link.notices.length < 16 ∧
      ((inRank s1).find? fun r => waitsForReady s1 r && seizes s1 r).isSome = true := by
  unfold State.Rested Grants State.RotationKept
  decide +kernel

/-- RoutesAreEvaluated: SERVICE, a route whose chain is entry 1 alone and routes without a head, a record that waits, no call. -/
theorem witness_routes :
    let tables :=
      { Tables.default with
        t3 := Tables.default.t3.set 0 { T3.default with dialNumber := [11, 1] }
        t4 := Tables.default.t4.set 0 { head := 1, mode := .each } }
    let s : State := asking { holding calm [waitingRecord 1] with mode := .service, tables } 0x33 [1]
    IsRouteChain s.tables.t3 (s.t4 0).head [0] ∧ (∀ chain, ¬IsRouteChain s.tables.t3 (s.t4 1).head chain) ∧
      s.Asked 0x33 [1] ∧ s.tables.InRange ∧ s.Rested ∧ s.mode = .service ∧ (∀ c, (s.channel c).force = .none) ∧
      s.FaultsKept ∧ (∀ l, s.call l = none) ∧ (s.queue.records.map Record.ticket).Nodup := by
  refine ⟨⟨by decide, by decide, by decide, rfl, by decide +kernel, rfl⟩, ?_, asking_asked _ _ _ rfl, ?_, ?_⟩
  · rintro (_ | ⟨e, rest⟩) ⟨some_, -, -, walk⟩
    · exact some_ rfl
    · exact absurd walk.1 (by unfold num; exact (Nat.succ_ne_zero _).symm)
  · refine ⟨by unfold T1.InRange; decide, fun i => ?_, fun i => ?_, fun i => ?_, fun i => ?_⟩ <;> revert i
    · unfold T2.InRange; decide +kernel
    · unfold T3.InRange; decide +kernel
    · unfold T4.InRange; decide +kernel
    · unfold T6.InRange; decide +kernel
  · unfold State.Rested State.FaultsKept
    decide +kernel

/-- TakenLineReachesDialling: CLEARDOWN over, and dial tone of exactly 800 ms, for a probe and for a report. -/
theorem witness_taken :
    let heard := { callIn .dialtone with tone := { ToneRecord.fresh with openSegment := some (.dial, 699200) } }
    let probe := { heard with purpose := .probe, receiver := none }
    let s := calling heard
    (calling (callIn .cleardown)).TimerEnds 0 (callIn .cleardown) 700000 ∧ (callIn .cleardown).state = .cleardown ∧
      s.call 0 = some heard ∧ heard.state = .dialtone ∧ 699200 + 800 ≤ max s.now 700000 ∧ heard.purpose = .report ∧
      heard.receiver = some 0 ∧ (calling probe).call 0 = some probe ∧
      ((calling probe).line 0).sending.tickets = [] ∧ ((calling probe).line 0).next.tickets = [] :=
  ⟨calling_ends _ rfl, rfl, rfl, rfl, by decide +kernel⟩

/-- The second part of TakenLineReachesDialling: numbers to dial that begin with a digit, with '-', with two 'W' and of 'W' alone, and the empty number. -/
theorem witness_dial_number :
    let s := fun dialNumber : List Nat =>
      { calm with tables := { Tables.default with t3 := Tables.default.t3.set 0 { T3.default with dialNumber } } }
    let string := fun n => ((s n).t2 0).dialPrefix ++ ((s n).t3 0).dialNumber
    (∀ n ∈ [[11, 1], [12, 1], [13, 13, 1], [13]], ((s n).t3 0).dialNumber ≠ []) ∧ ((s []).t3 0).dialNumber = [] ∧
      (string [11, 1])[pastWaits (string [11, 1]) 0]? = some 11 ∧
      (string [12, 1])[pastWaits (string [12, 1]) 0]? = some 12 ∧ pastWaits (string [13, 13, 1]) 0 = 2 ∧
      (string [13, 13, 1])[2]? = some 1 ∧ (string [13])[pastWaits (string [13]) 0]? = none := by decide +kernel

/-- TimersReleaseTheCall and AbortReleasesTheCall: every state that a timer ends, DELAY and GAP among them, RELEASE, no call. -/
theorem witness_timers (st : CallState) :
    (calling (callIn st)).Rested ∧ (calling (callIn st)).TimerEnds 0 (callIn st) 700000 ∧ (callIn st).state = st ∧
      (callIn st).limitTimer = some 700000 ∧ ((calling (callIn st)).line 0).sending.tickets = [] ∧
      ((calling (callIn st)).line 0).next.tickets = [] ∧
      (asking (calling (callIn st)) 0x28 [1]).Asked 0x28 [1] ∧ (asking (calling (callIn st)) 0x28 [1]).call 0 = some (callIn st) ∧
      ofNum 4 (1 : Byte).toNat = some 0 ∧ ofNum 4 (0 : Byte).toNat = none ∧ calm.call 0 = none :=
  ⟨rfl, calling_ends _ rfl, rfl, rfl, rfl, rfl, asking_asked _ _ _ rfl, rfl, rfl, rfl, rfl⟩

/-- AbortReleasesTheCall: a FIRE record in NEXT; a call in PREPARE behind a closed gate, that has yet to take its line. -/
theorem witness_abort :
    let fire := { waitingRecord 1 with report := { (waitingRecord 1).report with cls := .fire }, state := .staged }
    let s := holding (lined { callLine (callIn (.exchange .gap)) with next := { tickets := [1], block := [] } }) [fire]
    let prepare : State := { calling (callIn .prepare) with dispatcher := Dispatcher.reset }
    (∃ r ∈ s.queue.records, r.report.cls = .fire ∧ r.ticket ∈ (s.line 0).sending.tickets ++ (s.line 0).next.tickets) ∧
      (callIn (.exchange .gap)).state ≠ .release ∧ prepare.Rested ∧ prepare.call 0 = some (callIn .prepare) ∧
      (¬∃ r ∈ prepare.queue.records, r.report.cls = .fire ∧
        r.ticket ∈ (prepare.line 0).sending.tickets ++ (prepare.line 0).next.tickets) ∧
      prepare.dispatcher.gateOpen = false ∧ (0 : LineNo).val < prepare.fitted ∧ (prepare.ctl 0).lend = .none ∧
      (prepare.ctl 0).disablePending = false ∧ (prepare.ctl 0).power ≠ .off ∧ (callIn .prepare).receiver = some 0 := by
  unfold State.Rested
  decide +kernel

/-- SymbolsFollowOneAnother: a dialled symbol and a block symbol sounding; a gap before a symbol and after the last; a retry of the second send. -/
theorem witness_symbols :
    let sounding := fun st => { callLine (callIn st) with iface := { offHook := true, relayOpen := true, sender := some 3 } }
    let block := { callLine (callIn (.exchange (.transmit 0))) with sending := { tickets := [1], block := [11, 4] } }
    let retry := { callIn (.exchange .retry) with sendCount := some 2 }
    (lined (sounding .dialling)).TimerEnds 0 (callIn .dialling) 700000 ∧
      ((lined (sounding .dialling)).line 0).iface.sender = some 3 ∧
      (lined (sounding (.exchange (.transmit 0)))).TimerEnds 0 (callIn (.exchange (.transmit 0))) 700000 ∧
      (lined block).TimerEnds 0 (callIn (.exchange (.transmit 0))) 700000 ∧ ((lined block).line 0).iface.sender = none ∧
      ((lined block).line 0).sending.block[0 + 1]? = some 4 ∧ ((lined block).line 0).sending.block[1 + 1]? = none ∧
      (calling retry).TimerEnds 0 retry 700000 ∧ retry.sendCount = some 2 :=
  ⟨lined_ends _ _ rfl rfl, rfl, lined_ends _ _ rfl rfl, lined_ends _ _ rfl rfl, rfl, rfl, rfl, calling_ends _ rfl, rfl⟩

/-- SymbolsFollowOneAnother, a symbol dialled: what remains begins with a pause, and with 'W' after a pause with the tone heard and not; second dial tone of exactly 800 ms. -/
theorem witness_dialling :
    let tone := { ToneRecord.fresh with openSegment := some (.dial, 699200) }
    let heard := { callIn .secondTone with tone }
    let c := callIn .dialling
    let second := { c with dialPos := 1 }
    (calling c).Rested ∧ (calling c).TimerEnds 0 c 700000 ∧ ((calling c).line 0).iface.sender = none ∧
      (calling second).TimerEnds 0 second 700000 ∧ (calling { second with tone }).TimerEnds 0 { second with tone } 700000 ∧
      c.dialString[c.dialPos + 1]? = some 12 ∧ second.dialString[second.dialPos + 1]? = some 13 ∧
      second.tone.openSegment = none ∧ heard.state = .secondTone ∧ (calling heard).call 0 = some heard ∧
      699200 + 800 ≤ max (calling heard).now 700000 :=
  ⟨rfl, calling_ends _ rfl, rfl, calling_ends _ rfl, calling_ends _ rfl, rfl, rfl, rfl, rfl, rfl, by decide +kernel⟩

/-- GuardEndSettlesReceiverAndLine, the receiver: one failure short of the attempt limit, and at it. -/
theorem witness_guard (r : CallResult) :
    let c := { callIn .release with result := some r }
    let s := (calling c).setRx 0 { state := .calling, failures := 3, due := none }
    s.Rested ∧ s.TimerEnds 0 c 700000 ∧ c.state = .release ∧ c.purpose = .report ∧ c.receiver = some 0 ∧
      c.result = some r ∧ 1 ≤ s.t1.retryBase ∧ (s.t3 0).attemptLimit ≤ (s.rx 0).failures + 1 ∧
      ((calling c).rx 0).failures + 1 < ((calling c).t3 0).attemptLimit :=
  ⟨rfl, ⟨rfl, 700000, rfl, now_reached⟩, rfl, rfl, rfl, rfl, (show 1 ≤ 10 by decide +kernel), Nat.le_refl 4, (show 0 + 1 < 4 by decide +kernel)⟩

/-- GuardEndSettlesReceiverAndLine, the line behind a closed gate: any result, purpose, no-tone count, fault and lend, a disable pending and none. -/
theorem witness_guard_line (r : CallResult) (purpose : Purpose) (noTone : Nat) (fault : LineFault) (lend : Lend)
    (disablePending : Bool) :
    let c := { callIn .release with result := some r, purpose }
    let x := { callLine c with ctl := { (callLine c).ctl with noTone, fault, lend, disablePending } }
    let tables := { Tables.default with t2 := Tables.default.t2.set 0 { T2.default with enabled := false } }
    let s : State := { lined x with dispatcher := Dispatcher.reset, tables }
    s.Rested ∧ s.TimerEnds 0 c 700000 ∧ c.state = .release ∧ c.result = some r ∧ c.purpose = purpose ∧
      s.dispatcher.gateOpen = false ∧ (0 : LineNo).val < s.fitted ∧ (s.ctl 0).power ≠ .off ∧
      (s.ctl 0).noTone = noTone ∧ (s.ctl 0).fault = fault ∧ (s.ctl 0).lend = lend ∧
      (s.ctl 0).disablePending = disablePending ∧ (s.t2 0).enabled = false ∧ s.link.faults = [] ∧
      s.queue.records = [] :=
  ⟨rfl, ⟨rfl, 700000, rfl, now_reached⟩, rfl, rfl, rfl, rfl, (show 0 < 4 by decide), nofun, rfl, rfl, rfl, rfl, rfl, rfl, rfl⟩

/-- ChecksCloseTheirSums. -/
theorem witness_checks : [lossReport] ≠ [] := by decide +kernel

/-- BlocksAreClaimedAndMoved, the end of DELAY: five records of the receiver, so that one goes into NEXT, and none. -/
theorem witness_delay :
    let c := callIn (.exchange .delay)
    let s := holding (calling c) (fullQueue.take 5)
    s.Rested ∧ s.TimerEnds 0 c 700000 ∧ c.receiver = some 0 ∧ (s.ctl 0).occupancy = .call ∧ (s.ctl 0).lend ≠ .lent ∧
      (s.line 0).next.tickets = [] ∧ (s.queue.records.map Record.ticket).Nodup ∧ (waitingFor s 0).take 4 ≠ [] ∧
      (waitingFor (calling c) 0).take 4 = [] :=
  ⟨rfl, ⟨rfl, 700000, rfl, now_reached⟩, rfl, rfl, by decide +kernel⟩

/-- FailedSendsEndInRetryOrRelease: silence after the second send; a counting segment of exactly 1140 ms; a REPEAT of 150 ms begun at the end of the window. -/
theorem witness_retries :
    let c := { callIn (.exchange (.reply 698460)) with sendCount := some 2 }
    let long := { callIn (.exchange (.reply 697360)) with
      sendCount := some 2, stateTimer := none, tone := { ToneRecord.fresh with openSegment := some (.t2, 698860) } }
    let x := { callLine { c with state := .exchange (.reply 698330) } with
      detector := hearing (some { band := .t2, onset := 699830, stopped := some 699980 }) }
    (calling c).TimerEnds 0 c 700000 ∧ c.sendCount = some 2 ∧ c.tone.openSegment = none ∧ (calling long).call 0 = some long ∧
      long.stateTimer = none ∧ 697360 ≤ 698860 ∧ 698860 ≤ 697360 + 1500 ∧ 698860 + 1140 ≤ max (calling long).now 700000 ∧
      ((lined x).detector 0).segment = some { band := .t2, onset := 699830, stopped := some 699980 } ∧
      699830 ≤ 698330 + 1500 ∧ 150 ≤ 699980 - 699830 ∧ 699980 + 20 ≤ max (lined x).now 700000 :=
  ⟨calling_ends _ rfl, rfl, rfl, rfl, rfl, by decide +kernel⟩

/-- FailedSendsEndInRetryOrRelease, the third send, with a flag set and without: silence; a counting segment open for 1139 ms and for 1140 ms; a REPEAT of 400 ms, and a segment of 599 ms after the timer. -/
theorem witness_third (cutShort : Bool) :
    let c := { callIn (.exchange (.reply 698460)) with sendCount := some 3, cutShort }
    let sounding := fun onset => { c with tone := { ToneRecord.fresh with openSegment := some (.t2, onset) } }
    let long := { sounding 698860 with stateTimer := none }
    let late := { c with stateTimer := none }
    let x := fun c onset => { callLine c with
      detector := hearing (some { band := .t2, onset, stopped := some 699980 }) }
    ((calling c).Rested ∧ c.purpose = .report ∧ c.sendCount = some 3 ∧ ((calling c).ctl 0).occupancy = .call ∧
        ((calling c).ctl 0).lend ≠ .lent) ∧
      ((calling c).TimerEnds 0 c 700000 ∧ c.tone.openSegment = none ∧
        (calling (sounding 698861)).TimerEnds 0 (sounding 698861) 700000 ∧
        (sounding 698861).tone.openSegment = some (.t2, 698861) ∧ 698460 ≤ 698861 ∧ 698861 ≤ 698460 + 1500 ∧
        max calm.now 700000 < 698861 + 1140) ∧
      ((calling long).call 0 = some long ∧ long.stateTimer = none ∧ long.tone.openSegment = some (.t2, 698860) ∧
        698860 + 1140 ≤ max calm.now 700000) ∧
      ((lined (x c 699580)).call 0 = some c ∧ (lined (x late 699381)).call 0 = some late ∧ late.stateTimer = none ∧
        ((lined (x c 699580)).detector 0).since = ⟨none, none, none⟩ ∧ 699580 ≤ 698460 + 1500 ∧
        699980 - 699580 ≤ 400 ∧ ¬600 ≤ 699980 - 699381 ∧ 699980 + 20 ≤ max calm.now 700000) :=
  ⟨⟨rfl, rfl, rfl, rfl, nofun⟩, ⟨calling_ends _ rfl, rfl, calling_ends _ rfl, rfl, by decide +kernel⟩,
    ⟨rfl, rfl, rfl, now_reached⟩, rfl, rfl, rfl, rfl, by decide +kernel⟩

/-- AcceptDeliversTheBlock: an ACCEPT of exactly 600 ms, begun as the window opens, with ticket 1 in flight on its route, to this receiver alone and to another after it, with NEXT empty and not. -/
theorem witness_accept (mode : RouteMode) (pendingList : List RxNo) (next : Slot) (cutShort : Bool) :
    let c := { callIn (.exchange (.reply 699380)) with cutShort }
    let x := { callLine c with
      detector := hearing (some { band := .t2, onset := 699380, stopped := some 699980 })
      sending := { tickets := [1], block := [] }, next }
    let flight := { waitingRecord 1 with state := .inFlight, pendingList }
    let tables := { Tables.default with t4 := Tables.default.t4.set 0 { head := 1, mode } }
    let s : State :=
      { (holding (lined x) [flight]).setRx 0 { state := .calling, failures := 1, due := none } with tables }
    (s.Rested ∧ s.call 0 = some c ∧ c.receiver = some 0 ∧ (s.rx 0).state = .calling ∧ (s.ctl 0).occupancy = .call ∧
        (s.ctl 0).lend ≠ .lent ∧ (s.queue.records.map Record.ticket).Nodup ∧ s.LossKept) ∧
      ((s.detector 0).listening = true ∧ (s.detector 0).since = ⟨none, none, none⟩ ∧
        699980 + 20 ≤ max s.now 700000 ∧ 699380 ≤ 699380 + 1500 ∧ 600 ≤ 699980 - 699380) ∧
      flight ∈ s.queue.records ∧ flight.ticket ∈ (s.line 0).sending.tickets ∧ (s.line 0).next = next ∧
      (s.t4 flight.route).mode = mode ∧ flight.reserved = false ∧ c.lendPending = false ∧ c.cutShort = cutShort := by
  refine ⟨⟨rfl, rfl, rfl, rfl, rfl, nofun, List.nodup_singleton _, ?_⟩, ⟨rfl, rfl, now_reached, by decide⟩,
    List.mem_singleton.2 rfl, List.mem_singleton.2 rfl, rfl, rfl, rfl, rfl, rfl⟩
  intro r h
  rcases List.mem_singleton.1 h with rfl
  exact ⟨nofun, nofun⟩

/-- BlocksAreClaimedAndMoved, the end of the gap, with a record in NEXT and with none. -/
theorem witness_gap :
    let c := callIn (.exchange .gap)
    let s := holding (lined { callLine c with next := { tickets := [1], block := [11, 4] } })
      [{ waitingRecord 1 with state := .staged }, waitingRecord 2]
    s.Rested ∧ s.TimerEnds 0 c 700000 ∧ c.receiver = some 0 ∧ (s.ctl 0).occupancy = .call ∧ (s.ctl 0).lend ≠ .lent ∧
      (s.line 0).next.tickets ≠ [] ∧ (s.queue.records.map Record.ticket).Nodup ∧
      ((calling c).line 0).next.tickets = [] ∧ ((calling c).line 0).sending.tickets = [] :=
  ⟨rfl, ⟨rfl, 700000, rfl, now_reached⟩, rfl, rfl, by decide +kernel⟩

/-- A call to entry 1 in a phase, with the first `held` tickets STAGED in NEXT, a class map that leads TROUBLE and better to entry 1 alone, and other records that wait. -/
def staging (phase : Phase) (cutShort : Bool) (held : Nat) (others : List Record) : State :=
  let tickets := (List.range held).map (· + 1)
  let staged := tickets.map fun k => { waitingRecord k with state := .staged }
  let c := { callIn (.exchange phase) with cutShort }
  let s := holding (lined { callLine c with next := { tickets, block := [] } }) (staged ++ others)
  { s with routes := Vector.replicate 8 { valid := true, chain := [0] } }

/-- What NextFollowsItsRecords asks of a RAISE that finds room or a record to evict. -/
def Arrives (s : State) (p : List Byte) (rep : Report) (phase : Phase) (cutShort : Bool) : Prop :=
  s.Rested ∧ s.QueueKept ∧ p.length = 8 ∧ raisedReport p = some rep ∧ s.mode = .operate ∧ s.joinable rep = none ∧
    s.call 0 = some { callIn (.exchange phase) with cutShort } ∧ (s.ctl 0).occupancy = .call ∧ (s.ctl 0).lend ≠ .lent ∧
    (∀ k, k ≠ 0 → s.call k = none) ∧ firstUsable s (s.buildPending (s.classRoute rep.cls) []) = some 0 ∧
    ((inRank s).filter fun r => r.ticket ∈ (s.line 0).next.tickets).map Record.ticket = (s.line 0).next.tickets ∧
    ∀ r ∈ s.queue.records, r.ticket ∈ (s.line 0).next.tickets →
      r.state = .staged ∧ firstUsable s r.pendingList = some 0

/-- A full queue with a LOSS record, of which four are in NEXT. -/
def fullStaging : State :=
  staging .retry false 4 (fullQueue.drop 4 ++ [{ waitingRecord 40 with report := lossReport, reserved := true }])

/-- NextFollowsItsRecords, a record that enters: NEXT with three and with four, a record ahead of its last and one behind, DELAY, a flag set, and a full queue with a LOSS record. -/
theorem witness_next :
    Arrives (staging .gap false 3 []) (raiseOf 2) (raising .supervisory) .gap false ∧
      Arrives (staging .gap false 4 []) (raiseOf 2) (raising .supervisory) .gap false ∧
      Arrives (staging .gap false 4 []) (raiseOf 3) (raising .trouble) .gap false ∧
      Arrives (staging .delay false 0 []) (raiseOf 3) (raising .trouble) .delay false ∧
      Arrives (staging .retry true 2 []) (raiseOf 3) (raising .trouble) .retry true ∧
      Arrives fullStaging (raiseOf 2) (raising .supervisory) .retry false := by
  unfold Arrives State.Rested State.QueueKept
  refine ⟨?_, ?_, ?_, ?_, ?_, ?_⟩ <;> decide +kernel

/-- R138: a SUPERVISORY record and a FIRE record handed on together to a NEXT full of TROUBLE records each displace one, in whichever order they are taken. -/
theorem test_recomposes_for_each :
    let arriving := fun (k : Nat) (cls : ReportClass) =>
      { waitingRecord k with report := { (waitingRecord k).report with cls } }
    let s := staging .retry false 4 [arriving 5 .supervisory, arriving 6 .fire]
    ∀ tickets ∈ [[5, 6], [6, 5]],
      let u := (s.setWork { s.work with handOns := tickets }).drain
      (u.line 0).next.tickets = [6, 5, 1, 2] ∧ u.work.handOns = [] ∧
        u.queue.records.map (fun r => (r.ticket, r.state)) =
          [(1, .staged), (2, .staged), (3, .waiting), (4, .waiting), (5, .staged), (6, .staged)] := by
  decide +kernel

/-- NextFollowsItsRecords: room for a record, the last of NEXT between the two classes, and the record to evict. -/
theorem witness_next_room :
    (staging .gap false 4 []).ordinaryCount < 32 ∧
      (∃ last ∈ (staging .gap false 4 []).queue.records,
        ((staging .gap false 4 []).line 0).next.tickets.getLast? = some last.ticket ∧
          ReportClass.supervisory.rank < last.report.cls.rank ∧ last.report.cls.rank ≤ ReportClass.trouble.rank) ∧
      fullStaging.ordinaryCount = 32 ∧ fullStaging.lossRecord ≠ none ∧
      (((inRank fullStaging).filter fun x =>
        !x.reserved && x.isFree && decide (ReportClass.supervisory.rank < x.report.cls.rank)).getLast?).isSome = true ∧
      fullStaging.link.inHand = none := by
  decide +kernel

/-- NextFollowsItsRecords, a withdrawal from NEXT, with a flag set and without. -/
theorem witness_next_withdrawn (cutShort : Bool) :
    let s := asking (staging .gap cutShort 4 [waitingRecord 5]) 0x11 [0, 4]
    let r := { waitingRecord 4 with state := .staged }
    s.Rested ∧ s.QueueKept ∧ s.Asked 0x11 [0, 4] ∧ r ∈ s.queue.records ∧
      r.ticket = (0 : Byte).toNat * 256 + (4 : Byte).toNat ∧ r.report.cls ≠ .fire ∧ r.reserved = false ∧
      r.ticket ∈ (s.line 0).next.tickets ∧ (∀ k, k ≠ 0 → r.ticket ∉ (s.line k).next.tickets) ∧
      s.call 0 = some { callIn (.exchange .gap) with cutShort } ∧ (s.ctl 0).occupancy = .call ∧ (s.ctl 0).lend ≠ .lent := by
  unfold State.Rested State.QueueKept State.Asked
  cases cutShort <;> decide +kernel

/-- LossRecordLeavesAndReturns: the LOSS record WAITING and STAGED at a WITHDRAW, and IN-FLIGHT at an ACCEPT, on its route to this receiver alone and to another after it, with losses held and with none. -/
theorem witness_loss (heldLosses : Nat) (held : heldLosses = 0 ∨ heldLosses = 2) (mode : RouteMode) :
    let loss := fun (state : RecordState) (pendingList : List RxNo) =>
      { waitingRecord 2 with report := lossReport, reserved := true, state, pendingList }
    let with' := fun (s : State) => s.setQueue { s.queue with heldLosses }
    let waits := with' (asking (holding calm [waitingRecord 1, loss .waiting [0]]) 0x11 [0, 2])
    let c := callIn (.exchange (.reply 699380))
    let x := { callLine c with
      detector := hearing (some { band := .t2, onset := 699380, stopped := some 699980 })
      sending := { tickets := [2], block := [] } }
    let tables := { Tables.default with t4 := Tables.default.t4.set 0 { head := 1, mode } }
    let flight := fun pendingList : List RxNo =>
      with' { holding (lined x) [waitingRecord 1, loss .inFlight pendingList] with tables }
    (waits.Rested ∧ waits.Asked 0x11 [0, 2] ∧ waits.lossRecord = some (loss .waiting [0]) ∧
        (loss .staged [0]).state ≠ .inFlight) ∧
      waits.QueueKept ∧ waits.LossKept ∧
      ∀ pendingList ∈ [[0], [(0 : RxNo), 1]],
        (flight pendingList).QueueKept ∧ (flight pendingList).LossKept ∧
          HearsAccept (flight pendingList) 0 c 0 700000 ∧ (flight pendingList).Rested ∧
          (flight pendingList).lossRecord = some (loss .inFlight pendingList) ∧
          2 ∈ ((flight pendingList).line 0).sending.tickets ∧ ((flight pendingList).t4 0).mode = mode ∧
          (0 : RxNo) ∈ pendingList := by
  rcases held with rfl | rfl <;> cases mode <;>
  · refine ⟨⟨rfl, asking_asked _ _ _ rfl, rfl, nofun⟩, by unfold State.QueueKept; decide +kernel,
      by unfold State.LossKept; decide +kernel, fun pendingList h => ?_⟩
    have cases : pendingList = [0] ∨ pendingList = [0, 1] := by simpa using h
    rcases cases with rfl | rfl <;>
      exact ⟨by unfold State.QueueKept; decide +kernel, by unfold State.LossKept; decide +kernel,
        ⟨rfl, rfl, rfl, nofun, 699380, 699380, 699980, rfl, by decide, by decide, by decide, by decide, now_reached, rfl⟩,
        rfl, rfl, by decide, rfl, by decide⟩

/-- BytesMakeCheckedFrames: every receiver state, the bounds of LENGTH, a byte that is not the last and one that is; a timer that ends and one that does not; one request held and two. -/
theorem witness_bytes (r : Receiver) :
    let s := calm.setLink { calm.link with receiver := r, byteTimer := some 700000 }
    s.link.receiver = r ∧ s.link.byteTimer = some 700000 ∧ 700000 ≤ max s.now 700000 ∧ max 699000 699999 < 700000 ∧
      (1 ≤ (1 : Byte).toNat ∧ (200 : Byte).toNat ≤ 200) ∧ ((0 : Byte).toNat = 0 ∧ 200 < (201 : Byte).toNat) ∧
      (1 : Byte) + 3 + ([] : List Byte).foldl (· + ·) 0 + 0xFC = 0 ∧ s.link.requests.length < 2 ∧
      2 ≤ [({ kind := 1, payload := [] } : Request), { kind := 2, payload := [] }].length :=
  ⟨rfl, rfl, now_reached, by decide +kernel, by decide +kernel, by decide +kernel, by decide +kernel, (show 0 < 2 by decide +kernel),
    by decide +kernel⟩

/-- SentFrameFreesTheTransmitter: after a response with and without another request waiting, and after a notice. -/
theorem witness_sent :
    let r : Request := { kind := 1, payload := [] }
    let k := { calm.link with transmitter := .response [1], requests := [r, r], inHand := some [1] }
    let n := { calm.link with transmitter := .notice [2], inHand := some [1] }
    k.transmitter = .response [1] ∧ k.requests = r :: [r] ∧ n.transmitter = .notice [2] ∧ n.inHand = some [1] ∧
      ({ n with inHand := none } : Link).inHand = none := by decide +kernel

/-- FaultListAndNotices: a SET of T5 in SERVICE while a frame is sent, and a hold limit that ends there. -/
theorem witness_faults (transmitter : Transmitter) (bad : RouteNo → Bool) :
    let set : List Byte := [5, u8 (num (0 : Fin 5)), 1, u8 (num (2 : RouteNo))]
    let part : State := { calm with mode := .service, holdTimer := some 700000, dispatcher := Dispatcher.reset }
    let s := asking (part.setLink { calm.link with transmitter }) 0x31 set
    s.Asked 0x31 set ∧ s.Rested ∧ s.mode = .service ∧ s.save = none ∧ s.FaultsKept ∧ s.link.receiver ≠ .silent ∧
      s.link.transmitter = transmitter ∧ s.link.notices.length + ((List.finRange 8).filter bad).length ≤ 16 ∧
      s.holdTimer = some 700000 ∧ 700000 ≤ max s.now 700000 ∧ s.dispatcher.gateOpen = false ∧ s.link.inHand = none := by
  refine ⟨asking_asked _ _ _ rfl, rfl, rfl, rfl, ⟨List.nodup_nil, nofun⟩, nofun, rfl, ?_, rfl, now_reached, rfl, rfl⟩
  exact (Nat.zero_add _).trans_le ((List.length_filter_le _ _).trans (by decide))

/-- The requests: any kind and payload can be the oldest one waiting, in a part at rest. -/
theorem witness_requests (kind : Byte) (p : List Byte) :
    (asking calm kind p).Rested ∧ (asking calm kind p).Asked kind p := ⟨rfl, asking_asked _ _ _ rfl⟩

/-- ReadRequestsShowThePart, WrongLengthsAreRefused: payloads of 197, 198 and 199 bytes, a kind outside the catalogue, the clock within four bytes. -/
theorem witness_lengths :
    (List.replicate 197 (0 : Byte)).length ≤ 197 ∧ (List.replicate 198 (0 : Byte)).length = 198 ∧
      (0x0A : Byte) ∉ catalogue ∧ max calm.now 0 / 1000 < 4294967296 ∧ ([0] : List Byte) ≠ [] ∧
      ([0, 0] : List Byte).length ≠ 1 ∧ ([0] : List Byte).length ≠ 2 ∧ ([0, 0] : List Byte).length ≠ 3 ∧
      ([0] : List Byte).length ≠ 8 ∧ ([] : List Byte).length ≠ 1 * entrySize 1 := by
  decide +kernel

/-- GetGivesImages: the last entries that a frame can hold, and one too many. -/
theorem witness_get :
    let most := fun table : Nat => [0, 1, 4, 6, 8, 5, 8].getD table 0
    let size := fun table : Nat => [0, 1, 4, 12, 8, 5, 8].getD table 0
    (6 ≤ most 3 ∧ 7 + 6 - 1 ≤ size 3) ∧ ¬7 ≤ most 3 ∧ ¬8 + 6 - 1 ≤ size 3 ∧ ¬1 ≤ most 7 := by decide +kernel

/-- ImagesDecodeToTheirEntries: numbers outside their ranges that their fields hold, and images with each coded setting at the ends of its codes and past them. -/
theorem witness_images :
    let e := { T1.default with callLimit := 65535, highMark := 255, lowMark := 255 }
    let c := { T6.default 0 with debounce := 2019, zone := 65535 }
    let t3 := fun n digits next : Byte => n :: List.replicate 20 13 ++ digits :: List.replicate 8 9 ++ [0, next]
    let t6 := fun rank flag : Byte => [0, 0, 0, 0, rank, 0, 0, flag, 1] ++ List.replicate 6 (0 : Byte)
    (e.callLimit < 65536 ∧ e.highMark < 256 ∧ e.lowMark < 256 ∧ e.retryCap < 65536 ∧ c.debounce < 65536 ∧
        c.zone < 65536 ∧ c.sourceNumber < 65536 ∧ T3.default.InRange) ∧
      ((T2.decode [1, 0, 4, 13, 13, 13, 13]).isSome = true ∧ T2.decode [1, 0, 5, 0, 0, 0, 0] = none ∧
        T2.decode [1, 2, 0, 0, 0, 0, 0] = none ∧ T2.decode [1, 0, 4, 0, 0, 0, 14] = none) ∧
      ((t3 20 8 12).length = 32 ∧ (T3.decode (t3 20 8 12)).isSome = true ∧ T3.decode (t3 21 8 12) = none ∧
        T3.decode (t3 20 9 12) = none ∧ T3.decode (t3 20 3 12) = none ∧ T3.decode (t3 20 4 13) = none) ∧
      ((T4.decode [12, 2]).isSome = true ∧ T4.decode [12, 3] = none ∧ T4.decode [12, 0] = none ∧
        (T5.decode [8]).isSome = true ∧ T5.decode [0] = none ∧ T5.decode [9] = none) ∧
      ((t6 5 1).length = 15 ∧ (T6.decode (t6 5 1)).isSome = true ∧ T6.decode (t6 6 1) = none ∧
        T6.decode (t6 0 1) = none ∧ T6.decode (t6 1 2) = none) := by
  unfold T3.InRange
  decide +kernel

/-- SavedTablesLoadBack: the store that holds the defaults as a SAVE writes them. -/
theorem witness_saved :
    let parts := arrangement Tables.default
    ∀ part ∈ parts, ∀ i, i < part.2.length →
      storeRead (storeWriteParts [] parts) (part.1 + i) = part.2.getD i 0 :=
  storeRead_storeWriteParts _ _ rfl (by decide +kernel) (by decide +kernel)

/-- A store whose directory gives a section of T1, with these bytes at address 32, and no entries of other tables. -/
def sectionStore (base count : Nat) (check : Byte) (image : List Byte) : List Host.Cell :=
  let body := [u8 (base / 256), u8 base, u8 count, check] ++ List.replicate 20 0
  storeWriteBytes (storeWriteBytes [] 32 image) 0 (body ++ [-body.sum])

/-- SavedTablesLoadBack, a section of T1: good with a count of 1 and of 10, empty with a count of 0; bad by its check, past byte 2047, and by a hold flag of 2. -/
theorem witness_sections :
    let image := t1Bytes T1.default
    let flag := image.dropLast ++ [2]
    let good := sectionStore 32 1 (-image.sum) image
    let many := sectionStore 32 10 (-image.sum) image
    let empty := sectionStore 32 0 1 image
    let unread := sectionStore 32 1 (-image.sum + 1) image
    let past := sectionStore 2031 1 (-image.sum) image
    let coded := sectionStore 32 1 (-flag.sum) flag
    (∀ store ∈ [good, many, empty, unread, past, coded], ((List.range 25).map (storeRead store)).sum = 0) ∧
      (loadedCount good 1 = 1 ∧ loadedCount many 1 = 1 ∧ loadedCount empty 1 = 0) ∧
      (∀ store ∈ [good, many, empty], ¬SectionIsBad store 1) ∧ ∀ store ∈ [unread, past, coded], SectionIsBad store 1 := by
  unfold SectionIsBad
  decide +kernel

/-- ImagesWriteTheirEntries: two entries of T4 from the second on; one that does not decode, and one of T1 that is clamped. -/
theorem witness_writes :
    (Tables.writeAll 4 (fun _ => false) 1 [[1, 1], [12, 2]] Tables.default).isSome = true ∧
      (Tables.writeAll 1 (fun _ => false) 0 [t1Bytes T1.default] Tables.default).isSome = true ∧
      (T4.decode [13, 1]).map Prod.snd = none ∧
      (T1.decode (t1Bytes { T1.default with callLimit := 601 })).map Prod.snd = some true := by decide +kernel

/-- No walk is broken where no entry names another. -/
theorem walk_unbroken (t3 : Vector T3 12) (head : Nat) (h : ∀ e : RxNo, (t3[e.val]).next = 0) : ¬WalkBreaks t3 head := by
  rintro ⟨passed, e, -, walk, broken⟩
  have zero : ∀ d : RxNo, 0 ≠ num d := fun d => (Nat.succ_ne_zero _).symm
  match passed with
  | [] => exact broken.elim nofun nofun
  | [d] => exact zero e ((h d).symm.trans walk.2.2)
  | d :: c :: _ => exact zero c ((h d).symm.trans walk.2.2.1)

/-- SetIsCheckedAndWritten: each refusal, and a SET that is taken; for CHAIN an entry made to name itself, and a chain of five. -/
theorem witness_set :
    let s := asking { calm with mode := .service } 0x31 [4, 1, 1, 0, 1]
    let old := { Tables.default with t4 := Tables.default.t4.set 0 { head := 1, mode := .any } }
    let loop := { T3.default with dialNumber := [1], next := 1 }
    let five : Vector T3 12 := Vector.ofFn fun i => { T3.default with dialNumber := [1], next := i.val + 2 }
    (s.Rested ∧ s.Asked 0x31 [4, 1, 1, 0, 1] ∧ [0, 1].length = 1 * entrySize 4 ∧ rangeOk 4 0 1 = false ∧
        rangeOk 4 1 1 = true ∧ calm.mode = .operate ∧ s.mode ≠ .operate ∧ s.save = none ∧
        (Tables.writeAll 4 (fun _ => false) 0 [[0, 1]] s.tables).isSome = true ∧
        Tables.writeAll 4 (fun _ => false) 0 [[13, 1]] s.tables = none ∧
        Tables.writeAll 3 (fun _ => false) 0 [t3Bytes loop] old = some ({ old with t3 := old.t3.set 0 loop }, false)) ∧
      (∀ r : RouteNo, ¬WalkBreaks old.t3 (old.t4[r.val]).head) ∧ WalkBreaks (old.t3.set 0 loop) (old.t4[0]).head ∧
      WalkBreaks five 1 :=
  ⟨⟨rfl, asking_asked _ _ _ rfl, rfl, by decide +kernel⟩, fun _ => walk_unbroken _ _ (by decide +kernel),
    ⟨[0], 0, by decide, ⟨rfl, by decide +kernel, rfl⟩, .inr (by decide)⟩,
    ⟨[0, 1, 2, 3], 4, by decide,
      ⟨rfl, by decide +kernel, rfl, by decide +kernel, rfl, by decide +kernel, rfl, by decide +kernel, rfl⟩, .inl rfl⟩⟩

/-- SetsActOnTheirOwners, T1: every setting with an owner changed, pressure ON and OFF, a FIRE record held by a HELD part whose hold limit was 0, a grace that is over for a record held back behind a LENT line. -/
theorem witness_set_t1 :
    let e := { T1.default with highMark := 4, lowMark := 1, testInterval := 1, lendGrace := 1, urgencyAge := 4 }
    let fire := { waitingRecord 1 with report := { (waitingRecord 1).report with cls := .fire } }
    let old := { waitingRecord 2 with age := 4 }
    let lent := { readyLine with ctl := { readyLine.ctl with lend := .lent, occupancy := .lent } }
    let s : State :=
      asking
        { holding (lined lent) [fire, old] with
          hold := .held, tables := { Tables.default with t1 := { T1.default with holdLimit := 0 } }
          dispatcher := { calm.dispatcher with held := [(1, 699)], fireTimer := some 729 } }
        0x31 (1 :: 1 :: 1 :: t1Bytes e)
    let set : State := { s with tables := { s.tables with t1 := e } }
    s.Rested ∧ s.Asked 0x31 (1 :: 1 :: 1 :: t1Bytes e) ∧ (t1Bytes e).length = 18 ∧ s.save = none ∧
      T1.decode (t1Bytes e) = some (e, false) ∧ e.highMark ≠ s.t1.highMark ∧ e.testInterval ≠ s.t1.testInterval ∧
      s.queue.gateOpened = true ∧ s.t1.holdLimit = 0 ∧ e.holdLimit ≠ 0 ∧ s.hold = .held ∧ s.holdTimer = none ∧
      s.storeCorrupt = false ∧ e.lendGrace ≠ s.t1.lendGrace ∧ s.dispatcher.held = (1, 699) :: [] ∧
      699 + e.lendGrace ≤ max s.now 700000 / 1000 ∧ s.dispatcher.fireTimer ≠ some (699 + e.lendGrace) ∧
      (s.ctl 0).lend = .lent ∧ (∀ k : LineNo, k < 0 → (s.ctl k).lend ≠ .lent) ∧
      ∃ r ∈ s.queue.records, r.state = .waiting ∧ seizes s r ≠ seizes set r := by
  unfold State.Rested State.Asked
  decide +kernel

/-- SetsActOnTheirOwners, T2: a line enabled from OFF, kept, and with its disable pending; one disabled with no call, LENT, and in a call. -/
theorem witness_set_t2 (before after disablePending : Bool) (lend : Lend) (occupancy : Occupancy) :
    let e := { T2.default with enabled := after }
    let p := (2 : Byte) :: u8 (num (3 : LineNo)) :: 1 :: t2Bytes e
    let tables := { Tables.default with t2 := Tables.default.t2.set 3 { T2.default with enabled := before } }
    let off : Line := { readyLine with ctl := { LineCtl.reset false with occupancy, lend, disablePending } }
    let s : State :=
      asking
        { (calm.setLine 3 off).setLink { calm.link with transmitter := .notice [] } with
          tables, dispatcher := Dispatcher.reset }
        0x31 p
    (s.Rested ∧ s.Asked 0x31 p ∧ (t2Bytes e).length = 7 ∧ s.save = none ∧ T2.decode (t2Bytes e) = some (e, false) ∧
        (3 : LineNo).val < s.fitted ∧ s.dispatcher.gateOpen = false) ∧
      (s.t2 3).enabled = before ∧ e.enabled = after ∧ (s.ctl 3).disablePending = disablePending ∧ (s.ctl 3).lend = lend ∧
      (s.ctl 3).grant = none ∧ s.call 3 = none ∧ (s.ctl 3).classOcc = .unknown ∧ (s.ctl 3).occupancy = occupancy ∧
      s.link.receiver ≠ .silent ∧ s.link.transmitter ≠ .idle ∧ s.link.notices.length < 16 ∧ s.FaultsKept := by
  refine ⟨⟨rfl, asking_asked _ _ _ rfl, ?_, rfl, ?_, (show 3 < 4 by decide), rfl⟩, rfl, rfl, rfl, rfl, rfl, rfl, rfl, rfl,
    nofun, nofun, (show 0 < 16 by decide), List.nodup_nil, nofun⟩ <;> cases after <;> decide +kernel

/-- SetsActOnTheirOwners, T3: an attempt limit lowered to 2 and kept at 4, of a receiver in any state with any failures. -/
theorem witness_set_t3 (limit : Nat) (h : limit = 2 ∨ limit = 4) (rx : RxStatus) :
    let n := { T3.default with dialNumber := [1], attemptLimit := limit }
    let p := (3 : Byte) :: u8 (num (11 : RxNo)) :: 1 :: t3Bytes n
    let tables := { Tables.default with t4 := Tables.default.t4.set 0 { head := 12, mode := .any } }
    let s : State :=
      asking { calm.setRx 11 rx with tables, mode := .service, dispatcher := Dispatcher.reset } 0x31 p
    let t3 := tables.t3.set 11 n
    (s.Rested ∧ s.Asked 0x31 p ∧ s.save = none ∧ s.mode = .service ∧ s.dispatcher.gateOpen = false ∧ s.rx 11 = rx ∧
        s.tables = tables ∧ (s.t3 11).attemptLimit = 4) ∧
      (t3Bytes n).length = 32 ∧ T3.decode (t3Bytes n) = some (n, false) ∧ IsRouteChain t3 (tables.t4[0]).head [11] ∧
      ∀ r : RouteNo, ¬WalkBreaks t3 (tables.t4[r.val]).head := by
  refine ⟨⟨rfl, asking_asked _ _ _ rfl, rfl, rfl, rfl, rfl, rfl, rfl⟩, ?_⟩
  rcases h with rfl | rfl <;>
    exact ⟨by decide +kernel, by decide +kernel, ⟨by decide, by decide, by decide, rfl, by decide +kernel, rfl⟩,
      fun _ => walk_unbroken _ _ (by decide +kernel)⟩

/-- SetsActOnTheirOwners, T4 and T5: a head and a mode, and the route of a class, with the tables in range. -/
theorem witness_set_routes :
    let n : T4 := { head := 1, mode := .each }
    let s : State := asking { calm with mode := .service } 0x31 (4 :: u8 (num (0 : RouteNo)) :: 1 :: t4Bytes n)
    let m : State := asking { calm with mode := .service } 0x31 (5 :: u8 ((4 : Fin 5).val + 1) :: 1 :: [8])
    s.Rested ∧ m.Rested ∧ s.Asked 0x31 (4 :: u8 (num (0 : RouteNo)) :: 1 :: t4Bytes n) ∧
      m.Asked 0x31 (5 :: u8 ((4 : Fin 5).val + 1) :: 1 :: [8]) ∧ s.save = none ∧ s.mode = .service ∧
      T4.decode (t4Bytes n) = some (n, false) ∧ T5.decode [8] = some (7, false) ∧ s.tables.InRange ∧ s.FaultsKept ∧
      ∀ head : Nat, ¬WalkBreaks s.tables.t3 head :=
  ⟨rfl, rfl, asking_asked _ _ _ rfl, asking_asked _ _ _ rfl, rfl, rfl, by decide +kernel, by decide +kernel,
    witness_tables, ⟨List.nodup_nil, nofun⟩, fun _ => walk_unbroken _ _ (by decide +kernel)⟩

/-- SaveWritesItsPages: no SAVE and one that writes; the first page, the last but one and the last, read back equal and unequal. -/
theorem witness_save (page : Nat) (h : page < 40) :
    let w : Save := { page, startMode := .service, pageEnds := 700000 }
    let s : State := { calm with save := some w }
    calm.save = none ∧ s.Rested ∧ Memory.wf s.store = true ∧ s.save = some w ∧ w.page < 40 ∧ w.pageEnds ≤ max s.now 700000 ∧
      s.FaultsKept ∧ (List.replicate 16 (0 : Byte)).length ≤ 16 ∧ (∀ x ∈ ([0] : List Byte), x = 0) ∧
      (∃ x ∈ ([1] : List Byte), x ≠ 0) :=
  ⟨rfl, rfl, rfl, rfl, h, now_reached, ⟨List.nodup_nil, nofun⟩, by decide +kernel⟩

/-- ModeAndHoldChange: SERVICE refused for a FIRE record and taken without, OPERATE from SERVICE. -/
theorem witness_mode :
    let fire := { waitingRecord 1 with report := { (waitingRecord 1).report with cls := .fire } }
    let s := asking (holding calm [fire]) 0x33 [2]
    let back : State := asking { calm with mode := .service } 0x33 [1]
    s.Asked 0x33 [2] ∧ s.mode = .operate ∧ (∃ r ∈ s.queue.records, r.report.cls = .fire) ∧
      (∀ r ∈ calm.queue.records, r.report.cls ≠ .fire) ∧ back.Asked 0x33 [1] ∧ back.mode = .service ∧
      (3 : Byte) ≠ 1 ∧ (3 : Byte) ≠ 2 :=
  ⟨asking_asked _ _ _ rfl, rfl, ⟨_, List.mem_singleton.2 rfl, rfl⟩, nofun, asking_asked _ _ _ rfl, rfl, by decide +kernel⟩

/-- ModeAndHoldChange, the hold: HELD with and without STORE-CORRUPT, RELEASED, and a hold limit that ends. -/
theorem witness_hold :
    let held : State := asking { calm with hold := .held, holdTimer := some 700000 } 0x34 []
    let corrupt := held.setFaults [{ kind := .storeCorrupt, inst := 0, active := true }]
    held.Rested ∧ held.Asked 0x34 [] ∧ calm.hold = .released ∧ held.hold = .held ∧ held.storeCorrupt = false ∧
      corrupt.storeCorrupt = true ∧ held.holdTimer = some 700000 ∧ 700000 ≤ max held.now 700000 :=
  ⟨rfl, asking_asked _ _ _ rfl, rfl, rfl, by decide +kernel⟩

/-- ListsShowTheirImages: start positions 0 and 255, and a record whose entry time fits its bytes. -/
theorem witness_lists :
    (255 : Byte) ≠ 0 ∧ (asking calm 0x04 [255]).Asked 0x04 [255] ∧ (asking calm 0x04 [0]).Asked 0x04 [0] ∧
      ∀ r ∈ (((inRank (holding calm [waitingRecord 1])).drop 0).take 6), r.enteredAt < 4294967296 :=
  ⟨by decide, asking_asked _ _ _ rfl, asking_asked _ _ _ rfl, by decide +kernel⟩

end Sys2Proof.Tests
end

section
/-! What a command's work leaves of a line that is sensed: the sensing, the class occupancy and the pending disable of every line whose disable is not pending. Only `setSense` and `setClassOcc` change them, and the step down to OFF (R25), which a hand-back makes of a line with a disable pending. -/

namespace Sys2Proof.Machine

/-! ### Sensing, class occupancy and pending disable -/

/-- What the Line Sense Unit holds of a line, its class occupancy, and whether its disable is pending. -/
def Line.sensed (x : Line) : Sense × ClassOcc × Bool := (x.sense, x.ctl.classOcc, x.ctl.disablePending)

def State.sensed (s : State) : LineNo → Sense × ClassOcc × Bool := fun l => (s.line l).sensed

theorem sensed_of_lines {s t : State} (h : t.lines = s.lines) : t.sensed = s.sensed := by
  funext l; simp only [State.sensed, State.line_congr h]

theorem sensed_of_calm {s t : State} (h : t.calm = s.calm) : t.sensed = s.sensed := by
  funext l
  have e : (t.line l).shell = (s.line l).shell := congrFun (congrArg Calm.shell h) l
  exact (congrArg Line.sensed e :)

theorem sense_of_sensed {s t : State} {l : LineNo} (h : t.sensed l = s.sensed l) : t.sense l = s.sense l :=
  congrArg Prod.fst h

theorem disablePending_of_sensed {s t : State} {l : LineNo} (h : t.sensed l = s.sensed l) :
    (t.ctl l).disablePending = (s.ctl l).disablePending := congrArg (fun x => x.2.2) h

section sensed
variable (s : State) (l : LineNo)

/-- A line replaced by one that is sensed alike. -/
theorem State.setLine_sensed (x : Line) (h : x.sensed = (s.line l).sensed) : (s.setLine l x).sensed = s.sensed := by
  funext k; simp only [State.sensed, State.setLine_line]; split
  · next e => subst e; exact h
  · rfl

theorem State.setCtl_sensed (x : LineCtl) (h : x.classOcc = (s.ctl l).classOcc)
    (g : x.disablePending = (s.ctl l).disablePending) : (s.setCtl l x).sensed = s.sensed :=
  s.setLine_sensed l _ (by simp only [Line.sensed, h, g]; rfl)

@[simp] theorem State.setIface_sensed (x : Iface) : (s.setIface l x).sensed = s.sensed := s.setLine_sensed l _ rfl
@[simp] theorem State.setDetector_sensed (x : Detector) : (s.setDetector l x).sensed = s.sensed :=
  s.setLine_sensed l _ rfl
@[simp] theorem State.setCall_sensed (x : Option Call) : (s.setCall l x).sensed = s.sensed := s.setLine_sensed l _ rfl
@[simp] theorem State.setSlots_sensed (x y : Slot) : (s.setSlots l x y).sensed = s.sensed := s.setLine_sensed l _ rfl
@[simp] theorem State.modCall_sensed (f : Call → Call) : (s.modCall l f).sensed = s.sensed := s.setCall_sensed l _
@[simp] theorem State.enterState_sensed (c : CallState) (ms : Nat) : (s.enterState l c ms).sensed = s.sensed :=
  s.modCall_sensed l _
@[simp] theorem State.setSender_sensed (x : Option Nat) : (s.setSender l x).sensed = s.sensed :=
  s.setIface_sensed l _
@[simp] theorem State.setWaitList_sensed (x : List LineNo) : (s.setWaitList x).sensed = s.sensed := rfl
@[simp] theorem State.setRotation_sensed (x : Nat) : (s.setRotation x).sensed = s.sensed := rfl
@[simp] theorem State.setWork_sensed (x : Work) : (s.setWork x).sensed = s.sensed := rfl
@[simp] theorem State.setBusy_sensed (b : Bool) : (s.setBusy b).sensed = s.sensed := rfl
@[simp] theorem State.tell_sensed : s.tell.sensed = s.sensed := rfl
@[simp] theorem State.setRx_sensed (e : RxNo) (x : RxStatus) : (s.setRx e x).sensed = s.sensed := rfl
@[simp] theorem State.setMode_sensed (x : Mode) : (s.setMode x).sensed = s.sensed := rfl
@[simp] theorem State.setRoutes_sensed (x : Vector RouteEval 8) : (s.setRoutes x).sensed = s.sensed := rfl
@[simp] theorem State.setChannel_sensed (c : ChannelNo) (x : InputChannel) : (s.setChannel c x).sensed = s.sensed := rfl
@[simp] theorem State.notice_sensed (n : Notice) : (s.notice n).sensed = s.sensed := sensed_of_lines (by simp)

/-! ### Queue, fault list and channels -/

@[simp] theorem State.report_sensed (rep : Report) : (s.report rep).sensed = s.sensed := sensed_of_calm (by simp)
@[simp] theorem State.faultActive_sensed (f : FaultKind) (i : Nat) : (s.faultActive f i).sensed = s.sensed :=
  sensed_of_calm (by simp)
@[simp] theorem State.faultCleared_sensed (f : FaultKind) (i : Nat) : (s.faultCleared f i).sensed = s.sensed :=
  sensed_of_calm (by simp)
@[simp] theorem State.returnAll_sensed (ks : List Nat) : (s.returnAll ks).sensed = s.sensed :=
  sensed_of_calm (by simp)
@[simp] theorem State.drain_sensed : s.drain.sensed = s.sensed := sensed_of_calm (by simp)
@[simp] theorem State.reexamine_sensed : s.reexamine.sensed = s.sensed := sensed_of_calm (by simp)
@[simp] theorem State.rebuild_sensed : s.rebuild.sensed = s.sensed := sensed_of_calm (by simp)

@[simp] theorem State.evaluateRoutes_sensed : s.evaluateRoutes.sensed = s.sensed := by
  unfold State.evaluateRoutes; rw [sensed_of_calm (State.reportRoutes_calm _)]; rfl

@[simp] theorem State.reports_sensed (rs : List Report) : (rs.foldl State.report s).sensed = s.sensed :=
  foldl_view State.sensed _ State.report_sensed rs s

@[simp] theorem State.reconcileWiring_sensed (c : ChannelNo) : (s.reconcileWiring c).sensed = s.sensed := by
  unfold State.reconcileWiring; split
  · rfl
  · dsimp only; split <;> simp

@[simp] theorem State.reconcileAlarm_sensed (c : ChannelNo) : (s.reconcileAlarm c).sensed = s.sensed := by
  unfold State.reconcileAlarm; dsimp only; split
  · simp
  · split <;> simp
  · rfl

@[simp] theorem State.setForce_sensed (c : ChannelNo) (f : Force) : (s.setForce c f).sensed = s.sensed := by
  unfold State.setForce State.reconcile; dsimp only; split
  · rfl
  · split <;> split <;> (try split) <;> simp

@[simp] theorem State.releaseAll_sensed : s.releaseAll.sensed = s.sensed :=
  foldl_view State.sensed _ (fun s c => State.setForce_sensed s c .none) _ s

@[simp] theorem State.settleGate_sensed : s.settleGate.sensed = s.sensed := by
  unfold State.settleGate State.openGate; dsimp only; split
  · rfl
  · split
    · split <;> rfl
    · rfl

@[simp] theorem State.settleExit_sensed : s.settleExit.sensed = s.sensed := by
  unfold State.settleExit State.serviceExit; dsimp only; split <;> simp

/-! ### Line Controllers -/

@[simp] theorem State.recompute_sensed : (s.recompute l).sensed = s.sensed := by
  funext k; simp only [State.sensed, State.recompute_line]; split
  · next e => subst e; rfl
  · rfl

@[simp] theorem State.lineNotice_sensed : (s.lineNotice l).sensed = s.sensed := s.notice_sensed _

@[simp] theorem State.startPromotion_sensed : (s.startPromotion l).sensed = s.sensed := s.setCtl_sensed l _ rfl rfl

@[simp] theorem State.startNext_sensed : s.startNext.sensed = s.sensed := by
  unfold State.startNext; split
  · rfl
  · split <;> simp

@[simp] theorem State.joinWaitList_sensed : (s.joinWaitList l).sensed = s.sensed := s.setCtl_sensed l _ rfl rfl

@[simp] theorem State.needReady_sensed : (s.needReady l).sensed = s.sensed := by
  unfold State.needReady; split <;> split <;> simp

@[simp] theorem State.stepDown_sensed : (s.stepDown l).sensed = s.sensed := by
  unfold State.stepDown; dsimp only; split <;> simp [State.setCtl_sensed]

@[simp] theorem State.yieldPower_sensed : (s.yieldPower l).sensed = s.sensed := by
  unfold State.yieldPower; split <;> simp

@[simp] theorem State.beginLend_sensed : (s.beginLend l).sensed = s.sensed := by
  simp [State.beginLend, State.setCtl_sensed]

@[simp] theorem State.endLend_sensed : (s.endLend l).sensed = s.sensed := by
  simp [State.endLend, State.setCtl_sensed]

@[simp] theorem State.countNoTone_sensed : (s.countNoTone l).sensed = s.sensed := by
  unfold State.countNoTone; dsimp only; split
  · rfl
  · split <;> simp [State.setCtl_sensed]

@[simp] theorem State.probeResult_sensed (x : Option CallResult) : (s.probeResult l x).sensed = s.sensed := by
  unfold State.probeResult; split <;> simp [State.setCtl_sensed]

@[simp] theorem State.lineResult_sensed (p : Purpose) (x : Option CallResult) :
    (s.lineResult l p x).sensed = s.sensed := by
  unfold State.lineResult; split
  · simp
  · split <;> simp

@[simp] theorem State.lineDownReports_sensed (r : ClassReport) : (s.lineDownReports l r).sensed = s.sensed := by
  unfold State.lineDownReports; split
  · simp
  · split <;> simp

@[simp] theorem State.grant_sensed (b : Bool) : (s.grant l b).sensed = s.sensed := by
  simp [State.grant, State.setCtl_sensed]

@[simp] theorem State.giveBack_sensed : (s.giveBack l).sensed = s.sensed := by
  simp [State.giveBack, State.setCtl_sensed]

theorem State.makeCalling_sensed {t : State} (e : RxNo) (h : s.makeCalling e = some t) :
    t.sensed = s.sensed := sensed_of_lines (State.makeCalling_lines e h)

@[simp] theorem State.receiverResult_sensed (e : RxNo) (x : Option CallResult) :
    (s.receiverResult e x).sensed = s.sensed := by
  unfold State.receiverResult; split
  · split
    · dsimp only; split <;> simp
    · simp
  · simp

/-! ### Calls that end nothing -/

@[simp] theorem State.releaseCall_sensed (c : Call) (x : CallResult) : (s.releaseCall l c x).sensed = s.sensed := by
  simp [State.releaseCall]

@[simp] theorem State.takeLine_sensed : (s.takeLine l).sensed = s.sensed := by
  unfold State.takeLine State.enterDialtone; dsimp only; split <;> simp

@[simp] theorem State.callPolarity_sensed : (s.callPolarity l).sensed = s.sensed := by
  unfold State.callPolarity; split
  · rfl
  · split <;> simp

end sensed

/-! ### A line whose disable is not pending -/

/-- A line whose disable is not pending keeps its sensing and class occupancy, and stays so. -/
def SensedKept (k : LineNo) (s t : State) : Prop := (s.ctl k).disablePending = false → t.sensed k = s.sensed k

theorem SensedKept.refl (k : LineNo) (s : State) : SensedKept k s s := fun _ => rfl

theorem SensedKept.of_sensed {k : LineNo} {s t : State} (h : t.sensed = s.sensed) : SensedKept k s t :=
  fun _ => congrFun h k

theorem SensedKept.trans {k : LineNo} {s t u : State} (h : SensedKept k s t) (g : SensedKept k t u) :
    SensedKept k s u :=
  fun p => (g ((disablePending_of_sensed (h p)).trans p)).trans (h p)

section kept
variable (s : State) (l k : LineNo)

/-- The step down to OFF of a line with a disable pending is of another line. -/
theorem State.lineOff_sensedKept (h : (s.ctl l).disablePending = true) : SensedKept k s (s.lineOff l) := by
  intro p
  have n : k ≠ l := by rintro rfl; rw [h] at p; cases p
  have e : ((s.lineOff l).line k).parked = (s.line k).parked := parked_of_others (by simp) n
  exact (congrArg Line.sensed e :)

theorem State.handBack_sensedKept (p : Purpose) (x : Option CallResult) : SensedKept k s (s.handBack l p x) := by
  unfold State.handBack; dsimp only
  generalize e : State.yieldPower _ l = u
  have free : u.sensed = s.sensed := by
    rw [← e, State.yieldPower_sensed]; simp [State.setCtl_sensed]
  refine (SensedKept.of_sensed free).trans ?_
  split
  · next h => exact (u.lineOff_sensedKept l k h).trans (.of_sensed (by simp))
  · split <;> exact .of_sensed (by simp)

theorem State.endContext_sensedKept (c : Call) (x : Option CallResult) : SensedKept k s (s.endContext l c x) := by
  unfold State.endContext; dsimp only
  have back : ∀ u : State, u.sensed = s.sensed → SensedKept k s (u.handBack l c.purpose x) :=
    fun u e => (SensedKept.of_sensed e).trans (u.handBack_sensedKept l k c.purpose x)
  split
  · next e _ =>
    refine SensedKept.trans ?_ (.of_sensed (State.receiverResult_sensed _ e x))
    split <;> exact back _ (by simp)
  · split <;> exact back _ (by simp)

theorem State.giveResult_sensedKept (x : CallResult) : SensedKept k s (s.giveResult l x) := by
  unfold State.giveResult; split
  · exact .refl k s
  · split
    · exact s.endContext_sensedKept l k _ _
    · exact .refl k s
    · exact .of_sensed (by simp)

theorem State.dropCall_sensedKept : SensedKept k s (s.dropCall l) := by
  unfold State.dropCall; split
  · exact s.endContext_sensedKept l k _ _
  · exact .refl k s

theorem State.startCall_sensedKept (c : Call) : SensedKept k s (s.startCall l c) := by
  unfold State.startCall; dsimp only; split
  · exact (SensedKept.of_sensed (by simp)).trans (State.giveResult_sensedKept _ l k _)
  · split <;> exact .of_sensed (by simp)

/-- A CLASS report does nothing to a call, or ends it LINE-DOWN (R123). -/
theorem State.callClass_cases (x : LoopClass) : s.callClass l x = s ∨ s.callClass l x = s.giveResult l .lineDown := by
  unfold State.callClass; split
  · exact .inl rfl
  · split <;> simp

/-- A change of the class occupancy does nothing to a call, or drops it (R31, R106). -/
theorem State.prepareChange_cases : s.prepareChange l = s ∨ s.prepareChange l = s.dropCall l := by
  unfold State.prepareChange; split
  · exact .inl rfl
  · split
    · split <;> simp
    · exact .inl rfl

theorem State.callClass_sensedKept (x : LoopClass) : SensedKept k s (s.callClass l x) := by
  obtain same | ended := s.callClass_cases l x
  · rw [same]; exact .refl k s
  · rw [ended]; exact s.giveResult_sensedKept l k _

theorem State.prepareChange_sensedKept : SensedKept k s (s.prepareChange l) := by
  obtain same | dropped := s.prepareChange_cases l
  · rw [same]; exact .refl k s
  · rw [dropped]; exact s.dropCall_sensedKept l k

end kept

/-! ### The acts of the Dispatcher and the end of a command's work -/

section acts
variable (k : LineNo)

theorem State.passFuel_sensedKept (n : Nat) : ∀ s : State, SensedKept k s (State.passFuel n s) := by
  induction n with
  | zero => exact SensedKept.refl k
  | succ n ih =>
    intro s; unfold State.passFuel; split
    · exact .refl k s
    · split
      · exact .refl k s
      · next l _ =>
        dsimp only; split
        · next t ht =>
          have calling : t.sensed = s.sensed := by rw [State.makeCalling_sensed _ _ ht, State.grant_sensed]
          exact ((SensedKept.of_sensed calling).trans (t.startCall_sensedKept l k _)).trans (ih _)
        · exact (SensedKept.of_sensed (by simp)).trans (ih _)

theorem State.pass_sensedKept (s : State) : SensedKept k s s.pass := State.passFuel_sensedKept k 8 s

theorem State.act_sensedKept (s : State) : SensedKept k s s.act := by
  unfold State.act; dsimp only
  have rest : ∀ u : State, u.evaluateUrgent.settleHeld.sensed = u.sensed := fun u =>
    sensed_of_lines (by rw [State.settleHeld_lines, State.evaluateUrgent_lines])
  refine SensedKept.trans ?_ (.of_sensed (rest _))
  split
  · exact State.pass_sensedKept k (s.setWork { s.work with told := false })
  · exact .of_sensed rfl

theorem State.graceReclaim_sensed (s : State) : s.graceReclaim.sensed = s.sensed := by
  unfold State.graceReclaim; dsimp only; split <;> simp

theorem State.actFuel_sensedKept (n : Nat) : ∀ s : State, SensedKept k s (State.actFuel n s) := by
  induction n with
  | zero => exact SensedKept.refl k
  | succ n ih =>
    intro s; unfold State.actFuel; split
    · exact (SensedKept.of_sensed s.graceReclaim_sensed).trans (ih _)
    · split
      · exact (s.act_sensedKept k).trans (ih _)
      · exact .refl k s

/-- The end of a command's work, whatever one block has told another. -/
theorem State.settle_sensedKept (s : State) : SensedKept k s s.settle :=
  ((SensedKept.of_sensed (by simp)).trans (State.actFuel_sensedKept k 64 s.settleExit.drain)).trans (.of_sensed rfl)

end acts

end Sys2Proof.Machine
end

section
/-! The Line Sense Unit's own functions: a window's class and sign, and what the eighth sample does to candidate, run count, settling flag, ring-off timer and polarity (R1 to R8). -/

namespace Sys2Proof.Machine

/-! ### Samples and window class -/

theorem clipVolts_eq (v : Int) : clipVolts v = max (-1500) (min 1500 v) := by
  unfold clipVolts; split
  · omega
  · split <;> omega

theorem swing_iff (window : List Int) :
    swing window = true ↔ (∃ v ∈ window, 650 ≤ v) ∧ ∃ v ∈ window, v ≤ -650 := by
  simp [swing]

theorem upperThreshold_eq (c : LoopClass) : upperThreshold c = if c = .onHook then 280 else 320 := by
  cases c <;> rfl

theorem windowClass_eq (c : LoopClass) (window : List Int) : windowClass c window = classOfWindow c window := by
  simp only [windowClass, classOfWindow, swing_iff, upperThreshold_eq]; rfl

theorem fullRun_eq (w : LoopClass) : fullRun w = if w = .dead then 25 else 4 := by cases w <;> rfl

theorem Sense.sample_filling (u : Sense) (v : Int) (now : Nat) (h : u.window.length < 7) :
    u.sample v now = ({ u with window := u.window ++ [v] }, none, none) := if_pos h

theorem Sense.sample_eighth (u : Sense) (v : Int) (now : Nat) (h : u.window.length = 7) :
    u.sample v now = u.endWindow (u.window ++ [v]) now := if_neg (by omega)

/-! ### Confirmation (R4, R7) -/

/-- The run count that a window of class `w` makes or goes on with (R4). -/
def Sense.runAfter (u : Sense) (w : LoopClass) : Nat := if u.candidate = some w then u.run + 1 else 1

/-- A window of class `w` confirms it: a settling window, or the end of a full run (R4, R7). -/
def Sense.Confirming (u : Sense) (w : LoopClass) : Prop :=
  u.settling = true ∨ (w ≠ u.confirmed ∧ fullRun w ≤ u.runAfter w)

section confirm
variable {u : Sense} {w : LoopClass}

theorem Sense.applyClass_confirming (h : u.Confirming w) :
    u.applyClass w = (u.confirm w, some { new := w, old := u.confirmed, settling := u.settling }) := by
  unfold Sense.applyClass
  cases hs : u.settling with
  | true => rfl
  | false =>
    obtain ⟨hne, hrun⟩ := h.resolve_left (by simp [hs])
    rw [if_neg (by simp), if_neg hne]
    exact if_pos hrun

theorem Sense.settling_of_not_confirming (h : ¬u.Confirming w) : u.settling = false :=
  Bool.eq_false_iff.2 fun e => h (.inl e)

theorem Sense.applyClass_same (hs : u.settling = false) (h : w = u.confirmed) :
    u.applyClass w = ({ u with candidate := none, run := 0 }, none) := by
  unfold Sense.applyClass; rw [if_neg (by simp [hs]), if_pos h]

theorem Sense.applyClass_counting (h : ¬u.Confirming w) (hne : w ≠ u.confirmed) :
    u.applyClass w = ({ u with candidate := some w, run := u.runAfter w }, none) := by
  have hrun : ¬fullRun w ≤ u.runAfter w := fun g => h (.inr ⟨hne, g⟩)
  unfold Sense.applyClass
  rw [if_neg (by simp [Sense.settling_of_not_confirming h]), if_neg hne]
  exact if_neg hrun

/-- The class of a window leaves the polarity side as it is. -/
theorem Sense.applyClass_polarity :
    (u.applyClass w).1.polarity = u.polarity ∧ (u.applyClass w).1.polarityRun = u.polarityRun := by
  by_cases h : u.Confirming w
  · rw [Sense.applyClass_confirming h]; exact ⟨rfl, rfl⟩
  · by_cases e : w = u.confirmed
    · rw [Sense.applyClass_same (Sense.settling_of_not_confirming h) e]; exact ⟨rfl, rfl⟩
    · rw [Sense.applyClass_counting h e]; exact ⟨rfl, rfl⟩

end confirm

/-! ### The end of a window -/

/-- The unit once its window is emptied and the window's class applied to it: all that the eighth sample does but polarity. -/
def Sense.classed (u : Sense) (window : List Int) (now : Nat) : Sense :=
  let w := windowClass u.confirmed window
  let r := Sense.applyClass { u with window := [] } w
  { r.1 with ringOff := ringOffAfter r.1.ringOff w r.2.isSome now }

/-- The sign of a window whose raw sum is not 0 (R8). -/
def windowSign (window : List Int) : Polarity := if 0 < window.sum then .positive else .negative

section window
variable (u : Sense) (window : List Int) (now : Nat)

theorem windowPolarity_eq :
    windowPolarity window = if window.sum = 0 then none else some (windowSign window) := by
  unfold windowPolarity rawSum windowSign
  rcases lt_trichotomy window.sum 0 with h | h | h
  · rw [if_neg (by omega), if_pos h, if_neg (by omega), if_neg (by omega)]
  · rw [if_neg (by omega), if_neg (by omega), if_pos h]
  · rw [if_pos h, if_neg (by omega), if_pos h]

/-- A RING window, or one of raw sum 0, is not counted for polarity (R8). -/
theorem Sense.endWindow_uncounted (h : ¬(windowClass u.confirmed window ≠ .ring ∧ window.sum ≠ 0)) :
    (u.endWindow window now).1 = u.classed window now := by
  unfold Sense.endWindow; dsimp only; split
  · rfl
  · rfl
  · next hw p hp hring =>
    rw [windowPolarity_eq] at hp
    exact absurd ⟨hring, fun e => by simp [e] at hp⟩ h

theorem Sense.endWindow_counted (h : windowClass u.confirmed window ≠ .ring) (g : window.sum ≠ 0) :
    (u.endWindow window now).1 = ((u.classed window now).applyPolarity (windowSign window)).1 := by
  have hp : windowPolarity window = some (windowSign window) := by rw [windowPolarity_eq, if_neg g]
  unfold Sense.endWindow; dsimp only; rw [hp]; split
  · next hring => exact absurd hring h
  · next hnone _ => cases hnone
  · next hsome _ => cases hsome; rfl

/-- The polarity run's count after a window of sign `p` (R8). -/
def Sense.polarityCount (p : Polarity) : Nat :=
  match u.polarityRun with
  | some (q, n) => if q = p then n + 1 else 1
  | none => 1

theorem Sense.applyPolarity_same {p : Polarity} (h : u.polarity = some p) :
    (u.applyPolarity p).1 = { u with polarityRun := none } := by
  unfold Sense.applyPolarity; dsimp only; rw [if_pos h]

theorem Sense.applyPolarity_confirms {p : Polarity} (h : u.polarity ≠ some p) (g : 4 ≤ u.polarityCount p) :
    (u.applyPolarity p).1 = { u with polarity := some p, polarityRun := none } := by
  unfold Sense.applyPolarity; dsimp only; rw [if_neg h]; exact congrArg Prod.fst (if_pos g)

theorem Sense.applyPolarity_counts {p : Polarity} (h : u.polarity ≠ some p) (g : u.polarityCount p < 4) :
    (u.applyPolarity p).1 = { u with polarityRun := some (p, u.polarityCount p) } := by
  unfold Sense.applyPolarity; dsimp only; rw [if_neg h]; exact congrArg Prod.fst (if_neg (Nat.not_le.2 g))

/-- A counted window touches polarity and polarity run alone. -/
theorem Sense.applyPolarity_frame (p : Polarity) :
    ∃ a b, (u.applyPolarity p).1 = { u with polarity := a, polarityRun := b } := by
  by_cases h : u.polarity = some p
  · exact ⟨_, _, u.applyPolarity_same h⟩
  · rcases Nat.lt_or_ge (u.polarityCount p) 4 with g | g
    · exact ⟨_, _, u.applyPolarity_counts h g⟩
    · exact ⟨_, _, u.applyPolarity_confirms h g⟩

theorem Sense.endWindow_eq_classed :
    ∃ a b, (u.endWindow window now).1 = { u.classed window now with polarity := a, polarityRun := b } := by
  by_cases h : windowClass u.confirmed window ≠ .ring ∧ window.sum ≠ 0
  · rw [u.endWindow_counted window now h.1 h.2]; exact Sense.applyPolarity_frame _ _
  · rw [u.endWindow_uncounted window now h]; exact ⟨_, _, rfl⟩

end window

end Sys2Proof.Machine
end

section
/-! LOOP_SAMPLE and RING_OFF_TIMER_EXPIRY: what they do to sensing and class occupancy, through the reports they make and the end of the command's work. -/

namespace Sys2Proof.Machine

section reports
variable (s : State) (l : LineNo)

@[simp] theorem State.advance_line (t : Nat) : (s.advance t).line l = s.line l := rfl
@[simp] theorem State.advance_ctl (t : Nat) : (s.advance t).ctl l = s.ctl l := rfl
@[simp] theorem State.advance_sense (t : Nat) : (s.advance t).sense l = s.sense l := rfl

@[simp] theorem State.setSense_sense (u : Sense) : (s.setSense l u).sense l = u := by
  simp [State.sense, State.setSense]

@[simp] theorem State.setSense_ctl (u : Sense) (k : LineNo) : (s.setSense l u).ctl k = s.ctl k := by
  simp only [State.ctl, State.setSense_line]; split
  · next e => subst e; rfl
  · rfl

/-- The class occupancy takes its value; the line's sensing and pending disable stay. -/
theorem State.setClassOcc_sensed (o : ClassOcc) :
    (s.setClassOcc l o).sensed l = (s.sense l, o, (s.ctl l).disablePending) := by
  unfold State.setClassOcc; dsimp only; split
  · next e => subst e; rfl
  · rw [State.recompute_sensed]; simp only [State.sensed, State.setCtl_line, if_true]; rfl

theorem State.setClassOcc_disablePending (o : ClassOcc) :
    ((s.setClassOcc l o).ctl l).disablePending = (s.ctl l).disablePending :=
  congrArg (fun x => x.2.2) (s.setClassOcc_sensed l o)

/-- A CLASS report leaves the sensing of a line whose disable is not pending (R18 to R21, R31, R123). -/
theorem State.classReport_sensed (r : ClassReport) (h : (s.ctl l).disablePending = false) :
    (s.classReport l r).sensed l = (s.sense l, classOccAfter (s.ctl l).classOcc r, false) := by
  unfold State.classReport; dsimp only
  generalize e : s.setClassOcc l _ = u
  have set : u.sensed l = (s.sense l, classOccAfter (s.ctl l).classOcc r, false) := by
    rw [← e, State.setClassOcc_sensed, h]
  have free : (u.ctl l).disablePending = false := congrArg (fun x => x.2.2) set
  rw [← set]
  have reported : SensedKept l u (u.lineDownReports l r) := .of_sensed (by simp)
  split
  · exact reported.trans (State.callClass_sensedKept _ l l r.new) free
  · exact (reported.trans (State.prepareChange_sensedKept _ l l)).trans (State.callClass_sensedKept _ l l r.new) free

/-- A RING-OFF report leaves the sensing, and ends RINGING with the class occupancy of a carried class other than RING (R19). -/
theorem State.ringOffReport_sensed (c : LoopClass) (h : (s.ctl l).disablePending = false) :
    (s.ringOffReport l c).sensed l =
      (s.sense l,
        if (s.ctl l).classOcc = .ringing ∧ c ≠ .ring then ClassOcc.ofClass c else (s.ctl l).classOcc, false) := by
  unfold State.ringOffReport; split
  · rw [State.prepareChange_sensedKept _ l l ((s.setClassOcc_disablePending l _).trans h), State.setClassOcc_sensed, h]
  · rw [← h]; rfl

/-- A sample's reports leave the unit as the sample made it. -/
theorem State.loopSample_sense (volts : Int) (h : (s.ctl l).disablePending = false) :
    (s.loopSample l volts).settle.sense l = ((s.sense l).sample (clipVolts volts) s.now).1 := by
  unfold State.loopSample
  obtain ⟨u, report, change⟩ := (s.sense l).sample (clipVolts volts) s.now
  dsimp only
  have settled : ∀ t : State, t.sense l = u → (t.ctl l).disablePending = false → t.settle.sense l = u :=
    fun t hu hd => (sense_of_sensed (t.settle_sensedKept l hd)).trans hu
  have turned : ∀ t : State, t.sense l = u → (t.ctl l).disablePending = false →
      (t.polarityReport l).settle.sense l = u := fun t hu hd =>
    have kept := congrFun (t.callPolarity_sensed l) l
    settled _ ((sense_of_sensed kept).trans hu) ((disablePending_of_sensed kept).trans hd)
  cases report with
  | none =>
    cases change with
    | none => exact settled _ (by simp) (by simpa using h)
    | some p => exact turned _ (by simp) (by simpa using h)
  | some r =>
    have kept := (s.setSense l u).classReport_sensed l r (by simpa using h)
    have sense : ((s.setSense l u).classReport l r).sense l = u := (congrArg Prod.fst kept).trans (by simp)
    have free := congrArg (fun x => x.2.2) kept
    cases change with
    | none => exact settled _ sense free
    | some p => exact turned _ sense free

end reports

/-! ### The commands -/

section commands
variable (t : Nat) (line : LineNo) (s : State)

theorem exec_loopSample_off (volts : Int) (h : (s.ctl line).power = .off) :
    exec (.loopSample t line volts) s = .next (s.advance t) := congrArg Host.Outcome.next (if_pos h)

theorem exec_loopSample_on (volts : Int) (h : (s.ctl line).power ≠ .off) :
    exec (.loopSample t line volts) s = .next ((s.advance t).loopSample line volts).settle :=
  congrArg Host.Outcome.next (if_neg h)

/-- A window that is not yet full takes the clipped sample, and nothing else happens (R1). -/
theorem exec_loopSample_filling (volts : Int) (hr : s.Rested) (h : (s.ctl line).power ≠ .off)
    (hw : (s.sense line).window.length < 7) :
    exec (.loopSample t line volts) s =
      .next ((s.advance t).setSense line
        { s.sense line with window := (s.sense line).window ++ [max (-1500) (min 1500 volts)] }) := by
  have taken : (s.advance t).loopSample line volts = (s.advance t).setSense line
      { s.sense line with window := (s.sense line).window ++ [max (-1500) (min 1500 volts)] } := by
    have filled := Sense.sample_filling (s.sense line) (clipVolts volts) (s.advance t).now hw
    unfold State.loopSample
    rw [State.advance_sense, filled, clipVolts_eq]
  rw [exec_loopSample_on t line s volts h, taken]
  exact congrArg Host.Outcome.next (State.settle_rested _ hr)

/-- The eighth sample completes the window; all that comes of it leaves the unit as the window made it. -/
theorem exec_loopSample_eighth (volts : Int) (h : (s.ctl line).power ≠ .off)
    (hd : (s.ctl line).disablePending = false) (hw : (s.sense line).window.length = 7) :
    ∃ v, exec (.loopSample t line volts) s = .next v ∧
      v.sense line =
        ((s.sense line).endWindow ((s.sense line).window ++ [max (-1500) (min 1500 volts)]) (max s.now t)).1 := by
  refine ⟨_, exec_loopSample_on t line s volts h, ?_⟩
  rw [State.loopSample_sense (s.advance t) line volts hd, ← clipVolts_eq]
  exact congrArg Prod.fst (Sense.sample_eighth _ _ _ hw)

/-- The ring-off timer's expiry, in sensing and class occupancy (R6, R7, R19). -/
theorem exec_ringOffTimerExpiry {e : Nat} (h : (s.sense line).ringOff = some e) (he : e ≤ max s.now t)
    (hd : (s.ctl line).disablePending = false) :
    ∃ v, exec (.ringOffTimerExpiry t line) s = .next v ∧
      v.sensed line =
        ((s.sense line).ringOffExpired,
          if (s.ctl line).classOcc = .ringing ∧ (s.sense line).confirmed ≠ .ring then
            ClassOcc.ofClass (s.sense line).confirmed else (s.ctl line).classOcc, false) := by
  have due : expired ((s.advance t).sense line).ringOff (s.advance t).now = true := by
    rw [State.advance_sense, h]; exact decide_eq_true he
  refine ⟨_, congrArg Host.Outcome.next (if_pos due), ?_⟩
  have reported := State.ringOffReport_sensed ((s.advance t).setSense line (s.sense line).ringOffExpired) line
    (s.sense line).confirmed (by simpa using hd)
  simp only [State.setSense_sense, State.setSense_ctl, State.advance_ctl] at reported
  exact (State.settle_sensedKept line _ (congrArg (fun x => x.2.2) reported)).trans reported

end commands

end Sys2Proof.Machine
end

section
/-! The window's end in the words of SamplesFillAndSettleTheWindow, and the two statements on samples and the ring-off timer. -/

namespace Sys2Proof.Machine

section clauses
variable (u : Sense) (window : List Int) (now : Nat)

/-- A window that confirms its class: R4, R6 and R7 in the unit's fields. -/
theorem Sense.endWindow_confirming (h : u.Confirming (classOfWindow u.confirmed window)) :
    let w := classOfWindow u.confirmed window
    let v := (u.endWindow window now).1
    v.window = [] ∧ (v.confirmed = w ∧ v.candidate = none ∧ v.run = 0 ∧ v.settling = false) ∧
      v.ringOff = if w = .ring then some (now + 6000) else u.ringOff := by
  obtain ⟨a, b, e⟩ := u.endWindow_eq_classed window now
  have applied := Sense.applyClass_confirming (u := { u with window := [] }) h
  dsimp only
  rw [e]
  rw [Sense.classed, windowClass_eq, applied]
  exact ⟨rfl, ⟨rfl, rfl, rfl, rfl⟩, if_congr (by simp) rfl rfl⟩

/-- A window that confirms nothing: the ring-off timer is started again by RING alone, while it runs (R6). -/
theorem Sense.endWindow_not_confirming (h : ¬u.Confirming (classOfWindow u.confirmed window)) :
    let w := classOfWindow u.confirmed window
    let v := (u.endWindow window now).1
    v.window = [] ∧ (v.confirmed = u.confirmed ∧ v.settling = false) ∧
      (w = u.confirmed → v.candidate = none ∧ v.run = 0) ∧
      (w ≠ u.confirmed → v.candidate = some w ∧ v.run = u.runAfter w) ∧
      v.ringOff = if w = .ring ∧ u.ringOff.isSome = true then some (now + 6000) else u.ringOff := by
  obtain ⟨a, b, e⟩ := u.endWindow_eq_classed window now
  have settled := Sense.settling_of_not_confirming h
  dsimp only
  rw [e]
  by_cases same : classOfWindow u.confirmed window = u.confirmed
  · have applied := Sense.applyClass_same (u := { u with window := [] }) settled same
    rw [Sense.classed, windowClass_eq, applied]
    exact ⟨rfl, ⟨rfl, settled⟩, fun _ => ⟨rfl, rfl⟩, fun ne => absurd same ne, if_congr (by simp) rfl rfl⟩
  · have applied := Sense.applyClass_counting (u := { u with window := [] }) h same
    rw [Sense.classed, windowClass_eq, applied]
    exact ⟨rfl, ⟨rfl, settled⟩, fun eq => absurd eq same, fun _ => ⟨rfl, rfl⟩, if_congr (by simp) rfl rfl⟩

/-- Class and ring-off timer leave the polarity side alone. -/
theorem Sense.classed_polarity :
    (u.classed window now).polarity = u.polarity ∧ (u.classed window now).polarityRun = u.polarityRun :=
  Sense.applyClass_polarity (u := { u with window := [] }) (w := windowClass u.confirmed window)

theorem Sense.endWindow_polarity_uncounted
    (h : ¬(classOfWindow u.confirmed window ≠ .ring ∧ window.sum ≠ 0)) :
    (u.endWindow window now).1.polarity = u.polarity ∧ (u.endWindow window now).1.polarityRun = u.polarityRun := by
  rw [← windowClass_eq] at h
  rw [u.endWindow_uncounted window now h]
  exact u.classed_polarity window now

/-- A counted window's sign (R8). -/
theorem Sense.endWindow_polarity_counted (h : classOfWindow u.confirmed window ≠ .ring ∧ window.sum ≠ 0) :
    let sign := windowSign window
    let v := (u.endWindow window now).1
    (u.polarity = some sign → v.polarity = u.polarity ∧ v.polarityRun = none) ∧
      (u.polarity ≠ some sign → 4 ≤ u.polarityCount sign → v.polarity = some sign ∧ v.polarityRun = none) ∧
      (u.polarity ≠ some sign → u.polarityCount sign < 4 →
        v.polarity = u.polarity ∧ v.polarityRun = some (sign, u.polarityCount sign)) := by
  obtain ⟨hp, hr⟩ := u.classed_polarity window now
  have count : (u.classed window now).polarityCount (windowSign window) = u.polarityCount (windowSign window) := by
    simp only [Sense.polarityCount, hr]
  rw [← windowClass_eq] at h
  dsimp only
  rw [u.endWindow_counted window now h.1 h.2, ← hp, ← count]
  refine ⟨fun g => ?_, fun g n => ?_, fun g n => ?_⟩
  · rw [Sense.applyPolarity_same _ g]; exact ⟨rfl, rfl⟩
  · rw [Sense.applyPolarity_confirms _ g n]; exact ⟨rfl, rfl⟩
  · rw [Sense.applyPolarity_counts _ g n]; exact ⟨rfl, rfl⟩

end clauses

/-- Settles O12: the eighth sample's window is applied by `Sense.endWindow`, and `State.settle_sensedKept` says that what comes of it leaves the unit alone. -/
theorem samplesFillAndSettleTheWindow : Obligations.SamplesFillAndSettleTheWindow := by
  refine ⟨fun t line volts s hr => ⟨exec_loopSample_off t line s volts, exec_loopSample_filling t line s volts hr⟩,
    fun t line volts s hp hd hw => ?_, fun t line volts s hp hd hw => ?_⟩
  · obtain ⟨v, hv, sense⟩ := exec_loopSample_eighth t line s volts hp hd hw
    intro u w run full confirms
    have confirming : confirms ↔ u.Confirming w := by simp only [confirms, full, Sense.Confirming, fullRun_eq]; rfl
    refine ⟨v, hv, ?_⟩
    rw [sense]
    by_cases h : confirms
    · obtain ⟨empty, fields, timer⟩ := u.endWindow_confirming _ (max s.now t) (confirming.1 h)
      exact ⟨empty, fun _ => fields, fun n => absurd h n,
        timer.trans (if_congr (and_iff_left (.inl h)).symm rfl rfl)⟩
    · obtain ⟨empty, ⟨kept, settled⟩, same, counting, timer⟩ :=
        u.endWindow_not_confirming _ (max s.now t) (mt confirming.2 h)
      exact ⟨empty, fun y => absurd y h, fun _ => ⟨kept, settled, same, counting⟩,
        timer.trans (if_congr (and_congr_right fun _ => (or_iff_right h).symm) rfl rfl)⟩
  · obtain ⟨v, hv, sense⟩ := exec_loopSample_eighth t line s volts hp hd hw
    intro u window sign counted run
    refine ⟨v, hv, ?_⟩
    rw [sense]
    by_cases h : counted
    · obtain ⟨same, confirms, counts⟩ := u.endWindow_polarity_counted window (max s.now t) h
      exact ⟨fun n => absurd h n, fun _ => same, fun _ => confirms, fun _ => counts⟩
    · exact ⟨fun _ => u.endWindow_polarity_uncounted window (max s.now t) h, fun y => absurd y h,
        fun y => absurd y h, fun y => absurd y h⟩

/-- Settles O13, from the unit and class occupancy that the expiry and its report leave. -/
theorem ringOffEndsRinging : Obligations.RingOffEndsRinging := by
  intro t line s e h he hd _ u
  obtain ⟨v, hv, sensed⟩ := exec_ringOffTimerExpiry t line s h he hd
  have sense : v.sense line = u.ringOffExpired := congrArg Prod.fst sensed
  have occ : (v.ctl line).classOcc =
      if (s.ctl line).classOcc = .ringing ∧ u.confirmed ≠ .ring then ClassOcc.ofClass u.confirmed
      else (s.ctl line).classOcc := congrArg (fun x => x.2.1) sensed
  refine ⟨v, hv, fun ring => ?_, fun other => ?_⟩
  · exact ⟨sense.trans (if_pos ring), occ.trans (if_neg fun x => x.2 ring)⟩
  · refine ⟨sense.trans (if_neg other), fun n => occ.trans (if_neg fun x => n x.1), ?_, ?_, ?_⟩ <;>
      (intro ringing carried; rw [occ, if_pos ⟨ringing, other⟩, carried]; rfl)

end Sys2Proof.Machine
end

section
/-! RESET (O3): the values after a reset, the built-in defaults, and the page at which a SAVE stops. -/

namespace Sys2Proof.Machine

/-! ### The state after a reset -/

section afterReset
variable (first second strap : Bool) (s : State)

/-- The state that RESET answers. -/
def State.resetTo : State :=
  State.afterReset (fittedCount first second) strap s.mainsFail (fun l => (s.line l).toneOn) s.storeAfterReset s.pending
    (if s.save.isSome then s.free + 1 else s.free)

theorem exec_reset : exec (.reset first second strap) s = .next (s.resetTo first second strap) := rfl

theorem fittedCount_eq : fittedCount first second = 1 + first.toNat + 2 * second.toNat := by
  cases first <;> cases second <;> rfl

theorem State.resetTo_line (l : LineNo) :
    (s.resetTo first second strap).line l =
      Line.reset (l.val < (s.resetTo first second strap).fitted) ((s.line l).toneOn) := by
  fin_cases l <;> rfl

theorem State.resetTo_channel (c : ChannelNo) : (s.resetTo first second strap).channel c = InputChannel.reset :=
  Vector.getElem_replicate ..

theorem State.resetTo_rx (e : RxNo) : (s.resetTo first second strap).rx e = RxStatus.reset :=
  Vector.getElem_replicate ..

theorem State.resetTo_t2 (l : LineNo) : (s.resetTo first second strap).t2 l = T2.default :=
  Vector.getElem_replicate ..

theorem State.resetTo_t3 (e : RxNo) : (s.resetTo first second strap).t3 e = T3.default :=
  Vector.getElem_replicate ..

theorem State.resetTo_t4 (r : RouteNo) : (s.resetTo first second strap).t4 r = T4.default :=
  Vector.getElem_replicate ..

theorem State.resetTo_t6 (c : ChannelNo) : (s.resetTo first second strap).t6 c = T6.default (num c) := by
  fin_cases c <;> rfl

theorem State.storeAfterReset_idle (h : s.save = none) : s.storeAfterReset = s.store := by
  unfold State.storeAfterReset; rw [h]

theorem State.storeAfterReset_writing {w : Save} (h : s.save = some w) :
    s.storeAfterReset = tornStore s.store s.free w.page := by
  unfold State.storeAfterReset; rw [h]

end afterReset

/-! ### The torn page (R169) -/

theorem byteSum_eq (bs : List Byte) : byteSum bs = bs.sum := List.sum_eq_foldl.symm

/-- A list of bytes by address, changed at one of them, does not keep the sum 0. -/
theorem sum_ne_zero_of_changed {f g : Nat → Byte} {n b : Nat} (hb : b < n) (same : ∀ a, a ≠ b → g a = f a)
    (changed : g b ≠ f b) (zero : ((List.range n).map f).sum = 0) : ((List.range n).map g).sum ≠ 0 := by
  have finite : ∀ h : Nat → Byte, ((List.range n).map h).sum = ∑ a ∈ Finset.range n, h a := fun _ => rfl
  have rest : ∑ a ∈ (Finset.range n).erase b, g a = ∑ a ∈ (Finset.range n).erase b, f a :=
    Finset.sum_congr rfl fun a ha => same a (Finset.ne_of_mem_erase ha)
  have mem := Finset.mem_range.2 hb
  intro zero'
  rw [finite, ← Finset.add_sum_erase _ _ mem] at zero zero'
  rw [rest] at zero'
  exact changed (add_right_cancel (zero'.trans zero.symm))

theorem xor_one_ne (x : Byte) : x ^^^ 1 ≠ x := by
  intro h
  have bit := congrArg (fun y => y.getLsbD 0) h
  simp at bit

/-- The store with free values on one page. -/
def tornPage (m : List Host.Cell) (free page : Nat) : List Host.Cell :=
  storeWriteBytes m (pageAddress page) ((List.range 16).map fun i => Config.tornByte free (pageAddress page + i))

/-- The byte of a directory page at which the reset spoils the directory's check. -/
def spoiltByte (page : Nat) : Nat := if page = 38 then 15 else 24

theorem tornStore_eq (m : List Host.Cell) (free page : Nat) :
    tornStore m free page =
      if 38 ≤ page ∧ byteSum (storeBytes (tornPage m free page) 0 25) = 0 then
        storeWrite (spoiltByte page) (storeRead (tornPage m free page) (spoiltByte page) ^^^ 1) (tornPage m free page)
      else tornPage m free page := rfl

section torn
variable {m : List Host.Cell} {page : Nat} (free : Nat)

theorem pageAddress_bound (h : page < 40) : pageAddress page + 16 ≤ storeSize := by
  unfold pageAddress storeSize; split <;> omega

/-- The spoilt byte stands on its own page, in the directory. -/
theorem spoiltByte_place (h : page < 40) (g : 38 ≤ page) :
    pageAddress page ≤ spoiltByte page ∧ spoiltByte page < pageAddress page + 16 ∧ spoiltByte page < 25 := by
  obtain rfl | rfl : page = 38 ∨ page = 39 := by omega
  · decide
  · decide

theorem tornPage_wf (h : Memory.wf m = true) : Memory.wf (tornPage m free page) = true :=
  storeWriteBytes_wf _ _ _ h

theorem storeRead_tornPage_outside (h : Memory.wf m = true) (hp : page < 40) {a : Nat}
    (ha : a < pageAddress page ∨ pageAddress page + 16 ≤ a) :
    storeRead (tornPage m free page) a = storeRead m a := by
  have bound := pageAddress_bound hp
  rw [tornPage, storeRead_storeWriteBytes a _ m _ h (by simpa using bound), if_neg (by simp; omega)]

/-- A reset leaves every byte outside the page that was being written. -/
theorem storeRead_tornStore_outside (h : Memory.wf m = true) (hp : page < 40) {a : Nat}
    (ha : a < pageAddress page ∨ pageAddress page + 16 ≤ a) :
    storeRead (tornStore m free page) a = storeRead m a := by
  rw [tornStore_eq, ← storeRead_tornPage_outside free h hp ha]
  split
  · next g =>
    obtain ⟨low, high, _⟩ := spoiltByte_place hp g.1
    have bound := pageAddress_bound hp
    rw [storeRead_storeWrite _ _ _ _ (tornPage_wf free h) (by omega), if_neg (by omega)]
  · rfl

/-- A reset that stops at a directory page leaves a directory whose check fails. -/
theorem tornStore_check_fails (h : Memory.wf m = true) (hp : page < 40) (g : 38 ≤ page) :
    ((List.range 25).map (storeRead (tornStore m free page))).sum ≠ 0 := by
  have directory : byteSum (storeBytes (tornPage m free page) 0 25) =
      ((List.range 25).map (storeRead (tornPage m free page))).sum := by
    rw [byteSum_eq, storeBytes]; simp only [Nat.zero_add]
  rw [tornStore_eq, directory]
  split
  · next zero =>
    obtain ⟨_, high, inside⟩ := spoiltByte_place hp g
    have bound := pageAddress_bound hp
    have read := fun a => storeRead_storeWrite (spoiltByte page) a
      (storeRead (tornPage m free page) (spoiltByte page) ^^^ 1) (tornPage m free page) (tornPage_wf free h) (by omega)
    refine sum_ne_zero_of_changed inside (fun a ne => (read a).trans (if_neg ne)) ?_ zero.2
    rw [read, if_pos rfl]
    exact xor_one_ne _
  · next n => exact fun zero => n ⟨g, zero⟩

end torn

/-- Settles O3: the values are those of `State.afterReset`; the torn page by `tornStore_check_fails` and `storeRead_tornStore_outside`. -/
theorem resetGivesStartingValues : Obligations.ResetGivesStartingValues := by
  refine ⟨fun first second strap s => ?_, fun first second strap s => ?_, fun first second strap w s hwf hw hp => ?_⟩
  · refine ⟨_, exec_reset first second strap s, fittedCount_eq first second, rfl, rfl, rfl, rfl, rfl, rfl, rfl, rfl,
      fun l => ?_, s.resetTo_channel first second strap, rfl, s.resetTo_rx first second strap, rfl, rfl, rfl, rfl,
      s.storeAfterReset_idle, rfl, rfl⟩
    rw [s.resetTo_line first second strap l]
    exact ⟨rfl, rfl, by simp [Line.reset, LineCtl.reset], rfl, rfl, rfl, rfl⟩
  · exact ⟨_, exec_reset first second strap s, rfl, s.resetTo_t2 first second strap, s.resetTo_t3 first second strap,
      s.resetTo_t4 first second strap, ⟨rfl, rfl, rfl, rfl, rfl⟩, s.resetTo_t6 first second strap⟩
  · have store : (s.resetTo first second strap).store = tornStore s.store s.free w.page :=
      s.storeAfterReset_writing hw
    refine ⟨_, exec_reset first second strap s, fun a ha => ?_, fun g => ?_⟩
    · rw [store]; exact storeRead_tornStore_outside s.free hwf hp ha
    · rw [store]; exact tornStore_check_fails s.free hwf hp g

end Sys2Proof.Machine
end

section
/-! The tone segment detector and what its reports do to a call: which band opens a segment, what the end of one leaves, and the line after each (R12 to R16, R120, R122, R127). -/

namespace Sys2Proof.Machine

/-! ### The detector -/

theorem Detector.hears_iff (d : Detector) : d.hears = true ↔ d.listening = true ∧ d.muted = false := by
  simp [Detector.hears]

theorem Detector.appears_eq (d : Detector) (b : Band) (now : Nat) :
    d.appears b now =
      if d.listening = true ∧ d.muted = false then
        { d with
          since := d.since.set b (some now)
          segment := d.segment.map fun g => if g.band = b then { g with stopped := none } else g }
      else d := if_congr d.hears_iff rfl rfl

theorem Detector.stops_eq (d : Detector) (b : Band) (now : Nat) :
    d.stops b now =
      if d.listening = true ∧ d.muted = false then
        { d with
          since := d.since.set b none
          segment := d.segment.map fun g => if g.band = b then { g with stopped := some now } else g }
      else d := if_congr d.hears_iff rfl rfl

/-- The choice between the band chosen so far and the next of `bandOrder` (R13, log 17). -/
def betterBand (since : PerBand (Option Nat)) (now : Nat) (best : Option (Band × Nat)) (b : Band) :
    Option (Band × Nat) :=
  match since.get b, best with
  | some t, none => if t + qualifyTime ≤ now then some (b, t) else none
  | some t, some (c, u) => if t < u then some (b, t) else some (c, u)
  | none, best => best

theorem firstQualified_eq_betterBand (since : PerBand (Option Nat)) (now : Nat) :
    firstQualified since now =
      betterBand since now (betterBand since now (betterBand since now none .t2) .t1) .dial := rfl

/-- Only bands whose tone appeared after `onset` have been chosen so far. -/
def ChosenAfter (onset : Nat) (best : Option (Band × Nat)) : Prop := ∀ c u, best = some (c, u) → onset < u

section choice
variable {since : PerBand (Option Nat)} {now onset : Nat} {band b : Band} {best : Option (Band × Nat)}

theorem ChosenAfter.none : ChosenAfter onset Option.none := nofun

theorem ChosenAfter.step (h : ChosenAfter onset best) (later : ∀ other, since.get b = some other → onset < other) :
    ChosenAfter onset (betterBand since now best b) := by
  intro c u e
  unfold betterBand at e; split at e
  · next t ht =>
    split at e
    · cases e; exact later _ ht
    · cases e
  · next t c' u' ht =>
    split at e
    · cases e; exact later _ ht
    · cases e; exact h _ _ rfl
  · exact h _ _ e

theorem betterBand_takes (h : ChosenAfter onset best) (g : since.get band = some onset)
    (long : onset + qualifyTime ≤ now) : betterBand since now best band = some (band, onset) := by
  unfold betterBand; rw [g]
  cases best with
  | none => exact if_pos long
  | some x => exact if_pos (h _ _ rfl)

theorem betterBand_keeps (later : ∀ other, since.get b = some other → onset ≤ other) :
    betterBand since now (some (band, onset)) b = some (band, onset) := by
  unfold betterBand
  cases e : since.get b with
  | none => rfl
  | some t => exact if_neg (Nat.not_lt.2 (later t e))

/-- The band whose tone appeared first qualifies, and of several that appeared together T2 before T1 before DIAL-BAND (R13). -/
theorem firstQualified_first (g : since.get band = some onset) (long : onset + qualifyTime ≤ now)
    (first : ∀ b other, b ≠ band → since.get b = some other →
      onset < other ∨ (onset = other ∧ [Band.t2, .t1, .dial].idxOf band < [Band.t2, .t1, .dial].idxOf b)) :
    firstQualified since now = some (band, onset) := by
  have after : ∀ b, b ≠ band → ∀ other, since.get b = some other → onset ≤ other := fun b ne other e =>
    (first b other ne e).elim Nat.le_of_lt fun x => Nat.le_of_eq x.1
  have before : ∀ b, b ≠ band → ¬[Band.t2, .t1, .dial].idxOf band < [Band.t2, .t1, .dial].idxOf b →
      ∀ other, since.get b = some other → onset < other := fun b ne n other e =>
    (first b other ne e).resolve_right fun x => n x.2
  rw [firstQualified_eq_betterBand]
  cases band with
  | t2 =>
    rw [betterBand_takes .none g long, betterBand_keeps (after .t1 (by decide)),
      betterBand_keeps (after .dial (by decide))]
  | t1 =>
    rw [betterBand_takes (ChosenAfter.none.step (before .t2 (by decide) (by decide))) g long,
      betterBand_keeps (after .dial (by decide))]
  | dial =>
    exact betterBand_takes ((ChosenAfter.none.step (before .t2 (by decide) (by decide))).step
      (before .t1 (by decide) (by decide))) g long

end choice

/-- Tone that qualifies while no segment is open opens one (R13). -/
theorem Detector.qualify_opens {d : Detector} {now onset : Nat} {band : Band} (h : d.listening = true)
    (hm : d.muted = false) (hs : d.segment = none) (q : firstQualified d.since now = some (band, onset)) :
    d.qualify now =
      some ({ d with segment := some { band, onset, stopped := none } }, .onset band onset) := by
  simp [Detector.qualify, Detector.hears, h, hm, hs, q]

theorem presentSince_isSome (since : PerBand (Option Nat)) (limit : Nat) (b : Band) :
    (presentSince since limit b).isSome = (since.get b).any fun t => t ≤ limit := by
  unfold presentSince
  cases since.get b with
  | none => rfl
  | some t => by_cases h : t ≤ limit <;> simp [h]

theorem successor_eq (since : PerBand (Option Nat)) (stop : Nat) :
    successor since stop = [Band.t2, .t1, .dial].find? fun b => (since.get b).any fun t => t ≤ stop := by
  simp only [successor, presentSince_isSome]; rfl

/-- A segment whose tone has been absent for 20 ms ends, and the band that has been present opens its own (R13, R14). -/
theorem Detector.ended_reports {d : Detector} {g : Segment} {now stop : Nat} (h : d.listening = true)
    (hm : d.muted = false) (hs : d.segment = some g) (hg : g.stopped = some stop) (absent : stop + qualifyTime ≤ now) :
    d.ended now =
      some ({ d with segment := (successor d.since stop).map fun b => { band := b, onset := stop, stopped := none } },
        .ended g.band (min (stop - g.onset) 65535) g.onset stop,
        (successor d.since stop).map fun b => .onset b stop) := by
  have hears : d.hears = true := d.hears_iff.2 ⟨h, hm⟩
  unfold Detector.ended; rw [hears, hs]; dsimp only; rw [hg]; dsimp only; rw [if_pos absent]
  cases successor d.since stop <;> rfl

/-! ### A line put in place of another -/

section lines
variable (s : State) (l : LineNo)

/-- Of two lines put in the same place the second stays. -/
theorem State.setLine_setLine (x y : Line) : (s.setLine l x).setLine l y = s.setLine l y := by
  simp [State.setLine]

theorem State.setLine_setCall (x : Line) (c : Option Call) :
    (s.setLine l x).setCall l c = s.setLine l { x with call := c } := by
  rw [State.setCall, State.setLine_line_same, State.setLine_setLine]

theorem State.setLine_call (x : Line) : (s.setLine l x).call l = x.call := by simp [State.call]

theorem State.setLine_detector (x : Line) : (s.setLine l x).detector l = x.detector := by simp [State.detector]

theorem State.setLine_enterState (x : Line) (c : Call) (st : CallState) (ms : Nat) :
    (s.setLine l { x with call := some c }).enterState l st ms =
      s.setLine l { x with call := some { c with state := st, stateTimer := some (s.now + ms) } } := by
  rw [State.enterState, State.modCall, State.setLine_call, State.setLine_setCall]; rfl

/-- With nothing handed on, a drain does nothing. -/
theorem State.drain_rested (h : s.Rested) : s.drain = s := by
  unfold State.drain; rw [h]
  exact (if_neg (by simp [Work.idle])).trans (by unfold State.drainFuel; rw [h]; rfl)

theorem State.setBusy_false_rested (h : s.Rested) : s.setBusy false = s := by
  have idle : { s.work with busy := false } = s.work := by rw [h]; rfl
  rw [State.setBusy, idle]; rfl

/-- The release of a call with nothing in its slots: the line alone changes (R127). -/
theorem State.releaseCall_emptySlots (c : Call) (res : CallResult) (h : s.Rested)
    (hs : (s.line l).sending.tickets = []) (hn : (s.line l).next.tickets = []) :
    s.releaseCall l c res = s.setLine l ((s.line l).released c res s.now) := by
  have busy : ∀ b, (s.setBusy b).line l = s.line l := fun _ => rfl
  have nothing : ∀ u : State, u.returnAll [] = u := fun _ => rfl
  unfold State.releaseCall
  simp only [State.setSender, State.setIface, State.setSlots, State.setDetector, State.setCall,
    State.setLine_line_same, State.setLine_setLine, busy, hs, hn, nothing]
  exact (congrArg State.drain ((s.setLine l _).setBusy_false_rested h)).trans (State.drain_rested _ h)

end lines

/-! ### Busy tone (R120) -/

section busy
variable {c : ToneRecord} {b : Band} {ms onset stop : Nat}

theorem ToneRecord.busyOnset_none (onset : Nat) (h : c.busyCandidate = none) :
    c.busyOnset onset = { c with busyCandidate := none } := by
  have same : { c with busyCandidate := none } = c := by rw [← h]
  unfold ToneRecord.busyOnset; rw [h]; exact same.symm

theorem ToneRecord.busyOnset_fits (h : c.busyCandidate = some stop) (g : 350 ≤ onset - stop ∧ onset - stop ≤ 650) :
    c.busyOnset onset = { c with busyRun := c.busyRun + 1, busyCandidate := none } := by
  unfold ToneRecord.busyOnset; rw [h]; exact if_pos g

theorem ToneRecord.busyOnset_misses (h : c.busyCandidate = some stop)
    (g : ¬(350 ≤ onset - stop ∧ onset - stop ≤ 650)) :
    c.busyOnset onset = { c with busyRun := 0, busyCandidate := none } := by
  unfold ToneRecord.busyOnset; rw [h]; exact if_neg g

theorem ToneRecord.busyEnd_candidate (h : b = .dial ∧ 350 ≤ ms ∧ ms ≤ 650 ∧ c.ringFrom ≤ onset) :
    c.busyEnd b ms onset stop = { c with busyCandidate := some stop } := if_pos h

theorem ToneRecord.busyEnd_other (h : ¬(b = .dial ∧ 350 ≤ ms ∧ ms ≤ 650 ∧ c.ringFrom ≤ onset)) :
    c.busyEnd b ms onset stop = { c with busyRun := 0, busyCandidate := none } := if_neg h

/-- A segment that follows another at once leaves no candidate and the run 0: the break has lasted no time. -/
theorem ToneRecord.busyOnset_busyEnd (c : ToneRecord) (b : Band) (ms onset stop : Nat) (opened : Option (Band × Nat)) :
    { c.busyEnd b ms onset stop with openSegment := opened }.busyOnset stop =
      { c with openSegment := opened, busyRun := 0, busyCandidate := none } := by
  by_cases h : b = .dial ∧ 350 ≤ ms ∧ ms ≤ 650 ∧ c.ringFrom ≤ onset
  · rw [ToneRecord.busyEnd_candidate h]; exact ToneRecord.busyOnset_misses rfl (by omega)
  · rw [ToneRecord.busyEnd_other h]; exact ToneRecord.busyOnset_none _ rfl

end busy

/-! ### Reports reach the call of a line -/

theorem Call.resultOf_eq (c : Call) (res : CallResult) : c.resultOf res = resultFor c.purpose res := by
  unfold Call.resultOf resultFor; cases c.purpose <;> rfl

section reports
variable (s : State) (l : LineNo) {x : Line} {c : Call}

theorem State.setLine_toneReport_no_call (r : ToneReport) (h : x.call = none) :
    (s.setLine l x).toneReport l r = s.setLine l x := by
  unfold State.toneReport; rw [State.setLine_call, h]

/-- Outside RING-WAIT an onset is noted and nothing else (R113). -/
theorem State.setLine_toneReport_onset (b : Band) (onset : Nat) (h : x.call = some c) (hc : c.state ≠ .ringWait) :
    (s.setLine l x).toneReport l (.onset b onset) =
      s.setLine l { x with call := some { c with tone := { c.tone with openSegment := some (b, onset) } } } := by
  unfold State.toneReport; rw [State.setLine_call, h]; exact (if_neg hc).trans (State.setLine_setCall ..)

/-- In RING-WAIT an onset moves the busy run, which stays below 3 (R120). -/
theorem State.setLine_toneReport_ringWait (b : Band) (onset : Nat) (h : x.call = some c) (hc : c.state = .ringWait)
    (run : ({ c.tone with openSegment := some (b, onset) }.busyOnset onset).busyRun < 3) :
    (s.setLine l x).toneReport l (.onset b onset) =
      s.setLine l { x with
        call := some { c with tone := { c.tone with openSegment := some (b, onset) }.busyOnset onset } } := by
  unfold State.toneReport; rw [State.setLine_call, h]
  exact (if_pos hc).trans ((if_neg (Nat.not_le.2 run)).trans (State.setLine_setCall ..))

/-- The onset that makes the busy run 3 ends the call BUSY; its slots are empty (R120, R127). -/
theorem State.setLine_toneReport_busy (b : Band) (onset : Nat) (hr : s.Rested) (h : x.call = some c)
    (hc : c.state = .ringWait) (run : 3 ≤ ({ c.tone with openSegment := some (b, onset) }.busyOnset onset).busyRun)
    (sending : x.sending.tickets = []) (next : x.next.tickets = []) :
    (s.setLine l x).toneReport l (.onset b onset) =
      s.setLine l (x.released { c with tone := { c.tone with openSegment := some (b, onset) }.busyOnset onset }
        (resultFor c.purpose .busy) s.now) := by
  unfold State.toneReport; rw [State.setLine_call, h]
  refine (if_pos hc).trans ((if_pos run).trans ?_)
  rw [State.setLine_setCall]; unfold State.giveResult; rw [State.setLine_call]
  dsimp only; rw [hc]; dsimp only
  rw [State.releaseCall_emptySlots (s.setLine l _) l _ _ hr (by simpa using sending) (by simpa using next),
    State.setLine_line_same, State.setLine_setLine, Call.resultOf_eq]
  rfl

/-- In RING-WAIT the end of a segment moves busy tone's candidate (R120). -/
theorem State.setLine_toneReport_ended_ringWait (b : Band) (ms onset stop : Nat) (h : x.call = some c)
    (hc : c.state = .ringWait) :
    (s.setLine l x).toneReport l (.ended b ms onset stop) =
      s.setLine l { x with
        call := some { c with
          tone := { c.tone with openSegment := none, lastEnd := some (b, ms, stop) }.busyEnd b ms onset stop } } := by
  unfold State.toneReport; rw [State.setLine_call, h]; dsimp only; rw [hc]; exact State.setLine_setCall ..

/-- The READY tone ends HANDSHAKE, and phase DELAY begins (R122, R135). -/
theorem State.setLine_toneReport_ended_ready (b : Band) (ms onset stop : Nat) (h : x.call = some c)
    (hc : c.state = .handshake) (ready : b = .t1 ∧ 400 ≤ ms ∧ ms ≤ 3000) :
    (s.setLine l x).toneReport l (.ended b ms onset stop) =
      s.setLine l { x with
        call := some { c with
          state := .exchange .delay, stateTimer := some (s.now + delayTime)
          tone := { c.tone with openSegment := none, lastEnd := some (b, ms, stop) } } } := by
  unfold State.toneReport; rw [State.setLine_call, h]; dsimp only; rw [hc]
  refine (if_pos ready).trans ?_
  rw [State.setLine_setCall]; exact State.setLine_enterState s l x _ _ _

/-- Outside RING-WAIT and REPLY the end of a segment that is no READY tone is noted and nothing else (R113). -/
theorem State.setLine_toneReport_ended (b : Band) (ms onset stop : Nat) (h : x.call = some c)
    (wait : c.state ≠ .ringWait) (ready : c.state = .handshake → ¬(b = .t1 ∧ 400 ≤ ms ∧ ms ≤ 3000))
    (reply : ∀ opened, c.state ≠ .exchange (.reply opened)) :
    (s.setLine l x).toneReport l (.ended b ms onset stop) =
      s.setLine l { x with
        call := some { c with tone := { c.tone with openSegment := none, lastEnd := some (b, ms, stop) } } } := by
  unfold State.toneReport; rw [State.setLine_call, h]; dsimp only; split
  · next e => exact absurd e wait
  · next e => exact (if_neg (ready e)).trans (State.setLine_setCall ..)
  · next e => exact absurd e (reply _)
  · exact State.setLine_setCall ..

theorem State.setLine_followingOnset (r : ToneReport) (h : x.detector.hears = true) :
    (s.setLine l x).followingOnset l (some r) = (s.setLine l x).toneReport l r :=
  if_pos (by rw [State.setLine_detector, h])

/-- The onset of a segment that follows at once is noted in the call as the end has left it. -/
theorem State.setLine_followingOnset_opens (c : Call) (opens : Option Band) (stop : Nat)
    (hears : x.detector.hears = true) (hc : c.state ≠ .ringWait) :
    (s.setLine l { x with call := some { c with tone := { c.tone with openSegment := none } } }).followingOnset l
        (opens.map fun b => .onset b stop) =
      s.setLine l { x with
        call := some { c with tone := { c.tone with openSegment := opens.map fun b => (b, stop) } } } := by
  cases opens with
  | none => rfl
  | some b =>
    let c1 : Call := { c with tone := { c.tone with openSegment := none } }
    exact (State.setLine_followingOnset s l (x := { x with call := some c1 }) (.onset b stop) hears).trans
      (State.setLine_toneReport_onset s l (c := c1) b stop rfl hc)

/-- In RING-WAIT the candidate that an ended segment leaves is lost again where a segment follows at once (R120). -/
theorem State.setLine_followingOnset_ringWait (c : Call) (tone : ToneRecord) (band : Band) (ms onset stop : Nat)
    (opens : Option Band) (hears : x.detector.hears = true) (hc : c.state = .ringWait) :
    (s.setLine l { x with
        call := some { c with tone := { tone with openSegment := none }.busyEnd band ms onset stop } }).followingOnset l
          (opens.map fun b => .onset b stop) =
      s.setLine l { x with
        call := some { c with
          tone :=
            if band = .dial ∧ 350 ≤ ms ∧ ms ≤ 650 ∧ tone.ringFrom ≤ onset ∧ opens = none then
              { tone with openSegment := opens.map fun b => (b, stop), busyCandidate := some stop }
            else
              { tone with
                openSegment := opens.map fun b => (b, stop), busyRun := 0, busyCandidate := none } } } := by
  cases opens with
  | none =>
    refine congrArg (fun tone => s.setLine l { x with call := some { c with tone } }) (if_congr ?_ rfl rfl)
    simp
  | some b =>
    have busy := { tone with openSegment := none }.busyOnset_busyEnd band ms onset stop (some (b, stop))
    rw [if_neg (by simp)]
    refine (State.setLine_followingOnset s l (.onset b stop) ?_).trans
      ((State.setLine_toneReport_ringWait s l b stop rfl ?_ ?_).trans ?_)
    · exact hears
    · exact hc
    · rw [busy]; exact Nat.zero_lt_succ 2
    · rw [busy]; rfl

end reports

/-! ### The commands -/

section commands
variable (t : Nat) (line : LineNo) (s : State)

theorem exec_toneAppears (band : Band) (h : (s.line line).toneOn.get band = false) :
    exec (.toneAppears t line band) s =
      .next ((s.advance t).setLine line
        { s.line line with
          toneOn := (s.line line).toneOn.set band true
          detector := (s.line line).detector.appears band (max s.now t) }) :=
  congrArg Host.Outcome.next (if_neg (by simp [h]))

theorem exec_toneStops (band : Band) (h : (s.line line).toneOn.get band = true) :
    exec (.toneStops t line band) s =
      .next ((s.advance t).setLine line
        { s.line line with
          toneOn := (s.line line).toneOn.set band false
          detector := (s.line line).detector.stops band (max s.now t) }) :=
  congrArg Host.Outcome.next (if_pos h)

/-- TONE_QUALIFIED where a segment opens, up to the report's effect `v`. -/
theorem exec_toneQualified {d : Detector} {r : ToneReport} {v : State}
    (q : (s.line line).detector.qualify (max s.now t) = some (d, r))
    (reported : ((s.advance t).setLine line { s.line line with detector := d }).toneReport line r = v)
    (rested : v.Rested) : exec (.toneQualified t line) s = .next v := by
  have step : exec (.toneQualified t line) s = .next (State.settle (State.toneReport
      ((s.advance t).setLine line { s.line line with detector := d }) line r)) := by
    show execToneQualified t line s = _
    unfold execToneQualified; dsimp only
    rw [show ((s.advance t).detector line).qualify (s.advance t).now = some (d, r) from q]; rfl
  rw [step, reported, State.settle_rested v rested]

/-- TONE_ENDED where a segment ends, up to the reports' effect `v`. -/
theorem exec_toneEnded {d : Detector} {r : ToneReport} {following : Option ToneReport} {v : State}
    (q : (s.line line).detector.ended (max s.now t) = some (d, r, following))
    (reported : (((s.advance t).setLine line { s.line line with detector := d }).toneReport line r).followingOnset
      line following = v)
    (rested : v.Rested) : exec (.toneEnded t line) s = .next v := by
  have step : exec (.toneEnded t line) s = .next (State.settle ((State.toneReport
      ((s.advance t).setLine line { s.line line with detector := d }) line r).followingOnset line following)) := by
    show execToneEnded t line s = _
    unfold execToneEnded; dsimp only
    rw [show ((s.advance t).detector line).ended (s.advance t).now = some (d, r, following) from q]; rfl
  rw [step, reported, State.settle_rested v rested]

end commands

end Sys2Proof.Machine
end

section
/-! The two statements on tones and segments. -/

namespace Sys2Proof.Machine

/-- Settles O14: the band by `firstQualified_first`, the call by what an ONSET report does in its state. -/
theorem tonesReachTheDetector : Obligations.TonesReachTheDetector := by
  refine ⟨fun t line band s => ⟨fun h => ?_, fun h => ?_⟩, ?_⟩
  · rw [exec_toneAppears t line s band h, Detector.appears_eq]
  · rw [exec_toneStops t line s band h, Detector.stops_eq]
  · intro t line band onset s hr x x1 hl hm hs hg long place first
    have qualified : ∀ {y : Line}, ((s.advance t).setLine line x1).toneReport line (.onset band onset) =
        (s.advance t).setLine line y → exec (.toneQualified t line) s = .next ((s.advance t).setLine line y) :=
      fun reported => exec_toneQualified t line s
        (Detector.qualify_opens hl hm hs (firstQualified_first hg long first)) reported hr
    refine ⟨fun hc => ?_, fun c hc hw => ?_, ?_, fun c stop hc hw candidate two near far sending next => ?_⟩
    · exact qualified (State.setLine_toneReport_no_call _ line _ hc)
    · exact qualified (State.setLine_toneReport_onset _ line band onset hc hw)
    · intro c hc hw low heard
      have moved : ∀ {tone : ToneRecord}, { c.tone with openSegment := some (band, onset) }.busyOnset onset = tone →
          tone.busyRun < 3 → exec (.toneQualified t line) s =
            .next ((s.advance t).setLine line { x1 with call := some { c with tone } }) := by
        rintro _ rfl run
        exact qualified (State.setLine_toneReport_ringWait _ line band onset hc hw run)
      refine ⟨fun absent => ?_, fun stop candidate => ⟨fun near far two => ?_, fun misses => ?_⟩⟩
      · exact moved (ToneRecord.busyOnset_none onset absent) (Nat.lt_succ_of_le low)
      · exact moved (ToneRecord.busyOnset_fits candidate ⟨near, far⟩) (Nat.succ_lt_succ two)
      · exact moved (ToneRecord.busyOnset_misses candidate (by omega)) (Nat.zero_lt_succ 2)
    · have three := ToneRecord.busyOnset_fits (c := { c.tone with openSegment := some (band, onset) }) candidate
        ⟨near, far⟩
      have busy := State.setLine_toneReport_busy (s.advance t) line (x := x1) band onset hr hc hw
        (by rw [three]; exact Nat.le_of_eq (congrArg (· + 1) two.symm)) sending next
      rw [three] at busy
      refine (qualified busy).trans ?_
      dsimp only; rw [two]; rfl

/-- Settles O15: the segment by `Detector.ended_reports`, the call by what an END report, and an ONSET report at the same instant, do in its state. -/
theorem segmentEnds : Obligations.SegmentEnds := by
  intro t line g stop opens s hr x ms hl hm hs hg absent following x1
  have ended := Detector.ended_reports (now := max s.now t) hl hm hs hg absent
  rw [successor_eq, following] at ended
  have hears : x1.detector.hears = true := x1.detector.hears_iff.2 ⟨hl, hm⟩
  have reports : ∀ {x2 y : Line},
      ((s.advance t).setLine line x1).toneReport line (.ended g.band ms g.onset stop) = (s.advance t).setLine line x2 →
      ((s.advance t).setLine line x2).followingOnset line (opens.map fun b => .onset b stop) =
        (s.advance t).setLine line y →
      exec (.toneEnded t line) s = .next ((s.advance t).setLine line y) :=
    fun first second => exec_toneEnded t line s ended ((congrArg (State.followingOnset · line _) first).trans second) hr
  constructor
  · intro hc
    refine reports (State.setLine_toneReport_no_call _ line _ hc) ?_
    cases opens with
    | none => rfl
    | some b =>
      exact (State.setLine_followingOnset _ line (x := x1) _ hears).trans
        (State.setLine_toneReport_no_call _ line _ hc)
  · intro c hc c1
    refine ⟨fun hw => ?_, fun hh t1 low high => ?_, fun hw hh hx => ?_⟩
    · exact reports (State.setLine_toneReport_ended_ringWait _ line g.band ms g.onset stop hc hw)
        (State.setLine_followingOnset_ringWait _ line c { c.tone with lastEnd := some (g.band, ms, stop) } g.band ms
          g.onset stop opens hears hw)
    · exact reports (State.setLine_toneReport_ended_ready _ line g.band ms g.onset stop hc hh ⟨t1, low, high⟩)
        (State.setLine_followingOnset_opens _ line
          { c with
            state := .exchange .delay, stateTimer := some (max s.now t + 250)
            tone := { c.tone with lastEnd := some (g.band, ms, stop) } } opens stop hears nofun)
    · exact reports (State.setLine_toneReport_ended _ line _ ms g.onset stop hc hw hh hx)
        (State.setLine_followingOnset_opens _ line
          { c with tone := { c.tone with lastEnd := some (g.band, ms, stop) } } opens stop hears hw)

end Sys2Proof.Machine
end

section
/-! What the blocks do to the state while they work on a command: a relation between the states before and after that every operation of the model meets. The conditions that every step keeps on rotation counter, link buffers, fault list and waiting list, and the frame of settings and pins, are each one induction over it. -/

namespace Sys2Proof.Machine

/-- What only a command of its own changes: clock, pins, supply state and its wait, and the store. -/
structure Pins where
  now : Nat
  mainsFail : Bool
  fitted : Nat
  holdStrap : Bool
  supply : Supply
  supplyTimer : Option Nat
  store : List Host.Cell

def State.pins (s : State) : Pins :=
  { now := s.now, mainsFail := s.mainsFail, fitted := s.fitted, holdStrap := s.holdStrap, supply := s.supply,
    supplyTimer := s.supplyTimer, store := s.store }

/-- What an update of a line, the queue, a receiver, a channel, the routes, the Dispatcher's state, mode, hold or the notes of the step leaves alone. -/
def State.tracked (s : State) : Pins × Tables × Nat × List LineNo × Link :=
  (s.pins, s.tables, s.rotation, s.waitList, s.link)

/-- The blocks' work on a command, update by update. `writes` says whether the working tables may be written. -/
inductive Works (writes : Prop) (s : State) : State → Prop
  | refl : Works writes s s
  | same {t u : State} (h : Works writes s t) (g : u.tracked = t.tracked) : Works writes s u
  | link {t : State} (h : Works writes s t) (k : Link) (faults : k.faults = t.link.faults)
      (requests : t.link.requests.length ≤ 2 → k.requests.length ≤ 2)
      (notices : t.link.notices.length ≤ 16 → k.notices.length ≤ 16) : Works writes s (t.setLink k)
  | faults {t : State} (h : Works writes s t) (fs : List FaultEntry)
      (kept : t.FaultsKept → (t.setFaults fs).FaultsKept) : Works writes s (t.setFaults fs)
  | turn {t : State} (h : Works writes s t) : Works writes s (t.setRotation (nextRotation t.fitted t.rotation))
  | wait {t : State} (h : Works writes s t) (ls : List LineNo)
      (joins : t.supply = .normal → ∀ l ∈ ls, l ∈ t.waitList) : Works writes s (t.setWaitList ls)
  | tables {t : State} (h : Works writes s t) (may : writes) (x : Tables) : Works writes s (t.setTables x)

/-! ### What the work keeps -/

section kept
variable {w : Prop} {s t u : State}

theorem Works.trans (h : Works w s t) (g : Works w t u) : Works w s u := by
  induction g with
  | refl => exact h
  | same _ e ih => exact ih.same e
  | link _ k hf hr hn ih => exact ih.link k hf hr hn
  | faults _ fs hk ih => exact ih.faults fs hk
  | turn _ ih => exact ih.turn
  | wait _ ls hj ih => exact ih.wait ls hj
  | tables _ hm x ih => exact ih.tables hm x

theorem Works.pins (h : Works w s t) : t.pins = s.pins := by
  induction h with
  | refl => rfl
  | same _ e ih => exact (congrArg Prod.fst e).trans ih
  | link _ _ _ _ _ ih => exact ih
  | faults _ _ _ ih => exact ih
  | turn _ ih => exact ih
  | wait _ _ _ ih => exact ih
  | tables _ _ _ ih => exact ih

theorem Works.tables_eq (h : Works False s t) : t.tables = s.tables := by
  induction h with
  | refl => rfl
  | same _ e ih => exact (congrArg (fun x => x.2.1) e).trans ih
  | link _ _ _ _ _ ih => exact ih
  | faults _ _ _ ih => exact ih
  | turn _ ih => exact ih
  | wait _ _ _ ih => exact ih
  | tables _ may _ _ => exact may.elim

theorem nextRotation_bounds {fitted c : Nat} (h : 1 ≤ fitted) (g : c ≤ fitted) :
    1 ≤ nextRotation fitted c ∧ nextRotation fitted c ≤ fitted := by
  unfold nextRotation; split <;> omega

theorem Works.rotationKept (h : Works w s t) (k : s.RotationKept) : t.RotationKept := by
  induction h with
  | refl => exact k
  | same _ e ih =>
    simp only [State.tracked, State.pins, Prod.mk.injEq, Pins.mk.injEq] at e
    simpa only [State.RotationKept, e] using ih
  | link _ _ _ _ _ ih => exact ih
  | faults _ _ _ ih => exact ih
  | turn _ ih =>
    obtain ⟨low, high, _, turn⟩ := ih
    exact ⟨low, high, nextRotation_bounds low turn⟩
  | wait _ _ _ ih => exact ih
  | tables _ _ _ ih => exact ih

theorem Works.buffersKept (h : Works w s t) (k : s.BuffersKept) : t.BuffersKept := by
  induction h with
  | refl => exact k
  | same _ e ih =>
    simp only [State.tracked, Prod.mk.injEq] at e
    simpa only [State.BuffersKept, e] using ih
  | link _ _ _ hr hn ih => exact ⟨hr ih.1, hn ih.2⟩
  | faults _ _ _ ih => exact ih
  | turn _ ih => exact ih
  | wait _ _ _ ih => exact ih
  | tables _ _ _ ih => exact ih

theorem Works.faultsKept (h : Works w s t) (k : s.FaultsKept) : t.FaultsKept := by
  induction h with
  | refl => exact k
  | same _ e ih =>
    simp only [State.tracked, Prod.mk.injEq] at e
    simpa only [State.FaultsKept, e] using ih
  | link _ _ hf _ _ ih => simpa only [State.FaultsKept, State.setLink_link, hf] using ih
  | faults _ _ hk ih => exact hk ih
  | turn _ ih => exact ih
  | wait _ _ _ ih => exact ih
  | tables _ _ _ ih => exact ih

/-- Under NORMAL no line comes to wait for its promotion (R28, R29). -/
theorem Works.waitList_nil (h : Works w s t) (normal : s.supply = .normal) (none : s.waitList = []) :
    t.waitList = [] := by
  induction h with
  | refl => exact none
  | same _ e ih => exact (congrArg (fun x => x.2.2.2.1) e).trans ih
  | link _ _ _ _ _ ih => exact ih
  | faults _ _ _ ih => exact ih
  | turn _ ih => exact ih
  | wait g ls hj ih =>
    have supply := (congrArg Pins.supply g.pins).trans normal
    exact List.eq_nil_iff_forall_not_mem.2 fun l hl => by
      have := hj supply l hl
      rw [ih] at this; cases this
  | tables _ _ _ ih => exact ih

theorem Works.supply_eq (h : Works w s t) : t.supply = s.supply := congrArg Pins.supply h.pins

theorem Works.ite {c : Prop} [Decidable c] (yes : Works w s t) (no : Works w s u) :
    Works w s (if c then t else u) := by
  split
  · exact yes
  · exact no

/-- Work done for each element of a list in turn. -/
theorem Works.foldl {α : Type} {f : State → α → State} (l : List α) (h : Works w s t)
    (step : ∀ u a, Works w u (f u a)) : Works w s (l.foldl f t) := by
  induction l generalizing t with
  | nil => exact h
  | cons a l ih => exact ih (h.trans (step t a))

end kept

/-! ### Plain updates -/

section plain
variable {w : Prop} {s t : State}

theorem Works.setLine (h : Works w s t) (l : LineNo) (x : Line) : Works w s (t.setLine l x) := h.same rfl
theorem Works.setCtl (h : Works w s t) (l : LineNo) (x : LineCtl) : Works w s (t.setCtl l x) := h.same rfl
theorem Works.setSense (h : Works w s t) (l : LineNo) (x : Sense) : Works w s (t.setSense l x) := h.same rfl
theorem Works.setDetector (h : Works w s t) (l : LineNo) (x : Detector) : Works w s (t.setDetector l x) := h.same rfl
theorem Works.setIface (h : Works w s t) (l : LineNo) (x : Iface) : Works w s (t.setIface l x) := h.same rfl
theorem Works.setSender (h : Works w s t) (l : LineNo) (x : Option Nat) : Works w s (t.setSender l x) := h.same rfl
theorem Works.setCall (h : Works w s t) (l : LineNo) (x : Option Call) : Works w s (t.setCall l x) := h.same rfl
theorem Works.modCall (h : Works w s t) (l : LineNo) (f : Call → Call) : Works w s (t.modCall l f) := h.same rfl
theorem Works.enterState (h : Works w s t) (l : LineNo) (c : CallState) (ms : Nat) :
    Works w s (t.enterState l c ms) := h.same rfl
theorem Works.setSlots (h : Works w s t) (l : LineNo) (x y : Slot) : Works w s (t.setSlots l x y) := h.same rfl
theorem Works.setChannel (h : Works w s t) (c : ChannelNo) (x : InputChannel) : Works w s (t.setChannel c x) :=
  h.same rfl
theorem Works.setRx (h : Works w s t) (e : RxNo) (x : RxStatus) : Works w s (t.setRx e x) := h.same rfl
theorem Works.setQueue (h : Works w s t) (q : Queue) : Works w s (t.setQueue q) := h.same rfl
theorem Works.modRecord (h : Works w s t) (k : Nat) (f : Record → Record) : Works w s (t.modRecord k f) := h.same rfl
theorem Works.setStates (h : Works w s t) (ks : List Nat) (x : RecordState) : Works w s (t.setStates ks x) :=
  h.same rfl
theorem Works.setDispatcher (h : Works w s t) (d : Dispatcher) : Works w s (t.setDispatcher d) := h.same rfl
theorem Works.setWork (h : Works w s t) (x : Work) : Works w s (t.setWork x) := h.same rfl
theorem Works.tell (h : Works w s t) : Works w s t.tell := h.same rfl
theorem Works.noteWaiting (h : Works w s t) (k : Nat) : Works w s (t.noteWaiting k) := h.same rfl
theorem Works.noteExit (h : Works w s t) : Works w s t.noteExit := h.same rfl
theorem Works.setBusy (h : Works w s t) (b : Bool) : Works w s (t.setBusy b) := h.same rfl
theorem Works.setMode (h : Works w s t) (m : Mode) : Works w s (t.setMode m) := h.same rfl
theorem Works.setHold (h : Works w s t) (x : Hold) : Works w s (t.setHold x) := h.same rfl
theorem Works.setHoldTimer (h : Works w s t) (x : Option Nat) : Works w s (t.setHoldTimer x) := h.same rfl
theorem Works.setSave (h : Works w s t) (x : Option Save) : Works w s (t.setSave x) := h.same rfl
theorem Works.setRoutes (h : Works w s t) (x : Vector RouteEval 8) : Works w s (t.setRoutes x) := h.same rfl
theorem Works.setLoading (h : Works w s t) (b : Bool) : Works w s (t.setLoading b) := h.same rfl
theorem Works.setWaitList_filter (h : Works w s t) (p : LineNo → Bool) :
    Works w s (t.setWaitList (t.waitList.filter p)) := h.wait _ fun _ _ hl => List.mem_of_mem_filter hl

end plain

/-! ### Host Link and fault list -/

section link
variable {w : Prop} {s t : State}

theorem Link.transmit_notices (k : Link) : k.transmit.notices.length ≤ k.notices.length := by
  unfold Link.transmit; split
  · split
    · exact Nat.le_refl _
    · next hn => rw [hn]; exact Nat.le_succ _
    · exact Nat.le_refl _
  · exact Nat.le_refl _

/-- The notice buffer holds sixteen (R159). -/
theorem Link.enqueue_notices (k : Link) (n : Notice) (h : k.notices.length ≤ 16) :
    (k.enqueue n).notices.length ≤ 16 := by
  unfold Link.enqueue; split
  · next room =>
    have := Link.transmit_notices { k with notices := k.notices ++ [n] }
    simp only [List.length_append, List.length_singleton] at this
    omega
  · exact h

theorem Works.notice (h : Works w s t) (n : Notice) : Works w s (t.notice n) := by
  obtain ⟨_, _, requests, _, _, faults⟩ := Link.enqueue_core t.link n
  unfold State.notice; split
  · exact h
  · exact h.link _ faults (fun b => by rw [requests]; exact b) (Link.enqueue_notices _ n)

theorem Works.respond (h : Works w s t) (kind : Byte) (a : Answer) : Works w s (t.respond kind a) := by
  rw [State.respond_eq]
  exact h.link _ rfl id id

/-- An entry set ACTIVE or LATCHED stands under the kind and number it was made for. -/
theorem setFault_keys (faults : List FaultEntry) (k : FaultKind) (i : Nat) (b : Bool) :
    (setFault faults k i b).map (fun e => (e.kind, e.inst)) = faults.map fun e => (e.kind, e.inst) := by
  unfold setFault; rw [List.map_map]
  refine List.map_congr_left fun e _ => ?_
  simp only [Function.comp_apply]; split <;> rfl

/-- What the fault list holds is a condition on the keys of its entries (R161). -/
theorem faultsKept_iff (s : State) :
    s.FaultsKept ↔
      (s.link.faults.map fun e => (e.kind, e.inst)).Nodup ∧
        ∀ k ∈ s.link.faults.map fun e => (e.kind, e.inst), k.2 ∈ k.1.instances := by
  simp only [State.FaultsKept, List.forall_mem_map]

theorem Works.setFault (h : Works w s t) (k : FaultKind) (i : Nat) (b : Bool) :
    Works w s (t.setFaults (setFault t.link.faults k i b)) :=
  h.faults _ fun kept => by
    rw [faultsKept_iff] at kept ⊢
    rw [State.setFaults_link, setFault_keys]
    exact kept

theorem Works.setFaults_filter (h : Works w s t) (p : FaultEntry → Bool) :
    Works w s (t.setFaults (t.link.faults.filter p)) :=
  h.faults _ fun ⟨distinct, known⟩ =>
    ⟨distinct.sublist (List.filter_sublist.map _), fun e he => known e (List.mem_of_mem_filter he)⟩

/-- A key that no entry has. -/
theorem faultEntry_none {faults : List FaultEntry} {k : FaultKind} {i : Nat} (h : faultEntry faults k i = none) :
    ∀ e ∈ faults, (e.kind, e.inst) ≠ (k, i) := by
  intro e he same
  have := List.find?_eq_none.1 h e he
  simp only [Prod.mk.injEq] at same
  simp [same] at this

theorem Works.faultActive (h : Works w s t) {k : FaultKind} {i : Nat} (known : i ∈ k.instances) :
    Works w s (t.faultActive k i) := by
  unfold State.faultActive; split
  · next absent =>
    refine Works.notice (h.faults _ fun kept => ?_) _
    rw [faultsKept_iff] at kept ⊢
    obtain ⟨distinct, ranges⟩ := kept
    simp only [State.setFaults_link, List.map_append, List.map_cons, List.map_nil]
    refine ⟨List.nodup_append.2 ⟨distinct, List.nodup_singleton _, ?_⟩, ?_⟩
    · intro a ha b hb e
      obtain ⟨x, hx, rfl⟩ := List.mem_map.1 ha
      exact faultEntry_none absent x hx (e.trans (List.mem_singleton.1 hb))
    · intro a ha
      rcases List.mem_append.1 ha with ha | ha
      · exact ranges a ha
      · rw [List.mem_singleton.1 ha]; exact known
  · split
    · exact h
    · exact (h.setFault k i true).notice _

theorem Works.faultCleared (h : Works w s t) (k : FaultKind) (i : Nat) : Works w s (t.faultCleared k i) := by
  unfold State.faultCleared; split
  · exact h
  · split
    · exact (h.setFault k i false).notice _
    · exact h

theorem Works.removeStoreCorrupt (h : Works w s t) : Works w s t.removeStoreCorrupt := by
  unfold State.removeStoreCorrupt; split
  · exact (h.setFaults_filter _).notice _
  · exact h

end link

/-! ### The Report Queue -/

section queue
variable {w : Prop} {s t : State}

theorem Works.settlePressure (h : Works w s t) : Works w s t.settlePressure := by
  unfold State.settlePressure; dsimp only; split
  · exact h.setQueue _
  · exact (h.setQueue _).tell

theorem Works.settleComm (h : Works w s t) : Works w s t.settleComm := by
  unfold State.settleComm; split
  · exact h.faultActive (List.mem_singleton.2 rfl)
  · exact h.faultCleared _ _

theorem Works.claimSending (h : Works w s t) (l : LineNo) (e : RxNo) (n : Nat) : Works w s (t.claimSending l e n) :=
  (h.setStates _ _).settlePressure.setSlots l _ _

theorem Works.claimNext (h : Works w s t) (l : LineNo) (e : RxNo) (n : Nat) : Works w s (t.claimNext l e n) :=
  (h.setStates _ _).settlePressure.setSlots l _ _

theorem Works.moveNext (h : Works w s t) (l : LineNo) : Works w s (t.moveNext l) := (h.setStates _ _).setSlots l _ _

theorem Works.releaseHeld (h : Works w s t) (r : Record) : Works w s (t.releaseHeld r) := by
  unfold State.releaseHeld; split
  · exact h.setQueue _
  · exact h

theorem Works.returnRecord (h : Works w s t) (k : Nat) : Works w s (t.returnRecord k) := by
  unfold State.returnRecord; split
  · exact h
  · next r _ =>
    have left := fun f => (h.modRecord k f).releaseHeld r
    exact .ite (Works.settlePressure (.ite ((left _).notice _).settleComm ((left _).noteWaiting k))) h

theorem Works.returnAll (h : Works w s t) (ks : List Nat) : Works w s (t.returnAll ks) :=
  h.foldl ks fun _ k => Works.refl.returnRecord k

theorem Works.recompose (h : Works w s t) (l : LineNo) (e : RxNo) (k : Nat) : Works w s (t.recompose l e k) := by
  unfold State.recompose; dsimp only; split
  · exact h.claimNext l e _
  · split
    · split
      · exact ((h.returnRecord _).setSlots l _ _).claimNext l e 1
      · exact h
    · exact h

theorem Works.takeHandOn (h : Works w s t) (k : Nat) : Works w s (t.takeHandOn k) := by
  unfold State.takeHandOn; split
  · exact h
  · split
    · split
      · exact h
      · split
        · exact h
        · exact h.recompose _ _ k
    · exact h

theorem Works.drainFuel (n : Nat) : ∀ {t : State}, Works w s t → Works w s (State.drainFuel n t) := by
  induction n with
  | zero => exact id
  | succ n ih =>
    intro t h; unfold State.drainFuel; split
    · exact h
    · exact ih ((h.setWork _).takeHandOn _)

theorem Works.drain (h : Works w s t) : Works w s t.drain := by
  unfold State.drain; split
  · exact h
  · exact Works.drainFuel 128 h

theorem Works.handOn (h : Works w s t) (k : Nat) : Works w s (t.handOn k) := (h.noteWaiting k).drain

theorem Works.startHoldLimit (h : Works w s t) : Works w s t.startHoldLimit := by
  unfold State.startHoldLimit; split
  · exact h.setHoldTimer _
  · exact h

theorem Works.fireEntry (h : Works w s t) : Works w s t.fireEntry := by
  unfold State.fireEntry; split
  · exact h.noteExit.startHoldLimit
  · exact h.startHoldLimit

theorem Works.tellNeighbours (h : Works w s t) (k : Nat) (c : ReportClass) (x : RecordState) :
    Works w s (t.tellNeighbours k c x) := by
  have noted : Works w s (if x = .stranded then (t.notice (.stranded k)).settleComm else t) :=
    .ite (h.notice _).settleComm h
  have entered := Works.ite (c := c = .fire) noted.fireEntry noted
  exact Works.settlePressure (.ite (entered.handOn k) entered)

theorem Works.enter (h : Works w s t) (rep : Report) (b : Bool) (n : Nat) : Works w s (t.enter rep b n) :=
  (h.setQueue _).tellNeighbours _ _ _

theorem Works.accountLoss (h : Works w s t) : Works w s t.accountLoss := by
  unfold State.accountLoss; split
  · exact (h.enter _ _ _).faultActive (List.mem_singleton.2 rfl)
  · split
    · exact h.modRecord _ _
    · exact h.setQueue _

theorem Works.countLoss (h : Works w s t) (k : Nat) (rep : Report) : Works w s (t.countLoss k rep) :=
  (h.setQueue _).notice _

theorem Works.removeRecord (h : Works w s t) (r : Record) : Works w s (t.removeRecord r) := by
  have left := fun q q' n => Works.ite (c := r.reserved = true)
    (.ite (c := t.queue.heldLosses = 0) ((h.setQueue q).faultCleared .queueLoss 0)
      (((h.setQueue q).setQueue q').enter lossReport true n))
    (h.setQueue q)
  exact (Works.ite (left _ _ _).settleComm (left _ _ _)).settlePressure.tell

theorem Works.join (h : Works w s t) (r : Record) (rep : Report) : Works w s (t.join r rep) := by
  have risen := fun f g => (h.modRecord r.ticket f).modRecord r.ticket g
  have noted := fun (x : RecordState) f g n => Works.ite (c := x = r.state) (risen f g) ((risen f g).notice n).settleComm
  have entered := fun x f g n => Works.ite (c := rep.cls = .fire) (noted x f g n).fireEntry (noted x f g n)
  have handed := fun x f g n => Works.ite (c := x = .waiting) ((entered x f g n).handOn r.ticket) (entered x f g n)
  exact .ite (handed _ _ _ _).settlePressure.tell (h.modRecord _ _)

/-- Admission (R60 to R65). -/
theorem Works.admission (h : Works w s t) (rep : Report) : Works w s (t.admission rep).1 := by
  unfold State.admission; split
  · exact h.join _ rep
  · split
    · exact h.enter rep _ _
    · split
      · exact (((h.removeRecord _).countLoss _ _).enter rep _ _).accountLoss
      · exact (h.countLoss _ rep).accountLoss

theorem Works.report (h : Works w s t) (rep : Report) : Works w s (t.report rep) := h.admission rep

theorem Works.acceptRecord (h : Works w s t) (e : RxNo) (k : Nat) : Works w s (State.acceptRecord e t k) := by
  unfold State.acceptRecord; split
  · exact h
  · split
    · split
      · exact (h.notice _).removeRecord _
      · split
        · dsimp only; split
          · exact ((h.modRecord k _).notice _).removeRecord _
          · exact ((h.modRecord k _).notice _).returnRecord k
        · exact h.returnRecord k
    · exact h

theorem Works.applyAccept (h : Works w s t) (e : RxNo) (ks : List Nat) : Works w s (t.applyAccept e ks) :=
  h.foldl ks fun _ k => Works.refl.acceptRecord e k

theorem Works.reexamineOne (h : Works w s t) (k : Nat) : Works w s (t.reexamineOne k) := by
  unfold State.reexamineOne; split
  · exact h
  · split
    · exact ((h.modRecord k _).notice _).settleComm.settlePressure
    · exact (((h.modRecord k _).notice _).settleComm.handOn k).settlePressure
    · exact h

theorem Works.reexamine (h : Works w s t) : Works w s t.reexamine := h.foldl _ fun _ k => Works.refl.reexamineOne k

theorem Works.rebuild (h : Works w s t) : Works w s t.rebuild := h.setQueue _

theorem Works.receiverResult (h : Works w s t) (e : RxNo) (x : Option CallResult) :
    Works w s (t.receiverResult e x) := by
  unfold State.receiverResult; split
  · split
    · dsimp only; split
      · exact (h.setRx e _).reexamine.tell
      · exact h.setRx e _
    · exact (h.setRx e _).tell
  · exact (h.setRx e _).tell

end queue

/-! ### Routes and channels -/

section inputs
variable {w : Prop} {s t : State}

/-- The number of a line, a route, a channel is one that the fault kinds naming such a part allow (`09` section 9.5). -/
theorem num_instances (l : LineNo) (r : RouteNo) (c : ChannelNo) :
    num l ∈ FaultKind.lineDown.instances ∧ num l ∈ FaultKind.lineNoTone.instances ∧
      num r ∈ FaultKind.routeInvalid.instances ∧ num c ∈ FaultKind.channelWiring.instances := by
  refine ⟨?_, ?_, ?_, ?_⟩
  · revert l; decide
  · revert l; decide
  · revert r; decide
  · revert c; decide

theorem Works.reportRoute (h : Works w s t) (r : RouteNo) : Works w s (t.reportRoute r) := by
  unfold State.reportRoute; split
  · exact h.faultActive (num_instances 0 r 0).2.2.1
  · exact h.faultCleared _ _

theorem Works.reportRoutes (h : Works w s t) : Works w s t.reportRoutes :=
  h.foldl _ fun _ r => Works.refl.reportRoute r

theorem Works.evaluateRoutes (h : Works w s t) : Works w s t.evaluateRoutes := (h.setRoutes _).reportRoutes

theorem Works.reports (h : Works w s t) (rs : List Report) : Works w s (rs.foldl State.report t) :=
  h.foldl rs fun _ rep => Works.refl.report rep

theorem Works.reconcileWiring (h : Works w s t) (c : ChannelNo) : Works w s (t.reconcileWiring c) := by
  unfold State.reconcileWiring; split
  · exact h
  · dsimp only; split
    · exact ((h.setChannel c _).reports _).faultActive (num_instances 0 0 c).2.2.2
    · exact ((h.setChannel c _).reports _).faultCleared _ _

theorem Works.reconcileAlarm (h : Works w s t) (c : ChannelNo) : Works w s (t.reconcileAlarm c) := by
  unfold State.reconcileAlarm; dsimp only; split
  · exact (h.setChannel c _).report _
  · split
    · exact (h.setChannel c _).report _
    · exact h.setChannel c _
  · exact h

theorem Works.reconcile (h : Works w s t) (c : ChannelNo) : Works w s (t.reconcile c) :=
  (h.reconcileWiring c).reconcileAlarm c

theorem Works.setForce (h : Works w s t) (c : ChannelNo) (f : Force) : Works w s (t.setForce c f) := by
  unfold State.setForce; dsimp only; split
  · exact h
  · generalize hu : (if f = .active then _ else _ : State) = u
    have tested : Works w s u := by
      rw [← hu]; split
      · exact (h.setChannel c _).report _
      · split
        · exact (h.setChannel c _).report _
        · exact h.setChannel c _
    split
    · exact tested.reconcile c
    · exact tested

theorem Works.releaseAll (h : Works w s t) : Works w s t.releaseAll := h.foldl _ fun _ c => Works.refl.setForce c .none

theorem Works.interlock (h : Works w s t) (c : ChannelNo) : Works w s (t.interlock c) := by
  unfold State.interlock; split
  · exact h.setForce c _
  · exact h

theorem Works.inputReading (h : Works w s t) (c : ChannelNo) (n : Nat) : Works w s (t.inputReading c n) := by
  unfold State.inputReading; dsimp only; split
  · split
    · exact ((h.setChannel c _).notice _).reconcile c
    · exact ((h.setChannel c _).notice _).interlock c
  · exact h.setChannel c _

theorem Works.isolateChannel (h : Works w s t) (c : ChannelNo) : Works w s (t.isolateChannel c) := by
  unfold State.isolateChannel; dsimp only; split
  · exact ((h.report _).setChannel c _).report _
  · exact (h.setChannel c _).report _

theorem Works.deIsolateChannel (h : Works w s t) (c : ChannelNo) : Works w s (t.deIsolateChannel c) :=
  ((h.setChannel c _).report _).reconcile c

theorem Works.unlatchChannel (h : Works w s t) (c : ChannelNo) : Works w s (t.unlatchChannel c) := by
  unfold State.unlatchChannel; dsimp only; split
  · exact (h.setChannel c _).reconcile c
  · exact h.setChannel c _

end inputs

end Sys2Proof.Machine
end

section
/-! The work of the Line Controllers, the Call Controllers and the Dispatcher, and the end of a command's work. -/

namespace Sys2Proof.Machine

/-! ### Line Controllers -/

section lines
variable {w : Prop} {s t : State}

theorem Works.lineNotice (h : Works w s t) (l : LineNo) : Works w s (t.lineNotice l) := h.notice _

theorem Works.recompute (h : Works w s t) (l : LineNo) : Works w s (t.recompute l) :=
  .ite h ((h.setCtl l _).lineNotice l).tell

theorem Works.startPromotion (h : Works w s t) (l : LineNo) : Works w s (t.startPromotion l) := h.setCtl l _

theorem Works.startNext (h : Works w s t) : Works w s t.startNext := by
  unfold State.startNext; split
  · exact h
  · split
    · exact h
    · next l rest hl => exact (h.wait rest fun _ k hk => by rw [hl]; exact List.mem_cons_of_mem l hk).startPromotion l

theorem Works.joinWaitList (h : Works w s t) (l : LineNo) (reserve : t.supply = .reserve) :
    Works w s (t.joinWaitList l) :=
  (h.setCtl l _).wait _ fun normal => by rw [State.setCtl_supply, reserve] at normal; cases normal

theorem Works.needReady (h : Works w s t) (l : LineNo) : Works w s (t.needReady l) := by
  unfold State.needReady; split
  · exact .ite h (h.startPromotion l)
  · next reserve => exact .ite (h.joinWaitList l reserve) (h.startPromotion l)

theorem Works.stepDown (h : Works w s t) (l : LineNo) : Works w s (t.stepDown l) := by
  have stopped := fun x d => Works.ite (c := (t.ctl l).power = .ready) ((h.setCtl l x).setDetector l d) (h.setCtl l x)
  exact (stopped _ _).setWaitList_filter _

theorem Works.yieldPower (h : Works w s t) (l : LineNo) : Works w s (t.yieldPower l) := by
  unfold State.yieldPower; split
  · exact (h.stepDown l).startNext
  · exact h

theorem Works.reserveLine (h : Works w s t) (l : LineNo) (reserve : t.supply = .reserve) :
    Works w s (t.reserveLine l) := by
  unfold State.reserveLine; split
  · exact h.stepDown l
  · exact .ite (h.joinWaitList l reserve) h

theorem Works.normalLine (h : Works w s t) (l : LineNo) : Works w s (t.normalLine l) := .ite (h.startPromotion l) h

theorem Works.beginLend (h : Works w s t) (l : LineNo) : Works w s (t.beginLend l) := (h.setCtl l _).recompute l

theorem Works.endLend (h : Works w s t) (l : LineNo) : Works w s (t.endLend l) := ((h.setCtl l _).recompute l).tell

theorem Works.setClassOcc (h : Works w s t) (l : LineNo) (o : ClassOcc) : Works w s (t.setClassOcc l o) :=
  .ite h ((h.setCtl l _).recompute l)

theorem Works.lineDownReports (h : Works w s t) (l : LineNo) (r : ClassReport) :
    Works w s (t.lineDownReports l r) :=
  .ite ((h.report _).faultActive (num_instances l 0 0).1) (.ite ((h.report _).faultCleared _ _) h)

theorem Works.toneHeard (h : Works w s t) (l : LineNo) : Works w s (t.toneHeard l) := h.setCtl l _

theorem Works.countNoTone (h : Works w s t) (l : LineNo) : Works w s (t.countNoTone l) :=
  .ite h (.ite (h.setCtl l _)
    ((((h.setCtl l _).lineNotice l).tell.report _).faultActive (num_instances l 0 0).2.1))

theorem Works.probeResult (h : Works w s t) (l : LineNo) (x : Option CallResult) : Works w s (t.probeResult l x) :=
  .ite ((((h.setCtl l _).lineNotice l).tell.report _).faultCleared _ _) (h.setCtl l _)

theorem Works.lineResult (h : Works w s t) (l : LineNo) (p : Purpose) (x : Option CallResult) :
    Works w s (t.lineResult l p x) := by
  cases p with
  | probe => exact h.probeResult l x
  | report => exact .ite (h.countNoTone l) h

theorem Works.lineOff (h : Works w s t) (l : LineNo) : Works w s (t.lineOff l) :=
  ((((((h.setSense l _).setDetector l _).setCtl l _).setWaitList_filter _).recompute l).faultCleared _ _).faultCleared
    _ _

theorem Works.lineOn (h : Works w s t) (l : LineNo) : Works w s (t.lineOn l) := by
  have on := fun x => Works.ite (c := t.supply = .normal) ((h.setCtl l x).startPromotion l) (h.setCtl l x)
  exact (on _).recompute l

theorem Works.enabledChanged (h : Works w s t) (l : LineNo) (b : Bool) : Works w s (t.enabledChanged l b) :=
  .ite (.ite (h.setCtl l _) (h.lineOn l)) (.ite (h.setCtl l _) (.ite ((h.endLend l).lineOff l) (h.lineOff l)))

@[simp] theorem State.recompute_rotation (t : State) (l : LineNo) : (t.recompute l).rotation = t.rotation := by
  unfold State.recompute; dsimp only; split
  · rfl
  · simp [State.lineNotice]

theorem Works.grant (h : Works w s t) (l : LineNo) (b : Bool) : Works w s (t.grant l b) := by
  have recomputed : ∀ x, Works w t ((t.setCtl l x).recompute l) := fun x => (Works.refl.setCtl l x).recompute l
  have fitted : ∀ x, ((t.setCtl l x).recompute l).fitted = t.fitted := fun x => congrArg Pins.fitted (recomputed x).pins
  have turned := (h.trans (recomputed { t.ctl l with grant := some (t.grantKind l b) })).turn
  rw [fitted, State.recompute_rotation] at turned
  exact turned

theorem Works.giveBack (h : Works w s t) (l : LineNo) : Works w s (t.giveBack l) := ((h.setCtl l _).recompute l).tell

theorem Works.handBack (h : Works w s t) (l : LineNo) (p : Purpose) (x : Option CallResult) :
    Works w s (t.handBack l p x) := by
  have back := fun y => (((h.lineResult l p x).setCall l none).setCtl l y).yieldPower l
  exact .ite ((back _).lineOff l).tell (.ite ((back _).beginLend l).tell ((back _).recompute l).tell)

end lines

/-! ### Call Controllers -/

section calls
variable {w : Prop} {s t : State}

theorem Works.endContext (h : Works w s t) (l : LineNo) (c : Call) (x : Option CallResult) :
    Works w s (t.endContext l c x) := by
  unfold State.endContext; dsimp only
  split <;> split
  · exact ((h.notice _).handBack l c.purpose _).receiverResult _ _
  · exact (h.handBack l c.purpose _).receiverResult _ _
  · exact (h.notice _).handBack l c.purpose _
  · exact h.handBack l c.purpose _

theorem Works.releaseCall (h : Works w s t) (l : LineNo) (c : Call) (x : CallResult) :
    Works w s (t.releaseCall l c x) := by
  unfold State.releaseCall
  exact (((((((((h.setBusy true).setSender l none).returnAll _).returnAll _).setSlots l _ _).setIface l _).setDetector
    l _).setCall l _).setBusy false).drain

theorem Works.giveResult (h : Works w s t) (l : LineNo) (x : CallResult) : Works w s (t.giveResult l x) := by
  unfold State.giveResult; split
  · exact h
  · split
    · exact h.endContext l _ _
    · exact h
    · exact h.releaseCall l _ _

theorem Works.dropCall (h : Works w s t) (l : LineNo) : Works w s (t.dropCall l) := by
  unfold State.dropCall; split
  · exact h.endContext l _ _
  · exact h

theorem Works.enterDialtone (h : Works w s t) (l : LineNo) : Works w s (t.enterDialtone l) :=
  ((h.setIface l _).setDetector l _).enterState l _ _

theorem Works.takeLine (h : Works w s t) (l : LineNo) : Works w s (t.takeLine l) := by
  have seized := fun f => (h.setIface l { (t.line l).iface with relayOpen := true }).modCall l f
  exact .ite ((seized _).enterState l _ _) ((seized _).enterDialtone l)

theorem Works.startCall (h : Works w s t) (l : LineNo) (c : Call) : Works w s (t.startCall l c) :=
  .ite ((h.setCall l _).giveResult l _) (.ite ((h.setCall l _).takeLine l) ((h.setCall l _).needReady l))

theorem Works.sendFailed (h : Works w s t) (l : LineNo) (c : Call) : Works w s (t.sendFailed l c) :=
  .ite (h.enterState l _ _) (h.giveResult l _)

theorem Works.acceptBlock (h : Works w s t) (l : LineNo) (c : Call) (e : RxNo) : Works w s (t.acceptBlock l c e) := by
  unfold State.acceptBlock; dsimp only
  have gone := fun f ks x y => ((((h.setBusy true).modCall l f).applyAccept e ks).setRx e x).setSlots l Slot.empty y
  exact Works.drain (Works.setBusy (.ite ((gone _ _ _ _).giveResult l _)
    (.ite ((gone _ _ _ _).giveResult l _) ((gone _ _ _ _).enterState l _ _))) false)

theorem Works.replyEnd (h : Works w s t) (l : LineNo) (c : Call) (o : Nat) (b : Band) (ms onset : Nat) :
    Works w s (t.replyEnd l c o b ms onset) := by
  unfold State.replyEnd; split
  · split
    · exact h.acceptBlock l c _
    · exact h
  · exact .ite (h.sendFailed l c) (.ite (h.sendFailed l c) h)

theorem Works.toneReport (h : Works w s t) (l : LineNo) (r : ToneReport) : Works w s (t.toneReport l r) := by
  unfold State.toneReport; split
  · exact h
  · split
    · exact .ite (.ite ((h.setCall l _).giveResult l _) (h.setCall l _)) (h.setCall l _)
    · dsimp only; split
      · exact h.setCall l _
      · exact .ite ((h.setCall l _).enterState l _ _) (h.setCall l _)
      · exact (h.setCall l _).replyEnd l _ _ _ _ _
      · exact h.setCall l _

theorem Works.mute (h : Works w s t) (l : LineNo) : Works w s (t.mute l) := by
  unfold State.mute; dsimp only; split
  · exact (h.setDetector l _).toneReport l _
  · exact h.setDetector l _

theorem Works.unmute (h : Works w s t) (l : LineNo) : Works w s (t.unmute l) := h.setDetector l _

theorem Works.enterRingWait (h : Works w s t) (l : LineNo) : Works w s (t.enterRingWait l) :=
  (h.modCall l _).enterState l _ _

theorem Works.beginSymbols (l : LineNo) (ds : List Nat) :
    ∀ {t : State}, Works w s t → Works w s (State.beginSymbols l ds t) := by
  induction ds with
  | nil => intro t h; exact (h.unmute l).enterRingWait l
  | cons d ds ih =>
    intro t h; unfold State.beginSymbols
    exact .ite (.ite (ih (((h.unmute l).toneHeard l).modCall l _)) ((h.unmute l).enterState l _ _))
      (.ite ((h.unmute l).enterState l _ _) (((h.setSender l _).enterState l _ _).mute l))

theorem Works.advanceDial (h : Works w s t) (l : LineNo) : Works w s (t.advanceDial l) := by
  unfold State.advanceDial; split
  · exact Works.beginSymbols l _ (h.modCall l _)
  · exact h

theorem Works.beginDialling (h : Works w s t) (l : LineNo) (e : RxNo) : Works w s (t.beginDialling l e) :=
  .ite ((h.modCall l _).giveResult l _) (Works.beginSymbols l _ (h.modCall l _))

theorem Works.beginSend (h : Works w s t) (l : LineNo) (n : Nat) : Works w s (t.beginSend l n) :=
  (((h.setSender l _).modCall l _).enterState l _ _).mute l

theorem Works.nextBlockSymbol (h : Works w s t) (l : LineNo) (n : Nat) : Works w s (t.nextBlockSymbol l n) := by
  unfold State.nextBlockSymbol; split
  · exact (h.setSender l _).enterState l _ _
  · exact (h.unmute l).enterState l _ _

theorem Works.flagSet (h : Works w s t) (l : LineNo) : Works w s (t.flagSet l) := by
  unfold State.flagSet; split
  · exact h
  · split
    · exact h.giveResult l _
    · exact h.giveResult l _
    · exact h
    · exact h
    · exact h.giveResult l _

theorem Works.callClass (h : Works w s t) (l : LineNo) (x : LoopClass) : Works w s (t.callClass l x) := by
  obtain same | ended := t.callClass_cases l x
  · rw [same]; exact h
  · rw [ended]; exact h.giveResult l _

theorem Works.callPolarity (h : Works w s t) (l : LineNo) : Works w s (t.callPolarity l) := by
  unfold State.callPolarity; split
  · exact h
  · exact .ite (h.enterState l _ _) h

theorem Works.prepareChange (h : Works w s t) (l : LineNo) : Works w s (t.prepareChange l) := by
  obtain same | dropped := t.prepareChange_cases l
  · rw [same]; exact h
  · rw [dropped]; exact h.dropCall l

theorem Works.classReport (h : Works w s t) (l : LineNo) (r : ClassReport) : Works w s (t.classReport l r) := by
  have told := (h.setClassOcc l (classOccAfter (t.ctl l).classOcc r)).lineDownReports l r
  exact Works.callClass (.ite told (told.prepareChange l)) l r.new

theorem Works.ringOffReport (h : Works w s t) (l : LineNo) (x : LoopClass) : Works w s (t.ringOffReport l x) :=
  .ite ((h.setClassOcc l _).prepareChange l) h

end calls

/-! ### Dispatcher, gate and exit from SERVICE -/

section acts
variable {w : Prop} {s t : State}

theorem Works.makeCalling (h : Works w s t) (e : RxNo) {u : State} (g : t.makeCalling e = some u) : Works w s u := by
  unfold State.makeCalling at g; split at g
  · cases g; exact h.setRx e _
  · cases g

theorem Works.passFuel (n : Nat) : ∀ {t : State}, Works w s t → Works w s (State.passFuel n t) := by
  induction n with
  | zero => exact id
  | succ n ih =>
    intro t h; unfold State.passFuel; split
    · exact h
    · split
      · exact h
      · dsimp only; split
        · next g => exact ih (((h.grant _ _).makeCalling _ g).startCall _ _)
        · exact ih ((h.grant _ _).giveBack _)

theorem Works.evaluateUrgent (h : Works w s t) : Works w s t.evaluateUrgent := by
  unfold State.evaluateUrgent; dsimp only; split
  · exact (h.setDispatcher _).notice _
  · exact h.setDispatcher _

theorem Works.settleFireTimer (h : Works w s t) : Works w s t.settleFireTimer :=
  .ite ((h.setDispatcher _).setWork _) (h.setDispatcher _)

theorem Works.settleHeld (h : Works w s t) : Works w s t.settleHeld := (h.setDispatcher _).settleFireTimer

theorem Works.act (h : Works w s t) : Works w s t.act := by
  have started := h.setWork { t.work with told := false }
  exact (Works.ite (Works.passFuel 8 started) started).evaluateUrgent.settleHeld

theorem Works.graceReclaim (h : Works w s t) : Works w s t.graceReclaim := by
  unfold State.graceReclaim; dsimp only; split
  · exact (h.setWork _).tell
  · exact ((h.setWork _).endLend _).tell

theorem Works.actFuel (n : Nat) : ∀ {t : State}, Works w s t → Works w s (State.actFuel n t) := by
  induction n with
  | zero => exact id
  | succ n ih =>
    intro t h; unfold State.actFuel
    exact .ite (ih h.graceReclaim) (.ite (ih h.act) h)

theorem Works.openGate (h : Works w s t) : Works w s t.openGate := by
  unfold State.openGate
  exact Works.tell (.ite (h.setDispatcher _) ((h.setDispatcher _).setQueue _))

theorem Works.closeGate (h : Works w s t) : Works w s t.closeGate := h.setDispatcher _

theorem Works.settleGate (h : Works w s t) : Works w s t.settleGate := .ite h (.ite h.openGate h.closeGate)

theorem Works.serviceExit (h : Works w s t) (c : ModeCause) : Works w s (t.serviceExit c) := by
  unfold State.serviceExit
  exact ((h.setMode _).notice _).evaluateRoutes.rebuild.reexamine.releaseAll.settleGate

theorem Works.settleExit (h : Works w s t) : Works w s t.settleExit :=
  .ite ((h.setWork _).serviceExit _) (h.setWork _)

/-- The end of a command's work. -/
theorem Works.settle (h : Works w s t) : Works w s t.settle := (Works.actFuel 64 h.settleExit.drain).setWork _

end acts

end Sys2Proof.Machine
end

section
/-! The work of every command but RESET, after what the command itself changes of clock, pins, supply and store. -/

namespace Sys2Proof.Machine

/-- The command completes, and from `u` on its blocks' work is as `Works` says. -/
def Leads (writes : Prop) (u : State) (o : Host.Outcome State Fault Refusal) : Prop := ∃ t, o = .next t ∧ Works writes u t

/-! ### Calls -/

section calls
variable {w : Prop} {s t : State} (n : Nat) (l : LineNo)

theorem Works.dialToneRecognised (h : Works w s t) (c : Call) : Works w s (t.dialToneRecognised l c) := by
  unfold State.dialToneRecognised; dsimp only
  have heard := fun f => (h.toneHeard l).modCall l f
  split
  · exact (heard _).giveResult l _
  · exact (heard _).beginDialling l _
  · exact heard _

theorem Works.limitReached (h : Works w s t) (c : Call) : Works w s (t.limitReached l c) := by
  unfold State.limitReached; split
  · exact (h.modCall l _).flagSet l
  · exact h.giveResult l _

theorem Works.firstClaim (h : Works w s t) (c : Call) : Works w s (t.firstClaim l c) := by
  unfold State.firstClaim; split
  · exact h
  · have claimed := fun e => h.claimSending l e 4
    exact .ite ((claimed _).giveResult l _) (((claimed _).claimNext l _ 4).beginSend l 1)

theorem Works.replyExpired (h : Works w s t) (c : Call) : Works w s (t.replyExpired l c) := by
  unfold State.replyExpired; dsimp only; split
  · exact .ite (h.setCall l _) ((h.setCall l _).sendFailed l _)
  · exact (h.setCall l _).sendFailed l _

theorem Works.gapOver (h : Works w s t) (c : Call) : Works w s (t.gapOver l c) := by
  unfold State.gapOver; split
  · exact h
  · exact .ite (h.giveResult l _) (((h.moveNext l).claimNext l _ 4).beginSend l 1)

theorem execCleardownEnd_leads : Leads w (s.advance n) (execCleardownEnd n l s) := by
  refine ⟨_, rfl, ?_⟩; split
  · exact (Works.refl.enterDialtone l).settle
  · exact .refl

theorem execDialToneRecognised_leads : Leads w (s.advance n) (execDialToneRecognised n l s) := by
  refine ⟨_, rfl, ?_⟩; split
  · exact .ite (Works.refl.dialToneRecognised l _).settle .refl
  · exact .refl

theorem execDialtoneTimeout_leads : Leads w (s.advance n) (execDialtoneTimeout n l s) := by
  refine ⟨_, rfl, ?_⟩; split
  · exact (Works.refl.giveResult l _).settle
  · exact .refl

theorem execDialSymbolToneEnd_leads : Leads w (s.advance n) (execDialSymbolToneEnd n l s) := by
  refine ⟨_, rfl, ?_⟩; split
  · exact .ite ((Works.refl.setSender l _).enterState l _ _).settle .refl
  · exact .refl

theorem execDialSymbolEnd_leads : Leads w (s.advance n) (execDialSymbolEnd n l s) := by
  refine ⟨_, rfl, ?_⟩; split
  · exact .ite (Works.refl.advanceDial l).settle .refl
  · exact .refl

theorem execSecondToneRecognised_leads : Leads w (s.advance n) (execSecondToneRecognised n l s) := by
  refine ⟨_, rfl, ?_⟩; split
  · exact .ite (((Works.refl.toneHeard l).modCall l _).advanceDial l).settle .refl
  · exact .refl

theorem execSecondToneTimeout_leads : Leads w (s.advance n) (execSecondToneTimeout n l s) := by
  refine ⟨_, rfl, ?_⟩; split
  · exact (Works.refl.giveResult l _).settle
  · exact .refl

theorem execRingWaitTimeout_leads : Leads w (s.advance n) (execRingWaitTimeout n l s) := by
  refine ⟨_, rfl, ?_⟩; split
  · exact (Works.refl.giveResult l _).settle
  · exact .refl

theorem execHandshakeTimeout_leads : Leads w (s.advance n) (execHandshakeTimeout n l s) := by
  refine ⟨_, rfl, ?_⟩; split
  · exact (Works.refl.giveResult l _).settle
  · exact .refl

theorem execCallLimitExpiry_leads : Leads w (s.advance n) (execCallLimitExpiry n l s) := by
  refine ⟨_, rfl, ?_⟩; split
  · exact .ite (Works.refl.limitReached l _).settle .refl
  · exact .refl

theorem execReleaseGuardEnd_leads : Leads w (s.advance n) (execReleaseGuardEnd n l s) := by
  refine ⟨_, rfl, ?_⟩; split
  · exact (Works.refl.endContext l _ _).settle
  · exact .refl

theorem execDelayEnd_leads : Leads w (s.advance n) (execDelayEnd n l s) := by
  refine ⟨_, rfl, ?_⟩; split
  · exact (Works.refl.firstClaim l _).settle
  · exact .refl

theorem execBlockSymbolToneEnd_leads : Leads w (s.advance n) (execBlockSymbolToneEnd n l s) := by
  refine ⟨_, rfl, ?_⟩; split
  · exact .ite ((Works.refl.setSender l _).enterState l _ _).settle .refl
  · exact .refl

theorem execBlockSymbolEnd_leads : Leads w (s.advance n) (execBlockSymbolEnd n l s) := by
  refine ⟨_, rfl, ?_⟩; split
  · exact .ite (Works.refl.nextBlockSymbol l _).settle .refl
  · exact .refl

theorem execReplyTimeout_leads : Leads w (s.advance n) (execReplyTimeout n l s) := by
  refine ⟨_, rfl, ?_⟩; split
  · exact (Works.refl.replyExpired l _).settle
  · exact .refl

theorem execCountingSegmentOverrun_leads : Leads w (s.advance n) (execCountingSegmentOverrun n l s) := by
  refine ⟨_, rfl, ?_⟩; split
  · split
    · exact .ite (Works.refl.sendFailed l _).settle .refl
    · exact .refl
  · exact .refl

theorem execRetryEnd_leads : Leads w (s.advance n) (execRetryEnd n l s) := by
  refine ⟨_, rfl, ?_⟩; split
  · exact (Works.refl.beginSend l _).settle
  · exact .refl

theorem execGapEnd_leads : Leads w (s.advance n) (execGapEnd n l s) := by
  refine ⟨_, rfl, ?_⟩; split
  · exact (Works.refl.gapOver l _).settle
  · exact .refl

end calls

/-! ### Lines and supply -/

section lines
variable {w : Prop} {s t : State} (n : Nat) (l : LineNo)

theorem Works.loopSample (h : Works w s t) (volts : Int) : Works w s (t.loopSample l volts) := by
  unfold State.loopSample; dsimp only
  split <;> split
  · exact ((h.setSense l _).classReport l _).callPolarity l
  · exact (h.setSense l _).callPolarity l
  · exact (h.setSense l _).classReport l _
  · exact h.setSense l _

theorem Works.followingOnset (h : Works w s t) (r : Option ToneReport) : Works w s (t.followingOnset l r) := by
  unfold State.followingOnset; split
  · exact .ite (h.toneReport l _) h
  · exact h

theorem Works.enterReserve : Works w (s.setSupply .reserve) s.enterReserve := by
  have stepped : ∀ (ls : List LineNo) (u : State), u.supply = .reserve → Works w u (ls.foldl State.reserveLine u) := by
    intro ls
    induction ls with
    | nil => exact fun u _ => .refl
    | cons k ls ih =>
      intro u hu
      have first : Works w u (u.reserveLine k) := Works.refl.reserveLine k hu
      exact first.trans (ih _ (first.supply_eq.trans hu))
  unfold State.enterReserve
  exact ((stepped allLines _ rfl).startNext.report _).faultActive (List.mem_singleton.2 rfl)

theorem Works.returnToNormal : Works w ((s.setSupply .normal).setWaitList []) s.returnToNormal := by
  unfold State.returnToNormal
  exact ((Works.refl.foldl allLines fun _ k => Works.refl.normalLine k).report _).faultCleared _ _

theorem Works.promoted (h : Works w s t) : Works w s (t.promoted l) := by
  have ready := h.setCtl l { t.ctl l with power := .ready, promotion := .none }
  exact (Works.ite (ready.takeLine l) ready).tell

theorem Works.startProbe (h : Works w s t) : Works w s (t.startProbe l) := by
  unfold State.startProbe
  exact ((h.setCtl l _).recompute l).startCall l _

theorem execLoopSample_leads (volts : Int) : Leads w (s.advance n) (execLoopSample n l volts s) :=
  ⟨_, rfl, .ite .refl (Works.refl.loopSample l volts).settle⟩

theorem execRingOffTimerExpiry_leads : Leads w (s.advance n) (execRingOffTimerExpiry n l s) :=
  ⟨_, rfl, .ite ((Works.refl.setSense l _).ringOffReport l _).settle .refl⟩

theorem execToneAppears_leads (b : Band) : Leads w (s.advance n) (execToneAppears n l b s) :=
  ⟨_, rfl, .ite .refl (Works.refl.setLine l _)⟩

theorem execToneStops_leads (b : Band) : Leads w (s.advance n) (execToneStops n l b s) :=
  ⟨_, rfl, .ite (Works.refl.setLine l _) .refl⟩

theorem execToneQualified_leads : Leads w (s.advance n) (execToneQualified n l s) := by
  refine ⟨_, rfl, ?_⟩; split
  · exact ((Works.refl.setDetector l _).toneReport l _).settle
  · exact .refl

theorem execToneEnded_leads : Leads w (s.advance n) (execToneEnded n l s) := by
  refine ⟨_, rfl, ?_⟩; split
  · exact (((Works.refl.setDetector l _).toneReport l _).followingOnset l _).settle
  · exact .refl

theorem execPromotionComplete_leads : Leads w (s.advance n) (execPromotionComplete n l s) :=
  ⟨_, rfl, .ite (Works.refl.promoted l).settle .refl⟩

theorem execProbeTimerExpiry_leads : Leads w (s.advance n) (execProbeTimerExpiry n l s) :=
  ⟨_, rfl, .ite (Works.ite (Works.refl.startProbe l) (Works.refl.setCtl l _)).settle .refl⟩

theorem execLendIdleExpiry_leads : Leads w (s.advance n) (execLendIdleExpiry n l s) :=
  ⟨_, rfl, .ite (Works.refl.endLend l).settle .refl⟩

end lines

/-! ### Link -/

section link
variable {w : Prop} {s t : State} (n : Nat)

/-- A byte fills the request buffer to two at most (R149, R152). -/
theorem Link.byte_core (k : Link) (now : Nat) (b : Byte) :
    (k.byte now b).faults = k.faults ∧ (k.byte now b).notices = k.notices ∧
      (k.requests.length ≤ 2 → (k.byte now b).requests.length ≤ 2) := by
  have accepted : ∀ (k : Link) (r : Request), (k.acceptRequest r).faults = k.faults ∧
      (k.acceptRequest r).notices = k.notices ∧ (k.requests.length ≤ 2 → (k.acceptRequest r).requests.length ≤ 2) := by
    intro k r; unfold Link.acceptRequest; split
    · exact ⟨rfl, rfl, fun _ => by simp only [List.length_append, List.length_singleton]; omega⟩
    · exact ⟨rfl, rfl, id⟩
  unfold Link.byte; split
  · exact ⟨rfl, rfl, id⟩
  · split <;> exact ⟨rfl, rfl, id⟩
  · split <;> exact ⟨rfl, rfl, id⟩
  · split
    · unfold Link.checkFrame; split
      · split
        · exact accepted _ _
        · exact ⟨rfl, rfl, id⟩
      · exact ⟨rfl, rfl, id⟩
    · exact ⟨rfl, rfl, id⟩

theorem Works.byte (h : Works w s t) (now : Nat) (b : Byte) : Works w s (t.setLink (t.link.byte now b)) := by
  obtain ⟨faults, notices, requests⟩ := t.link.byte_core now b
  exact h.link _ faults requests fun bound => by rw [notices]; exact bound

/-- The end of a frame takes requests and notices out of their buffers (R152, R160). -/
theorem Link.sent_core (k : Link) (b : Bool) :
    (k.sent b).faults = k.faults ∧ (k.sent b).requests.length ≤ k.requests.length ∧
      (k.sent b).notices.length ≤ k.notices.length := by
  have ended : k.frameEnded.faults = k.faults ∧ k.frameEnded.requests.length ≤ k.requests.length ∧
      k.frameEnded.notices = k.notices := by
    unfold Link.frameEnded; split
    · exact ⟨rfl, by simp, rfl⟩
    · exact ⟨rfl, Nat.le_refl _, rfl⟩
    · exact ⟨rfl, Nat.le_refl _, rfl⟩
  obtain ⟨_, _, requests, _, _, faults⟩ := Link.transmit_core k.frameEnded
  have notices := Link.transmit_notices k.frameEnded
  rw [ended.2.2] at notices
  unfold Link.sent; dsimp only; split
  · exact ⟨ended.1, ended.2.1, Nat.le_of_eq (congrArg List.length ended.2.2)⟩
  · rw [requests]; exact ⟨faults.trans ended.1, ended.2.1, notices⟩

theorem execIncomingByte_leads (b : Byte) : Leads w (s.advance n) (execIncomingByte n b s) :=
  ⟨_, rfl, Works.refl.byte _ b⟩

theorem execFrameReceived_leads (b : Byte) : Leads w (s.advance n) (execFrameReceived n b s) :=
  ⟨_, rfl, .ite (Works.refl.byte _ b) .refl⟩

theorem execInterByteTimeout_leads : Leads w (s.advance n) (execInterByteTimeout n s) :=
  ⟨_, rfl, .ite (Works.refl.link _ rfl id id) .refl⟩

theorem execFrameSent_leads (b : Bool) : Leads w (s.advance n) (execFrameSent n b s) := by
  obtain ⟨faults, requests, notices⟩ := s.link.sent_core b
  have sent : Works w (s.advance n) ((s.advance n).setLink (s.link.sent b)) :=
    Works.refl.link _ faults requests.trans notices.trans
  refine ⟨_, rfl, ?_⟩; split
  · exact .refl
  · exact sent
  · exact sent

end link

/-! ### Inputs, queue, receivers, Dispatcher and start hold -/

section queue
variable {w : Prop} {s t : State} (n : Nat)

theorem Works.ageRecord (h : Works w s t) (r : Record) : Works w s (t.ageRecord r) :=
  .ite (h.modRecord _ _).tell (h.modRecord _ _)

theorem Works.releaseHold (h : Works w s t) (c : ModeCause) : Works w s (t.releaseHold c) :=
  (((h.setHold _).setHoldTimer _).notice _).settleGate

theorem Works.saveDone (h : Works w s t) (m : Mode) : Works w s (t.saveDone m) := by
  have cleared : Works w s (allTables.foldl (fun s k => s.faultCleared .storeSection k) (t.setSave none)) :=
    (h.setSave none).foldl _ fun _ k => Works.refl.faultCleared _ k
  exact .ite (.ite cleared.removeStoreCorrupt.startHoldLimit cleared.removeStoreCorrupt) cleared

theorem Works.saveFailed (h : Works w s t) : Works w s t.saveFailed :=
  ((h.setSave none).setHoldTimer none).faultActive (List.mem_singleton.2 rfl)

theorem execInputReading_leads (c : ChannelNo) (code : BitVec 10) :
    Leads w (s.advance n) (execInputReading n c code s) := ⟨_, rfl, .ite .refl (Works.refl.inputReading c _).settle⟩

theorem execAgeTick_leads (k : Nat) : Leads w (s.advance n) (execAgeTick n k s) := by
  refine ⟨_, rfl, ?_⟩; split
  · exact .ite (Works.refl.ageRecord _).settle .refl
  · exact .refl

theorem execPeriodicTestExpiry_leads : Leads w (s.advance n) (execPeriodicTestExpiry n s) :=
  ⟨_, rfl, .ite ((Works.refl.report _).setQueue _).settle .refl⟩

theorem execBackoffEnd_leads (e : RxNo) : Leads w (s.advance n) (execBackoffEnd n e s) :=
  ⟨_, rfl, .ite (Works.refl.setRx e _).tell.settle .refl⟩

theorem execRestEnd_leads (e : RxNo) : Leads w (s.advance n) (execRestEnd n e s) :=
  ⟨_, rfl, .ite (Works.refl.setRx e _).reexamine.tell.settle .refl⟩

theorem execFireWaitExpiry_leads : Leads w (s.advance n) (execFireWaitExpiry n s) :=
  ⟨_, rfl, .ite (Works.refl.setWork _).settle .refl⟩

theorem execHoldLimitExpiry_leads : Leads w (s.advance n) (execHoldLimitExpiry n s) :=
  ⟨_, rfl, .ite (Works.refl.releaseHold _).settle .refl⟩

end queue

/-! ### Requests -/

section requests
variable {w : Prop} {s t : State} (n : Nat) (p : List Byte)

/-- A request is served by its owner, and the response formed (R153). -/
theorem serve_leads {kind : Byte} {ok : Bool} {bad : List Byte} {owner : State → State × Answer}
    (work : ∀ u, Works w u (owner u).1) :
    Leads w (s.advance n) (.next ((s.advance n).serve kind p ok bad owner)) :=
  ⟨_, rfl, .ite (.ite ((work _).settle.respond _ _) (Works.refl.respond _ _)) .refl⟩

/-- A request that reads. -/
theorem Works.reading (fields : State → List Byte) (u : State) : Works w u (reading fields u).1 := .refl

theorem Works.statusRequest (u : State) : Works w u u.statusRequest.1 := Works.refl.link _ rfl id id

theorem Works.queueListRequest (u : State) : Works w u (u.queueListRequest p).1 := by
  unfold State.queueListRequest; split <;> exact .refl

theorem Works.faultClearRequest (u : State) : Works w u u.faultClearRequest.1 := Works.refl.setFaults_filter _

theorem Works.raiseRequest (u : State) : Works w u (u.raiseRequest p).1 := by
  unfold State.raiseRequest; split
  · exact Works.refl.admission _
  · exact .refl

theorem Works.refillNext (h : Works w s t) (l : LineNo) : Works w s (t.refillNext l) := by
  unfold State.refillNext; split
  · split
    · exact .ite (h.setSlots l _ _) (h.claimNext l _ _)
    · exact h
  · exact h

theorem Works.withdrawRecord (h : Works w s t) (r : Record) : Works w s (t.withdrawRecord r) := by
  unfold State.withdrawRecord; split
  · exact ((h.setSlots _ _ _).removeRecord r).refillNext _
  · exact h.removeRecord r

theorem Works.withdrawRequest (u : State) : Works w u (u.withdrawRequest p).1 := by
  unfold State.withdrawRequest; split
  · exact .refl
  · split
    · exact .refl
    · split
      · exact .refl
      · split
        · exact .refl
        · exact Works.refl.withdrawRecord _

theorem Works.testCallRequest (u : State) : Works w u (u.testCallRequest p).1 := by
  unfold State.testCallRequest; split
  · exact .refl
  · exact Works.refl.admission _

theorem Works.lendRequest (u : State) : Works w u (u.lendRequest p).1 := by
  unfold State.lendRequest; split
  · exact .refl
  · split
    · unfold State.lendLine; split
      · exact (((Works.refl.setCtl _ _).modCall _ _).flagSet _).tell
      · exact .refl
      · exact .refl
      · exact Works.refl.beginLend _
    · exact .refl

theorem Works.reclaimRequest (u : State) : Works w u (u.reclaimRequest p).1 := by
  unfold State.reclaimRequest; split
  · exact .refl
  · split
    · split
      · exact .refl
      · exact Works.refl.endLend _
      · exact ((Works.refl.setCtl _ _).modCall _ _).tell
    · exact .refl

theorem Works.abortRequest (u : State) : Works w u (u.abortRequest p).1 := by
  unfold State.abortRequest; split
  · exact .refl
  · split
    · exact .refl
    · split
      · exact .refl
      · split
        · exact .refl
        · exact Works.refl.giveResult _ _

theorem Works.applyForces (h : Works w s t) (codes : List (ChannelNo × Option Force)) :
    Works w s (t.applyForces codes) := by
  refine h.foldl codes fun u x => ?_
  split
  · exact Works.refl.setForce _ _
  · exact .refl

theorem Works.forceRequest (u : State) : Works w u (u.forceRequest p).1 := by
  unfold State.forceRequest; split
  · exact .refl
  · split
    · exact .refl
    · split
      · exact .refl
      · exact Works.refl.applyForces _

theorem Works.forceCancelRequest (u : State) : Works w u u.forceCancelRequest.1 := by
  unfold State.forceCancelRequest; dsimp only
  exact Works.refl.foldl allChannels fun v c => (Works.refl.setForce c .none).settleExit

theorem Works.channelRequest {act : ChannelNo → State → State × Answer} (work : ∀ c u, Works w u (act c u).1)
    (u : State) : Works w u (u.channelRequest p act).1 := by
  unfold State.channelRequest; split
  · exact .refl
  · exact work _ u

theorem Works.startSave (u : State) : Works w u u.startSave.1 := by
  unfold State.startSave; split
  · exact .refl
  · exact Works.refl.setSave _

theorem Works.enterService (h : Works w s t) : Works w s t.enterService := by
  unfold State.enterService
  exact ((h.setMode _).notice _).settleGate

theorem Works.modeRequest (u : State) : Works w u (u.modeRequest p).1 := by
  have operate : Works w u (u.serviceExit .request) := Works.refl.serviceExit .request
  have service : Works w u u.enterService := Works.refl.enterService
  unfold State.modeRequest
  cases Mode.ofCode (argument p 0) with
  | none => exact .refl
  | some m =>
    dsimp only; split
    · exact .refl
    · cases m with
      | operate => simpa only using operate
      | service =>
        dsimp only; split
        · exact .refl
        · exact service

theorem Works.releaseRequest (u : State) : Works w u u.releaseRequest.1 := by
  unfold State.releaseRequest; split
  · exact .refl
  · split
    · exact .refl
    · exact Works.refl.releaseHold _

theorem execUnknownKind_leads (k : Byte) : Leads w (s.advance n) (execUnknownKind n k p s) :=
  ⟨_, rfl, .ite (Works.refl.respond _ _) .refl⟩

theorem execIsolate_leads : Leads w (s.advance n) (execIsolate n p s) :=
  serve_leads n p fun u => Works.channelRequest p (fun c v => by
    split
    · exact .refl
    · exact Works.refl.isolateChannel c) u

theorem execDeIsolate_leads : Leads w (s.advance n) (execDeIsolate n p s) :=
  serve_leads n p fun u => Works.channelRequest p (fun c v => by
    split
    · exact Works.refl.deIsolateChannel c
    · exact .refl) u

theorem execUnlatch_leads : Leads w (s.advance n) (execUnlatch n p s) :=
  serve_leads n p fun u => Works.channelRequest p (fun c v => by
    split
    · exact .refl
    · split
      · exact .refl
      · exact Works.refl.unlatchChannel c) u

/-! ### The commands that write the tables -/

theorem Works.afterT1 (h : Works w s t) (old : T1) : Works w s (t.afterT1 old) := by
  unfold State.afterT1
  extract_lets _ before changed told marks _ tests grace
  have told_works : Works w s told := .ite h.tell h
  have marks_works : Works w s marks := .ite told_works.settlePressure told_works
  have tests_works : Works w s tests := .ite (marks_works.setQueue _) marks_works
  have grace_works : Works w s grace := .ite tests_works.settleFireTimer tests_works
  exact .ite grace_works.startHoldLimit grace_works

theorem Works.afterT2 (h : Works w s t) (old : Tables) : Works w s (t.afterT2 old) :=
  h.foldl allLines fun _ l => .ite (Works.refl.enabledChanged l _) .refl

theorem Works.afterT3 (h : Works w s t) (old : Tables) : Works w s (t.afterT3 old) :=
  Works.evaluateRoutes (h.foldl allReceivers fun _ e => .ite (Works.refl.setRx e _) .refl)

theorem Works.afterSet (h : Works w s t) (table : Nat) (old : Tables) : Works w s (t.afterSet table old) := by
  unfold State.afterSet; split
  · exact h.afterT1 _
  · exact h.afterT2 _
  · exact h.afterT3 _
  · exact h.evaluateRoutes
  · exact h.reportRoutes
  · exact h

theorem Works.writeTables (may : w) (table first count : Nat) (bs : List Byte) (u : State) :
    Works w u (u.writeTables table first count bs).1 := by
  unfold State.writeTables; split
  · exact .refl
  · split
    · exact .refl
    · split
      · exact .refl
      · dsimp only; split
        · exact .refl
        · split
          · exact .refl
          · exact (Works.refl.tables may _).afterSet _ _

theorem Works.loadTable (may : w) (h : Works w s t) {k : Nat} (known : k ∈ FaultKind.storeSection.instances) :
    Works w s (t.loadTable k) := by
  unfold State.loadTable; split
  · exact h.tables may _
  · exact h.faultActive known

theorem Works.loadTables (may : w) (h : Works w s t) : Works w s t.loadTables := by
  unfold State.loadTables; split
  · exact h.faultActive (List.mem_singleton.2 rfl)
  · have loaded : ∀ ks : List Nat, (∀ k ∈ ks, k ∈ FaultKind.storeSection.instances) → ∀ {t : State}, Works w s t →
        Works w s (ks.foldl State.loadTable t) := by
      intro ks
      induction ks with
      | nil => exact fun _ _ h => h
      | cons k ks ih =>
        intro known t h
        exact ih (fun j hj => known j (List.mem_cons_of_mem k hj)) (h.loadTable may (known k List.mem_cons_self))
    exact loaded allTables (fun _ hk => hk) h

theorem Works.sendStarted (h : Works w s t) : Works w s t.sendStarted :=
  (h.link { t.link with receiver := .hunt } rfl id id).notice _

theorem Works.finishLoad (may : w) (h : Works w s t) : Works w s t.finishLoad := by
  unfold State.finishLoad
  extract_lets evaluated supplied started powered
  have occupied : Works w s t.loadTables.settleOccupancies :=
    (h.loadTables may).foldl allLines fun _ l => Works.refl.setCtl l _
  have evaluated_works : Works w s evaluated := (occupied.setHold _).evaluateRoutes
  have supplied_works : Works w s supplied := .ite (evaluated_works.faultActive (List.mem_singleton.2 rfl)) evaluated_works
  have started_works : Works w s started := supplied_works.sendStarted.settleGate
  have powered_works : Works w s powered :=
    (started_works.setLoading false).foldl allLines fun _ l => .ite (Works.refl.lineOn l) .refl
  exact .ite (powered_works.report _) powered_works

theorem execSet_leads (may : w) : Leads w (s.advance n) (execSet n p s) :=
  serve_leads n p fun u => Works.writeTables may _ _ _ _ u

theorem execLoaderDone_leads (may : w) : Leads w (s.advance n) (execLoaderDone n s) :=
  ⟨_, rfl, .ite (Works.refl.finishLoad may).settle .refl⟩

end requests

end Sys2Proof.Machine
end

section
/-! What every step keeps: rotation counter, link buffers and fault list (O8), and the frame of settings and pins (O11), each from the work that a command leads to; and the state after reset (O5). -/

namespace Sys2Proof.Machine

/-- The commands that write the working tables, beside RESET (R167, R170). -/
def WritesTables (c : Instr) : Prop := (∃ n, c = .loaderDone n) ∨ ∃ n p, c = .set n p

/-- What a command itself changes before its blocks do their work: the clock, the level of the mains-fail input, the supply state, the store. -/
structure Begun (c : Instr) (s u : State) : Prop where
  now : s.now ≤ u.now
  fitted : u.fitted = s.fitted
  holdStrap : u.holdStrap = s.holdStrap
  rotation : u.rotation = s.rotation
  link : u.link = s.link
  tables : u.tables = s.tables
  mainsFail : (∀ n x, c ≠ .mainsFailInput n x) → u.mainsFail = s.mainsFail
  supply : (∀ n, c ≠ .supplyChange n) → u.supply = s.supply
  store : (∀ n d, c ≠ .savePageWritten n d) → u.store = s.store

/-- A command completes: it begins, and its blocks do their work. -/
def Completes (c : Instr) (s : State) (o : Host.Outcome State Fault Refusal) : Prop :=
  ∃ u, Begun c s u ∧ Leads (WritesTables c) u o

section commands
variable (s : State) (n : Nat)

theorem Begun.advance (c : Instr) : Begun c s (s.advance n) :=
  ⟨Nat.le_max_left _ _, rfl, rfl, rfl, rfl, rfl, fun _ => rfl, fun _ => rfl, fun _ => rfl⟩

/-- A command that begins with the clock alone. -/
theorem Completes.of_leads {c : Instr} {o : Host.Outcome State Fault Refusal}
    (h : Leads (WritesTables c) (s.advance n) o) : Completes c s o := ⟨_, .advance s n c, h⟩

theorem mainsFailInput_completes (failed : Bool) :
    Completes (.mainsFailInput n failed) s (execMainsFailInput n failed s) := by
  refine ⟨_, ?_, _, rfl, .refl⟩
  have begun := Begun.advance s n (.mainsFailInput n failed)
  split
  · exact begun
  · exact { begun with mainsFail := fun other => absurd rfl (other n failed), supply := begun.supply, store := begun.store }

theorem supplyChange_completes : Completes (.supplyChange n) s (execSupplyChange n s) := by
  have begun := Begun.advance s n (.supplyChange n)
  have changed : ∀ x, Begun (.supplyChange n) s ((s.advance n).setSupply x) := fun _ =>
    { begun with supply := fun other => absurd rfl (other n), mainsFail := begun.mainsFail, store := begun.store }
  unfold execSupplyChange; dsimp only; split
  · cases h : (s.advance n).supply with
    | normal => exact ⟨_, changed .reserve, _, rfl, Works.enterReserve.settle⟩
    | reserve =>
      have emptied : Works (WritesTables (.supplyChange n)) ((s.advance n).setSupply .normal)
          (((s.advance n).setSupply .normal).setWaitList []) := Works.refl.wait [] fun _ _ hl => nomatch hl
      exact ⟨_, changed .normal, _, rfl, (emptied.trans Works.returnToNormal).settle⟩
  · exact ⟨_, begun, _, rfl, .refl⟩

/-- The state once a page has been written (R169, log 13). -/
def State.pageStored (s : State) (w : Save) (differ : List Byte) : State :=
  { s with
    store := storeWriteBytes s.store (pageAddress w.page)
      (List.zipWith (· ^^^ ·) (s.pageBytes w.page) (padTo 16 0 differ))
    free := s.free + 1 }

theorem pageWritten_works {w : Prop} (x : Save) (differ : List Byte) :
    Works w (s.pageStored x differ) (s.pageWritten x differ) :=
  .ite (.ite (Works.refl.setSave _) (Works.refl.saveDone _)) Works.refl.saveFailed

theorem savePageWritten_completes (differ : List Byte) :
    Completes (.savePageWritten n differ) s (execSavePageWritten n differ s) := by
  have begun := Begun.advance s n (.savePageWritten n differ)
  have stored : ∀ x, Begun (.savePageWritten n differ) s ((s.advance n).pageStored x differ) := fun x =>
    { begun with store := fun other => absurd rfl (other n differ), mainsFail := begun.mainsFail, supply := begun.supply }
  unfold execSavePageWritten; dsimp only; split
  · split
    · exact ⟨_, stored _, _, rfl, (pageWritten_works _ _ _).settle⟩
    · exact ⟨_, begun, _, rfl, .refl⟩
  · exact ⟨_, begun, _, rfl, .refl⟩

/-- Every command but RESET. -/
theorem exec_completes (c : Instr) (h : ∀ a b k, c ≠ .reset a b k) : Completes c s (exec c s) := by
  cases c with
  | reset a b k => exact absurd rfl (h a b k)
  | loaderDone n => exact .of_leads s n (execLoaderDone_leads n (.inl ⟨n, rfl⟩))
  | loopSample n l v => exact .of_leads s n (execLoopSample_leads n l v)
  | ringOffTimerExpiry n l => exact .of_leads s n (execRingOffTimerExpiry_leads n l)
  | toneQualified n l => exact .of_leads s n (execToneQualified_leads n l)
  | toneEnded n l => exact .of_leads s n (execToneEnded_leads n l)
  | mainsFailInput n f => exact mainsFailInput_completes s n f
  | supplyChange n => exact supplyChange_completes s n
  | promotionComplete n l => exact .of_leads s n (execPromotionComplete_leads n l)
  | probeTimerExpiry n l => exact .of_leads s n (execProbeTimerExpiry_leads n l)
  | lendIdleExpiry n l => exact .of_leads s n (execLendIdleExpiry_leads n l)
  | inputReading n c x => exact .of_leads s n (execInputReading_leads n c x)
  | ageTick n k => exact .of_leads s n (execAgeTick_leads n k)
  | periodicTestExpiry n => exact .of_leads s n (execPeriodicTestExpiry_leads n)
  | backoffEnd n e => exact .of_leads s n (execBackoffEnd_leads n e)
  | restEnd n e => exact .of_leads s n (execRestEnd_leads n e)
  | fireWaitExpiry n => exact .of_leads s n (execFireWaitExpiry_leads n)
  | cleardownEnd n l => exact .of_leads s n (execCleardownEnd_leads n l)
  | dialToneRecognised n l => exact .of_leads s n (execDialToneRecognised_leads n l)
  | dialtoneTimeout n l => exact .of_leads s n (execDialtoneTimeout_leads n l)
  | dialSymbolToneEnd n l => exact .of_leads s n (execDialSymbolToneEnd_leads n l)
  | dialSymbolEnd n l => exact .of_leads s n (execDialSymbolEnd_leads n l)
  | secondToneRecognised n l => exact .of_leads s n (execSecondToneRecognised_leads n l)
  | secondToneTimeout n l => exact .of_leads s n (execSecondToneTimeout_leads n l)
  | ringWaitTimeout n l => exact .of_leads s n (execRingWaitTimeout_leads n l)
  | handshakeTimeout n l => exact .of_leads s n (execHandshakeTimeout_leads n l)
  | callLimitExpiry n l => exact .of_leads s n (execCallLimitExpiry_leads n l)
  | releaseGuardEnd n l => exact .of_leads s n (execReleaseGuardEnd_leads n l)
  | delayEnd n l => exact .of_leads s n (execDelayEnd_leads n l)
  | blockSymbolToneEnd n l => exact .of_leads s n (execBlockSymbolToneEnd_leads n l)
  | blockSymbolEnd n l => exact .of_leads s n (execBlockSymbolEnd_leads n l)
  | replyTimeout n l => exact .of_leads s n (execReplyTimeout_leads n l)
  | retryEnd n l => exact .of_leads s n (execRetryEnd_leads n l)
  | gapEnd n l => exact .of_leads s n (execGapEnd_leads n l)
  | frameReceived n b => exact .of_leads s n (execFrameReceived_leads n b)
  | interByteTimeout n => exact .of_leads s n (execInterByteTimeout_leads n)
  | frameSent n b => exact .of_leads s n (execFrameSent_leads n b)
  | unknownKind n k p => exact .of_leads s n (execUnknownKind_leads n p k)
  | echo n p => exact .of_leads s n (serve_leads n p (Works.reading _))
  | ident n p => exact .of_leads s n (serve_leads n p (Works.reading _))
  | status n p => exact .of_leads s n (serve_leads n p Works.statusRequest)
  | queueList n p => exact .of_leads s n (serve_leads n p (Works.queueListRequest p))
  | receiverList n p => exact .of_leads s n (serve_leads n p (Works.reading _))
  | lineList n p => exact .of_leads s n (serve_leads n p (Works.reading _))
  | channelList n p => exact .of_leads s n (serve_leads n p (Works.reading _))
  | faultRead n p => exact .of_leads s n (serve_leads n p (Works.reading _))
  | faultClear n p => exact .of_leads s n (serve_leads n p Works.faultClearRequest)
  | raise n p => exact .of_leads s n (serve_leads n p (Works.raiseRequest p))
  | withdraw n p => exact .of_leads s n (serve_leads n p (Works.withdrawRequest p))
  | testCall n p => exact .of_leads s n (serve_leads n p (Works.testCallRequest p))
  | lend n p => exact .of_leads s n (serve_leads n p (Works.lendRequest p))
  | reclaim n p => exact .of_leads s n (serve_leads n p (Works.reclaimRequest p))
  | force n p => exact .of_leads s n (serve_leads n p (Works.forceRequest p))
  | forceCancelAll n p => exact .of_leads s n (serve_leads n p Works.forceCancelRequest)
  | isolate n p => exact .of_leads s n (execIsolate_leads n p)
  | deIsolate n p => exact .of_leads s n (execDeIsolate_leads n p)
  | unlatch n p => exact .of_leads s n (execUnlatch_leads n p)
  | abortCall n p => exact .of_leads s n (serve_leads n p (Works.abortRequest p))
  | get n p => exact .of_leads s n (serve_leads n p fun _ => .refl)
  | set n p => exact .of_leads s n (execSet_leads n p (.inr ⟨n, p, rfl⟩))
  | save n p => exact .of_leads s n (serve_leads n p Works.startSave)
  | savePageWritten n d => exact savePageWritten_completes s n d
  | mode n p => exact .of_leads s n (serve_leads n p (Works.modeRequest p))
  | release n p => exact .of_leads s n (serve_leads n p Works.releaseRequest)
  | holdLimitExpiry n => exact .of_leads s n (execHoldLimitExpiry_leads n)
  | incomingByte n b => exact .of_leads s n (execIncomingByte_leads n b)
  | toneAppears n l b => exact .of_leads s n (execToneAppears_leads n l b)
  | toneStops n l b => exact .of_leads s n (execToneStops_leads n l b)
  | countingSegmentOverrun n l => exact .of_leads s n (execCountingSegmentOverrun_leads n l)

end commands

/-- From a command to the state it answers. -/
theorem Completes.works {c : Instr} {s t : State} {o : Host.Outcome State Fault Refusal} (h : Completes c s o)
    (e : o = .next t) : ∃ u, Begun c s u ∧ Works (WritesTables c) u t := by
  obtain ⟨u, begun, v, hv, work⟩ := h
  cases hv.symm.trans e
  exact ⟨u, begun, work⟩

/-! ### What every step keeps -/

/-- A condition that RESET gives and that the work of every other command keeps, is kept by every step. -/
theorem step_keeps {P : State → Prop} (waits : ∀ (s : State) (cs : List Instr), P s → P { s with pending := cs })
    (reset : ∀ a b k (s : State), P (s.resetTo a b k))
    (work : ∀ c s u t, Begun c s u → Works (WritesTables c) u t → P s → P t) :
    ∀ s t : State, P s → step s = .next t → P t := by
  intro s t hs h
  unfold step at h; split at h
  · cases h; exact hs
  · next c rest _ =>
    by_cases r : ∃ a b k, c = .reset a b k
    · obtain ⟨a, b, k, rfl⟩ := r
      cases h; exact reset a b k _
    · obtain ⟨u, begun, works⟩ := (exec_completes _ c fun a b k e => r ⟨a, b, k, e⟩).works h
      exact work c _ u t begun works (waits s rest hs)

/-- Every kind with each of its instances (`09` section 9.5). -/
def faultKeys : List (FaultKind × Nat) :=
  [FaultKind.storeCorrupt, .storeSection, .routeInvalid, .lineDown, .lineNoTone, .channelWiring, .supplyReserve,
    .commFailure, .queueLoss].flatMap fun k => k.instances.map fun i => (k, i)

theorem mem_faultKeys {k : FaultKind} {i : Nat} (h : i ∈ k.instances) : (k, i) ∈ faultKeys :=
  List.mem_flatMap.2 ⟨k, by cases k <;> decide, List.mem_map.2 ⟨i, h, rfl⟩⟩

/-- The fault list holds 34 entries at most (R161). -/
theorem faults_length {s : State} (h : s.FaultsKept) : s.link.faults.length ≤ 34 := by
  obtain ⟨distinct, known⟩ := h
  have within : (s.link.faults.map fun e => (e.kind, e.inst)) ⊆ faultKeys := by
    intro k hk
    obtain ⟨e, he, rfl⟩ := List.mem_map.1 hk
    exact mem_faultKeys (known e he)
  calc s.link.faults.length = (s.link.faults.map fun e => (e.kind, e.inst)).length := (List.length_map _).symm
    _ ≤ faultKeys.length := (List.subperm_of_subset distinct within).length_le
    _ = 34 := by decide

theorem State.resetTo_rotationKept (a b k : Bool) (s : State) : (s.resetTo a b k).RotationKept := by
  have count := fittedCount_eq a b
  have low := Bool.toNat_le a
  have high := Bool.toNat_le b
  refine ⟨?_, ?_, ?_, Nat.le_refl _⟩ <;> (show _ ≤ _; simp only [State.resetTo, State.afterReset]; omega)

/-- Settles O8: the three conditions are kept by the work of every command (`exec_completes`). -/
theorem stepKeepsBounds : Obligations.StepKeepsBounds := by
  refine ⟨step_keeps (fun _ _ h => h) State.resetTo_rotationKept ?_,
    step_keeps (fun _ _ h => h) (fun _ _ _ _ => ⟨Nat.zero_le _, Nat.zero_le _⟩) ?_,
    step_keeps (fun _ _ h => h) (fun _ _ _ _ => ⟨List.nodup_nil, fun _ he => (nomatch he)⟩) ?_, fun _ => faults_length⟩
  · intro c s u t begun works h
    refine works.rotationKept ?_
    unfold State.RotationKept; rw [begun.fitted, begun.rotation]; exact h
  · intro c s u t begun works h
    refine works.buffersKept ?_
    unfold State.BuffersKept; rw [begun.link]; exact h
  · intro c s u t begun works h
    refine works.faultsKept ?_
    unfold State.FaultsKept; rw [begun.link]; exact h

/-- Work under a condition that does not hold is work that leaves the tables. -/
theorem Works.tables_of_not {w : Prop} {s t : State} (h : Works w s t) (n : ¬w) : t.tables = s.tables :=
  Works.tables_eq (eq_false n ▸ h)

/-- Settles O11: what a command itself changes stands in `Begun`, and its blocks' work leaves the pins. -/
theorem onlyTheirCommandsChangeSettingsAndPins : Obligations.OnlyTheirCommandsChangeSettingsAndPins := by
  refine ⟨fun c s t h => ⟨fun hr hl hs => ?_, fun hr hp => ?_⟩, fun c s t h hr => ?_⟩ <;>
    obtain ⟨u, begun, works⟩ := (exec_completes s c hr).works h <;> have pins := works.pins
  · have writesNot : ¬WritesTables c := by
      rintro (⟨n, e⟩ | ⟨n, p, e⟩)
      · exact hl n e
      · exact hs n p e
    exact (works.tables_of_not writesNot).trans begun.tables
  · exact (congrArg Pins.store pins).trans (begun.store hp)
  · exact ⟨begun.now.trans (Nat.le_of_eq (congrArg Pins.now pins).symm), (congrArg Pins.fitted pins).trans begun.fitted,
      (congrArg Pins.holdStrap pins).trans begun.holdStrap,
      fun hm => (congrArg Pins.mainsFail pins).trans (begun.mainsFail hm),
      fun hc => works.supply_eq.trans (begun.supply hc)⟩

/-- The built-in defaults are within their ranges (R165). -/
theorem default_inRange : Tables.default.InRange := by
  refine ⟨by unfold T1.InRange; decide, fun i => ?_, fun i => ?_, fun i => ?_, fun i => ?_⟩
  · exact ⟨by revert i; decide, by revert i; decide⟩
  · revert i; unfold T3.InRange; decide +kernel
  · revert i; unfold T4.InRange; decide
  · revert i; unfold T6.InRange; decide +kernel

/-- Settles O5: each condition, evaluated on the values of `State.afterReset`. -/
theorem resetMeetsTheInvariants : Obligations.ResetMeetsTheInvariants := by
  refine ⟨rfl, ⟨rfl, fun _ => rfl⟩, ⟨by decide, by decide, by decide, by decide⟩, ⟨by decide, by decide⟩,
    ⟨List.nodup_nil, fun _ he => (nomatch he)⟩, fun c _ => ?_,
    ⟨by decide, by decide, List.nodup_nil, fun _ hr => (nomatch hr), by decide, by decide⟩, fun _ hr => (nomatch hr),
    ⟨rfl, fun h => (by cases h), fun _ => by decide⟩, reset_store_wf, default_inRange⟩
  exact congrArg InputChannel.force (Vector.getElem_replicate ..)

end Sys2Proof.Machine
end

section
/-! The supply state: the wait of 1 s and the change (O17). -/

namespace Sys2Proof.Machine

theorem Works.supplyTimer_eq {w : Prop} {s u : State} (h : Works w s u) : u.supplyTimer = s.supplyTimer :=
  congrArg Pins.supplyTimer h.pins

section supply
variable (t : Nat) (s : State)

theorem opposes_iff (failed : Bool) (x : Supply) :
    opposes failed x = true ↔ (failed = true ∧ x = .normal) ∨ (failed = false ∧ x = .reserve) := by
  cases x <;> simp [opposes]

theorem exec_mainsFailInput_same : exec (.mainsFailInput t s.mainsFail) s = .next (s.advance t) := by
  simp [exec, execMainsFailInput]

theorem exec_mainsFailInput_changed {failed : Bool} (h : failed ≠ s.mainsFail) :
    exec (.mainsFailInput t failed) s =
      .next
        { s.advance t with
          mainsFail := failed
          supplyTimer := if opposes failed s.supply then some (max s.now t + 1000) else none } := by
  exact congrArg Host.Outcome.next (if_neg h)

variable {s} {e : Nat} (running : s.loading = false) (timer : s.supplyTimer = some e) (due : e ≤ max s.now t)
include running timer due

theorem exec_supplyChange_normal (h : s.supply = .normal) :
    exec (.supplyChange t) s = .next (s.advance t).enterReserve.settle := by
  have passed : expired (some e) (max s.now t) = true := decide_eq_true due
  simp [exec, execSupplyChange, running, timer, passed, h]

theorem exec_supplyChange_reserve (h : s.supply = .reserve) :
    exec (.supplyChange t) s = .next (s.advance t).returnToNormal.settle := by
  have passed : expired (some e) (max s.now t) = true := decide_eq_true due
  simp [exec, execSupplyChange, running, timer, passed, h]

end supply

/-- Settles O17: the input's level decides on the wait; the work that enters the other supply state sets no supply and no wait again, and under NORMAL no line joins the waiting list. -/
theorem supplyFollowsTheMains : Obligations.SupplyFollowsTheMains := by
  refine ⟨fun t failed s => ⟨?_, fun h => ?_⟩, fun t e s running timer due => ?_⟩
  · rintro rfl
    exact exec_mainsFailInput_same t s
  · rw [exec_mainsFailInput_changed t s h]
    simp only [opposes_iff]
  · cases h : s.supply with
    | normal =>
      have work : Works False ((s.advance t).setSupply .reserve) _ := Works.enterReserve.settle
      exact ⟨_, exec_supplyChange_normal t running timer due h, work.supplyTimer_eq, fun _ => work.supply_eq, nofun⟩
    | reserve =>
      have work : Works False (((s.advance t).setSupply .normal).setWaitList []) _ := Works.returnToNormal.settle
      exact ⟨_, exec_supplyChange_reserve t running timer due h, work.supplyTimer_eq, nofun,
        fun _ => ⟨work.supply_eq, work.waitList_nil rfl rfl⟩⟩

end Sys2Proof.Machine
end

section
/-! The Line Controllers line by line: an operation on one line leaves the others' control states alone, but for a promotion that starts; and an induction for what every act of the Dispatcher keeps. -/

namespace Sys2Proof.Machine

/-! ### The control states of the other lines -/

/-- Every Line Controller but one stays as it is. -/
def CtlsKeptBut (l : LineNo) (s t : State) : Prop := ∀ k, k ≠ l → t.ctl k = s.ctl k

theorem CtlsKeptBut.refl (l : LineNo) (s : State) : CtlsKeptBut l s s := fun _ _ => rfl

theorem CtlsKeptBut.trans {l : LineNo} {s t u : State} (h : CtlsKeptBut l s t) (g : CtlsKeptBut l t u) :
    CtlsKeptBut l s u := fun k n => (g k n).trans (h k n)

theorem ctl_of_calm {s t : State} (h : t.calm = s.calm) (l : LineNo) : t.ctl l = s.ctl l :=
  congrArg (fun x => (x.shell l).ctl) h

theorem call_of_calm {s t : State} (h : t.calm = s.calm) (l : LineNo) : t.call l = s.call l :=
  congrArg (fun x => (x.shell l).call) h

theorem waitList_of_calm {s t : State} (h : t.calm = s.calm) : t.waitList = s.waitList := congrArg Calm.waitList h

theorem receivers_of_calm {s t : State} (h : t.calm = s.calm) : t.receivers = s.receivers :=
  congrArg Calm.receivers h

theorem State.ctl_congr {s t : State} (h : t.lines = s.lines) (l : LineNo) : t.ctl l = s.ctl l :=
  congrArg Line.ctl (State.line_congr h l)

theorem State.call_congr {s t : State} (h : t.lines = s.lines) (l : LineNo) : t.call l = s.call l :=
  congrArg Line.call (State.line_congr h l)

theorem CtlsKeptBut.of_lines {l : LineNo} {s t : State} (h : t.lines = s.lines) : CtlsKeptBut l s t :=
  fun k _ => State.ctl_congr h k

theorem CtlsKeptBut.of_calm {l : LineNo} {s t : State} (h : t.calm = s.calm) : CtlsKeptBut l s t :=
  fun k _ => ctl_of_calm h k

section ctl
variable (s : State) (l : LineNo)

@[simp] theorem State.setCtl_ctl_same (x : LineCtl) : (s.setCtl l x).ctl l = x := by
  simp [State.ctl, State.setCtl_line]

theorem State.setCtl_ctl (k : LineNo) (x : LineCtl) : (s.setCtl l x).ctl k = if l = k then x else s.ctl k := by
  simp only [State.ctl, State.setCtl_line]; split <;> rfl

theorem State.setLine_keptBut (x : Line) : CtlsKeptBut l s (s.setLine l x) := fun k n => by
  simp only [State.ctl, State.setLine_line_ne s l k x (Ne.symm n)]

theorem State.setCtl_keptBut (x : LineCtl) : CtlsKeptBut l s (s.setCtl l x) := s.setLine_keptBut l _

/-- An update of a line that leaves its Line Controller as it is. -/
theorem State.setLine_ctl_of_eq (x : Line) (h : x.ctl = s.ctl l) (k : LineNo) : (s.setLine l x).ctl k = s.ctl k := by
  simp only [State.ctl, State.setLine_line]; split
  · next e => subst e; exact h
  · rfl

@[simp] theorem State.setIface_ctl (x : Iface) (k : LineNo) : (s.setIface l x).ctl k = s.ctl k :=
  s.setLine_ctl_of_eq l { s.line l with iface := x } rfl k
@[simp] theorem State.setDetector_ctl (x : Detector) (k : LineNo) : (s.setDetector l x).ctl k = s.ctl k :=
  s.setLine_ctl_of_eq l { s.line l with detector := x } rfl k
@[simp] theorem State.setCall_ctl (x : Option Call) (k : LineNo) : (s.setCall l x).ctl k = s.ctl k :=
  s.setLine_ctl_of_eq l { s.line l with call := x } rfl k
@[simp] theorem State.modCall_ctl (f : Call → Call) (k : LineNo) : (s.modCall l f).ctl k = s.ctl k :=
  s.setCall_ctl l _ k
@[simp] theorem State.enterState_ctl (c : CallState) (ms : Nat) (k : LineNo) :
    (s.enterState l c ms).ctl k = s.ctl k := s.modCall_ctl l _ k

@[simp] theorem State.takeLine_ctl (k : LineNo) : (s.takeLine l).ctl k = s.ctl k := by
  unfold State.takeLine State.enterDialtone; dsimp only; split <;> simp

theorem State.recompute_keptBut : CtlsKeptBut l s (s.recompute l) := fun k n => by
  simp only [State.ctl, State.recompute_line_ne s (Ne.symm n)]

theorem State.setWaitList_keptBut (ls : List LineNo) : CtlsKeptBut l s (s.setWaitList ls) := .of_lines rfl

theorem State.faultCleared_keptBut (f : FaultKind) (i : Nat) : CtlsKeptBut l s (s.faultCleared f i) :=
  .of_lines (by simp)

theorem State.startPromotion_keptBut : CtlsKeptBut l s (s.startPromotion l) := s.setCtl_keptBut l _

theorem State.joinWaitList_keptBut : CtlsKeptBut l s (s.joinWaitList l) := s.setCtl_keptBut l _

theorem State.needReady_keptBut : CtlsKeptBut l s (s.needReady l) := by
  unfold State.needReady; split
  · split
    · exact .refl l s
    · exact s.startPromotion_keptBut l
  · split
    · exact s.joinWaitList_keptBut l
    · exact s.startPromotion_keptBut l

theorem State.stepDown_keptBut : CtlsKeptBut l s (s.stepDown l) := by
  unfold State.stepDown; dsimp only; split
  · exact (s.setCtl_keptBut l _).trans (State.setLine_keptBut _ l _)
  · exact s.setCtl_keptBut l _

theorem State.beginLend_keptBut : CtlsKeptBut l s (s.beginLend l) :=
  (s.setCtl_keptBut l _).trans (State.recompute_keptBut _ l)

theorem State.endLend_keptBut : CtlsKeptBut l s (s.endLend l) :=
  ((s.setCtl_keptBut l _).trans (State.recompute_keptBut _ l)).trans (.of_lines rfl)

theorem State.lineOff_keptBut : CtlsKeptBut l s (s.lineOff l) := by
  have off : CtlsKeptBut l s ((s.setSense l Sense.reset).setDetector l Detector.stopped) :=
    (s.setLine_keptBut l _).trans (State.setLine_keptBut _ l _)
  unfold State.lineOff; dsimp only
  refine (CtlsKeptBut.trans ?_ (State.faultCleared_keptBut _ l _ _)).trans (State.faultCleared_keptBut _ l _ _)
  refine (CtlsKeptBut.trans ?_ (State.setWaitList_keptBut _ l _)).trans (State.recompute_keptBut _ l)
  exact off.trans (State.setCtl_keptBut _ l _)

theorem State.grant_keptBut (b : Bool) : CtlsKeptBut l s (s.grant l b) :=
  ((s.setCtl_keptBut l _).trans (State.recompute_keptBut _ l)).trans (.of_lines rfl)

end ctl

/-! ### Power and the waiting list (R28) -/

section power
variable (s : State)

theorem mem_allLines (l : LineNo) : l ∈ allLines := by revert l; decide

theorem Promotion.isSettling_iff {x : Promotion} : x.isSettling = true ↔ ∃ e, x = .settling e := by
  cases x <;> simp [Promotion.isSettling]

theorem State.powerTaken_iff :
    s.powerTaken = true ↔ ∃ l, (s.ctl l).power = .ready ∨ ∃ e, (s.ctl l).promotion = .settling e := by
  simp [State.powerTaken, mem_allLines, Promotion.isSettling_iff]

theorem State.startNext_taken (h : s.powerTaken = true) : s.startNext = s := by simp [State.startNext, h]

theorem State.startNext_none (h : s.waitList = []) : s.startNext = s := by
  unfold State.startNext; rw [h]; simp

theorem State.startNext_head {l : LineNo} {rest : List LineNo} (h : s.powerTaken = false)
    (g : s.waitList = l :: rest) : s.startNext = (s.setWaitList rest).startPromotion l := by
  unfold State.startNext; rw [g]; simp [h]

end power

/-! ### What every act of the Dispatcher keeps -/

/-- Nothing but the Dispatcher's own state, notices and the notes of the step differs. -/
def Quiet (s t : State) : Prop :=
  t.lines = s.lines ∧ t.receivers = s.receivers ∧ t.waitList = s.waitList ∧ t.rotation = s.rotation ∧
    t.steady = s.steady

theorem Quiet.trans {s t u : State} (h : Quiet s t) (g : Quiet t u) : Quiet s u := by
  obtain ⟨h1, h2, h3, h4, h5⟩ := h
  obtain ⟨g1, g2, g3, g4, g5⟩ := g
  exact ⟨g1.trans h1, g2.trans h2, g3.trans h3, g4.trans h4, g5.trans h5⟩

theorem State.setWork_quiet (s : State) (w : Work) : Quiet s (s.setWork w) := ⟨rfl, rfl, rfl, rfl, rfl⟩

theorem State.tell_quiet (s : State) : Quiet s s.tell := ⟨rfl, rfl, rfl, rfl, rfl⟩

theorem State.setDispatcher_quiet (s : State) (d : Dispatcher) : Quiet s (s.setDispatcher d) := ⟨rfl, rfl, rfl, rfl, rfl⟩

theorem State.notice_quiet (s : State) (n : Notice) : Quiet s (s.notice n) := by
  refine ⟨?_, ?_, ?_, ?_, ?_⟩ <;> simp

theorem State.evaluateUrgent_quiet (s : State) : Quiet s s.evaluateUrgent := by
  unfold State.evaluateUrgent; dsimp only; split
  · exact (s.setDispatcher_quiet _).trans (State.notice_quiet _ _)
  · exact s.setDispatcher_quiet _

theorem State.settleHeld_quiet (s : State) : Quiet s s.settleHeld := by
  unfold State.settleHeld State.settleFireTimer; dsimp only; split <;> exact ⟨rfl, rfl, rfl, rfl, rfl⟩

/-- The call that a round of the selection pass starts: line granted, receiver CALLING, context created (R86, R100, R104). -/
def State.beginCall (s : State) (l : LineNo) (b : Bool) (e : RxNo) : State :=
  ((s.grant l b).setRx e { s.rx e with state := .calling }).startCall l
    (Call.create .report (some e) ((s.ctl l).lend == .pending))

theorem State.readyTarget_ready {s : State} {r : Record} {e : RxNo} (h : s.readyTarget r = some e) :
    (s.rx e).state = .ready := by
  unfold State.readyTarget at h; split at h
  · split at h
    · split at h
      · next ready => cases h; exact ready
      · cases h
    · cases h
  · cases h

theorem State.chosen_ready {s : State} {r : Record} {e : RxNo} (h : s.chosen = some (r, e)) :
    (s.rx e).state = .ready := by
  obtain ⟨x, -, hx⟩ := List.exists_of_findSome?_eq_some h
  obtain ⟨y, hy, same⟩ := Option.map_eq_some_iff.1 hx
  cases same
  exact State.readyTarget_ready hy

/-- A round of the selection pass starts a call; the receiver is READY, so that it is not refused (R86, R103). -/
theorem State.passFuel_begins {s : State} {r : Record} {e : RxNo} {l : LineNo} (n : Nat)
    (h : s.chosen = some (r, e)) (g : s.searchLine (s.eligible r) = some l) :
    State.passFuel (n + 1) s = State.passFuel n (s.beginCall l (s.eligible r) e) := by
  have same : (s.grant l (s.eligible r)).rx e = s.rx e := State.rx_congr (by simp) e
  have calling : (s.grant l (s.eligible r)).makeCalling e =
      some ((s.grant l (s.eligible r)).setRx e { s.rx e with state := .calling }) := by
    unfold State.makeCalling; rw [same, if_pos (State.chosen_ready h)]
  have lend : (((s.grant l (s.eligible r)).setRx e { s.rx e with state := .calling }).ctl l).lend = (s.ctl l).lend :=
    s.grant_lend l _
  conv => lhs; unfold State.passFuel
  simp only [h, g, calling, lend]
  rfl

/-- A property that every part of an act keeps. -/
structure ActsKeep (P : State → Prop) : Prop where
  quiet : ∀ {s t}, Quiet s t → P s → P t
  begins : ∀ {s l b e}, s.searchLine b = some l → (s.rx e).state = .ready → P s → P (s.beginCall l b e)
  reclaims : ∀ {s l}, (s.ctl l).lend = .lent → P s → P (s.endLend l)

section keep
variable {P : State → Prop} (k : ActsKeep P)
include k

theorem ActsKeep.passFuel (n : Nat) : ∀ s : State, P s → P (State.passFuel n s) := by
  induction n with
  | zero => intro s h; exact h
  | succ n ih =>
    intro s h
    cases hc : s.chosen with
    | none => unfold State.passFuel; simpa only [hc] using h
    | some x =>
      obtain ⟨r, e⟩ := x
      cases hl : s.searchLine (s.eligible r) with
      | none => unfold State.passFuel; simpa only [hc, hl] using h
      | some l =>
        rw [State.passFuel_begins n hc hl]
        exact ih _ (k.begins hl (State.chosen_ready hc) h)

theorem ActsKeep.act {s : State} (h : P s) : P s.act := by
  unfold State.act; dsimp only
  refine k.quiet (State.settleHeld_quiet _) (k.quiet (State.evaluateUrgent_quiet _) ?_)
  have untold := k.quiet (s.setWork_quiet { s.work with told := false }) h
  split
  · exact k.passFuel 8 _ untold
  · exact untold

theorem ActsKeep.graceReclaim {s : State} (h : P s) : P s.graceReclaim := by
  have noted := k.quiet (s.setWork_quiet { s.work with fireDue := false, expired := true }) h
  unfold State.graceReclaim; dsimp only; split
  · exact k.quiet (State.tell_quiet _) noted
  · next l _ first =>
    have lent : l ∈ (s.setWork { s.work with fireDue := false, expired := true }).lentLines := by rw [first]; simp
    simp only [State.lentLines, List.mem_filter, beq_iff_eq] at lent
    exact k.quiet (State.tell_quiet _) (k.reclaims lent.2 noted)

theorem ActsKeep.actFuel (n : Nat) : ∀ s : State, P s → P (State.actFuel n s) := by
  induction n with
  | zero => intro s h; exact h
  | succ n ih =>
    intro s h; unfold State.actFuel; split
    · exact ih _ (k.graceReclaim h)
    · split
      · exact ih _ (k.act h)
      · exact h

/-- What the acts keep is kept to the end of a command that leaves nothing but acts to do. -/
theorem ActsKeep.settle {s : State} (h : P s) (exit : s.work.exitDue = false) (none : s.work.handOns = []) :
    P s.settle := by
  rw [State.settle_told s exit none]
  exact k.quiet (State.setWork_quiet _ _) (k.actFuel 64 s h)

end keep

end Sys2Proof.Machine
end

section
/-! A call that begins, takes its line or hands it back, line by line; then the completed promotion (O19) and the probe timer (O20). -/

namespace Sys2Proof.Machine

/-! ### Taking the line (R114, R115, R116) -/

/-- The call once it has taken its line: the instant, and the call-limit timer of a REPORT call. -/
def State.takenCall (s : State) (c : Call) : Call :=
  { c with
    seizedAt := some s.clock
    limitTimer := match c.purpose with
      | .report => some (s.now + s.t1.callLimit * 1000)
      | .probe => none }

section take
variable (s : State) (l : LineNo) {c : Call}

@[simp] theorem State.takeLine_work : (s.takeLine l).work = s.work := by
  unfold State.takeLine; dsimp only; split <;> rfl

theorem State.takeLine_tenant (hc : s.call l = some c) (h : (s.ctl l).classOcc = .tenant) :
    (s.takeLine l).line l =
      { s.line l with
        iface := { (s.line l).iface with relayOpen := true }
        call := some { s.takenCall c with state := .cleardown, stateTimer := some (s.now + 1500) } } := by
  unfold State.takeLine; dsimp only
  rw [if_pos h]
  simp only [State.call] at hc
  simp [State.enterState, State.modCall, State.call, State.setCall_line, State.setIface_line, hc, cleardownTime, State.takenCall] <;> rfl

theorem State.takeLine_dials (hc : s.call l = some c) (h : (s.ctl l).classOcc ≠ .tenant) :
    (s.takeLine l).line l =
      { s.line l with
        iface := { (s.line l).iface with relayOpen := true, offHook := true }
        detector := Detector.listen (s.line l).toneOn s.now
        call := some { s.takenCall c with state := .dialtone, stateTimer := some (s.now + 5000) } } := by
  unfold State.takeLine; dsimp only
  rw [if_neg h]
  simp only [State.call] at hc
  simp [State.enterDialtone, State.enterState, State.modCall, State.call, State.setCall_line, State.setIface_line,
    State.setDetector_line, hc, dialtoneTime, State.takenCall] <;> rfl

/-- A call that takes its line keeps all but its state, its timers and the instant of taking. -/
theorem State.takeLine_call (hc : s.call l = some c) :
    ∃ st timer, (s.takeLine l).call l = some { s.takenCall c with state := st, stateTimer := timer } := by
  by_cases h : (s.ctl l).classOcc = .tenant
  · exact ⟨_, _, congrArg Line.call (s.takeLine_tenant l hc h)⟩
  · exact ⟨_, _, congrArg Line.call (s.takeLine_dials l hc h)⟩

end take

/-! ### A call begins (R104, R105) -/

section start
variable (s : State) (l : LineNo)

theorem State.needReady_parked (k : LineNo) : ((s.needReady l).line k).parked = (s.line k).parked := by
  have waiting : ((s.joinWaitList l).line k).parked = (s.line k).parked := by
    simp only [State.joinWaitList]
    rw [State.line_congr (State.setWaitList_lines _ _), State.setCtl_line]; split
    · next e => subst e; rfl
    · rfl
  unfold State.needReady; split
  · split
    · rfl
    · exact s.startPromotion_parked l k
  · split
    · exact waiting
    · exact s.startPromotion_parked l k

@[simp] theorem State.needReady_work : (s.needReady l).work = s.work := by
  unfold State.needReady; split <;> split <;> rfl

theorem State.startCall_takes {c : Call} (h : c.lendPending = false) (g : (s.ctl l).power = .ready) :
    s.startCall l c = (s.setCall l (some c)).takeLine l := by
  simp [State.startCall, h, g]

theorem State.startCall_needs {c : Call} (h : c.lendPending = false) (g : (s.ctl l).power ≠ .ready) :
    s.startCall l c = (s.setCall l (some c)).needReady l := by
  simp [State.startCall, h, g]

/-- With a lend pending on its line, a REPORT call ends at once (R104, R125). -/
theorem State.startCall_ends (e : RxNo) :
    s.startCall l (Call.create .report (some e) true) =
      (s.setCall l (some (Call.create .report (some e) true))).endContext l (Call.create .report (some e) true)
        (some .cutShort) := by
  simp [State.startCall, State.giveResult, State.setCall_call, Call.create, Call.resultOf]

@[simp] theorem State.startCall_work {c : Call} (h : c.lendPending = false) : (s.startCall l c).work = s.work := by
  by_cases g : (s.ctl l).power = .ready
  · rw [s.startCall_takes l h g, State.takeLine_work]; rfl
  · rw [s.startCall_needs l h g, State.needReady_work]; rfl

theorem State.startCall_keptBut {c : Call} (h : c.lendPending = false) : CtlsKeptBut l s (s.startCall l c) := by
  by_cases g : (s.ctl l).power = .ready
  · rw [s.startCall_takes l h g]; exact fun k _ => by simp
  · rw [s.startCall_needs l h g]
    exact CtlsKeptBut.trans (fun k _ => s.setCall_ctl l _ k) (State.needReady_keptBut _ l)

end start

/-! ### A line is handed back while another holds the power (R28, R32) -/

/-- Another line is READY or settles. -/
def State.TakenBesides (s : State) (l : LineNo) : Prop :=
  ∃ k, k ≠ l ∧ ((s.ctl k).power = .ready ∨ ∃ e, (s.ctl k).promotion = .settling e)

section handBack
variable {s t : State} {l : LineNo}

theorem State.TakenBesides.kept (h : s.TakenBesides l) (g : CtlsKeptBut l s t) : t.TakenBesides l := by
  obtain ⟨k, n, taken⟩ := h
  exact ⟨k, n, by rw [g k n]; exact taken⟩

theorem State.TakenBesides.powerTaken (h : s.TakenBesides l) : s.powerTaken = true := by
  obtain ⟨k, -, taken⟩ := h
  exact s.powerTaken_iff.2 ⟨k, taken⟩

theorem State.yieldPower_keptBut (h : s.TakenBesides l) : CtlsKeptBut l s (s.yieldPower l) := by
  unfold State.yieldPower; split
  · rw [State.startNext_taken _ (h.kept (s.stepDown_keptBut l)).powerTaken]
    exact s.stepDown_keptBut l
  · exact .refl l s

theorem State.lineResult_keptBut (p : Purpose) (x : Option CallResult) : CtlsKeptBut l s (s.lineResult l p x) := by
  have noticed (u : State) : CtlsKeptBut l u (u.lineNotice l).tell := .of_calm (by simp [State.lineNotice])
  have told (u : State) (rep : Report) (f : FaultKind) (i : Nat) :
      CtlsKeptBut l u ((u.report rep).faultActive f i) ∧ CtlsKeptBut l u ((u.report rep).faultCleared f i) :=
    ⟨.of_calm (by simp), .of_calm (by simp)⟩
  unfold State.lineResult; split
  · unfold State.probeResult; split
    · exact ((s.setCtl_keptBut l _).trans (noticed _)).trans (told _ _ _ _).2
    · exact s.setCtl_keptBut l _
  · split
    · unfold State.countNoTone; dsimp only; split
      · exact .refl l s
      · split
        · exact s.setCtl_keptBut l _
        · exact ((s.setCtl_keptBut l _).trans (noticed _)).trans (told _ _ _ _).1
    · exact .refl l s

/-- The hand-back up to the power: the result applied, the context gone, the grant kind absent (R31, R32). -/
def State.takenBack (s : State) (l : LineNo) (p : Purpose) (x : Option CallResult) : State :=
  let s1 := (s.lineResult l p x).setCall l none
  s1.setCtl l { s1.ctl l with grant := none }

/-- The hand-back behind the power: a pending disable, a pending lend, the occupancy (R32). -/
def State.vacated (s : State) (l : LineNo) : State :=
  if (s.ctl l).disablePending then (s.lineOff l).tell
  else if (s.ctl l).lend = .pending then (s.beginLend l).tell
  else (s.recompute l).tell

theorem State.handBack_eq (s : State) (l : LineNo) (p : Purpose) (x : Option CallResult) :
    s.handBack l p x = ((s.takenBack l p x).yieldPower l).vacated l := rfl

theorem State.takenBack_keptBut (p : Purpose) (x : Option CallResult) : CtlsKeptBut l s (s.takenBack l p x) :=
  ((s.lineResult_keptBut p x).trans fun k _ => State.setCall_ctl _ l none k).trans (State.setCtl_keptBut _ l _)

theorem State.vacated_keptBut : CtlsKeptBut l s (s.vacated l) := by
  unfold State.vacated; split
  · exact (s.lineOff_keptBut l).trans (.of_lines rfl)
  · split
    · exact (s.beginLend_keptBut l).trans (.of_lines rfl)
    · exact (s.recompute_keptBut l).trans (.of_lines rfl)

theorem State.handBack_keptBut (h : s.TakenBesides l) (p : Purpose) (x : Option CallResult) :
    CtlsKeptBut l s (s.handBack l p x) := by
  have before : CtlsKeptBut l s (s.takenBack l p x) := State.takenBack_keptBut p x
  exact (before.trans (State.yieldPower_keptBut (h.kept before))).trans State.vacated_keptBut

theorem State.receiverResult_ctl (e : RxNo) (x : Option CallResult) (k : LineNo) :
    (s.receiverResult e x).ctl k = s.ctl k := by
  unfold State.receiverResult; split
  · split
    · dsimp only; split
      · exact ctl_of_calm (State.reexamine_calm (s.setRx e (s.charged e))) k
      · rfl
    · rfl
  · rfl

theorem State.endContext_keptBut (h : s.TakenBesides l) (c : Call) (x : Option CallResult) :
    CtlsKeptBut l s (s.endContext l c x) := by
  unfold State.endContext; dsimp only
  have noticed : CtlsKeptBut l s (match x with
      | some res => s.notice (.callEnd l c.receiver res c.blocksAccepted)
      | none => s) := by
    split
    · exact .of_lines (by simp)
    · exact .refl l s
  have back := noticed.trans (State.handBack_keptBut (h.kept noticed) c.purpose x)
  split
  · exact back.trans fun k _ => State.receiverResult_ctl _ x k
  · exact back

end handBack

/-! ### A READY line through the acts (R24, R28) -/

/-- The line is READY, does not settle and waits for nothing, and no lend waits for its call to end. -/
def State.StandsReady (l : LineNo) (s : State) : Prop :=
  (s.ctl l).lend ≠ .pending ∧ (s.ctl l).power = .ready ∧ (s.ctl l).promotion = .none

section ready
variable {s t : State} {l : LineNo}

theorem State.StandsReady.of_ctl (h : s.StandsReady l) (g : t.ctl l = s.ctl l) : t.StandsReady l := by
  simpa only [State.StandsReady, g] using h

theorem State.grant_ctl_same (s : State) (l : LineNo) (b : Bool) :
    (s.grant l b).ctl l =
      { s.ctl l with
        grant := some (s.grantKind l b)
        occupancy := (s.setCtl l { s.ctl l with grant := some (s.grantKind l b) }).occupancyNow l } := by
  have same : (s.grant l b).ctl l = ((s.setCtl l { s.ctl l with grant := some (s.grantKind l b) }).recompute l).ctl l :=
    rfl
  rw [same, State.recompute_ctl_same, State.setCtl_ctl_same]

/-- The line granted starts its call at once: READY, it takes the line. -/
theorem State.StandsReady.beginCall (h : s.StandsReady l) (b : Bool) (e : RxNo) : (s.beginCall l b e).StandsReady l := by
  obtain ⟨lend, power, promotion⟩ := h
  have calling : ((s.grant l b).setRx e { s.rx e with state := .calling }).ctl l = _ := s.grant_ctl_same l b
  have free : (Call.create .report (some e) ((s.ctl l).lend == .pending)).lendPending = false := by
    simpa [Call.create] using lend
  unfold State.beginCall
  rw [State.startCall_takes _ l free (by rw [calling]; exact power)]
  simp only [State.StandsReady, State.takeLine_ctl, State.setCall_ctl, calling]
  exact ⟨lend, power, promotion⟩

/-- A call that begins on another line leaves a READY line alone. -/
theorem State.StandsReady.beginCall_ne {k : LineNo} (h : s.StandsReady l) (n : l ≠ k) (b : Bool) (e : RxNo) :
    (s.beginCall k b e).StandsReady l := by
  have granted : CtlsKeptBut k s ((s.grant k b).setRx e { s.rx e with state := .calling }) :=
    (s.grant_keptBut k b).trans (.of_lines rfl)
  refine h.of_ctl ?_
  cases pending : ((s.ctl k).lend == .pending) with
  | false =>
    have := granted.trans (State.startCall_keptBut _ k (c := Call.create .report (some e) false) rfl)
    simpa only [State.beginCall, pending] using this l n
  | true =>
    have taken : s.TakenBesides k := ⟨l, n, .inl h.2.1⟩
    have created := granted.trans (fun m _ =>
      State.setCall_ctl _ k (some (Call.create .report (some e) true)) m : CtlsKeptBut k _ _)
    have ended := created.trans (State.endContext_keptBut (taken.kept created) (Call.create .report (some e) true)
      (some .cutShort))
    simp only [State.beginCall, pending, State.startCall_ends]
    exact ended l n

theorem standsReady_kept (l : LineNo) : ActsKeep (State.StandsReady l) where
  quiet q h := h.of_ctl (State.ctl_congr q.1 l)
  begins {s k b e} _ _ h := by
    by_cases n : l = k
    · subst n; exact h.beginCall b e
    · exact h.beginCall_ne n b e
  reclaims {s k} _ h := by
    by_cases n : l = k
    · subst n
      have ended : (s.endLend l).ctl l = (((s.setCtl l { s.ctl l with lend := .none, lendIdle := none }).recompute l).ctl l) := rfl
      rw [State.recompute_ctl_same, State.setCtl_ctl_same] at ended
      simp only [State.StandsReady, ended]
      exact ⟨by simp, h.2.1, h.2.2⟩
    · exact h.of_ctl (s.endLend_keptBut k l n)

end ready

/-! ### The completed promotion (O19) -/

section promotion
variable (t : Nat) (s : State) (l : LineNo) {e : Nat}

theorem exec_promotionComplete (h : (s.ctl l).promotion = .settling e) (due : e ≤ max s.now t) :
    exec (.promotionComplete t l) s = .next ((s.advance t).promoted l).settle := by
  have passed : expired (some e) (max s.now t) = true := decide_eq_true due
  have same : (s.advance t).ctl l = s.ctl l := rfl
  simp [exec, execPromotionComplete, same, h, Promotion.ends, passed]

theorem State.promoted_work : (s.promoted l).work = { s.work with told := true } := by
  have same (u : State) : u.tell.work = { u.work with told := true } := rfl
  unfold State.promoted; dsimp only
  rw [same]; split
  · rw [State.takeLine_work]; rfl
  · rfl

theorem State.promoted_ctl : (s.promoted l).ctl l = { s.ctl l with power := .ready, promotion := .none } := by
  have same (u : State) : u.tell.ctl l = u.ctl l := rfl
  unfold State.promoted; dsimp only
  rw [same]; split <;> simp

/-- A call in PREPARE takes the line that has become READY. -/
theorem State.promoted_takes {c : Call} (hc : s.call l = some c) (prepare : c.state = .prepare) :
    (s.promoted l).line l =
      ((s.setCtl l { s.ctl l with power := .ready, promotion := .none }).takeLine l).line l := by
  have call : (s.setCtl l { s.ctl l with power := .ready, promotion := .none }).call l = some c := by
    simpa [State.call, State.setCtl_line] using hc
  have takes : (s.setCtl l { s.ctl l with power := .ready, promotion := .none }).inPrepare l = true := by
    simp [State.inPrepare, call, prepare]
  unfold State.promoted; dsimp only
  rw [if_pos takes]; rfl

theorem parked_line {x y : Line} (h : x.parked = y.parked) :
    x.call = y.call ∧ x.iface = y.iface ∧ x.detector = y.detector ∧ x.sending = y.sending ∧ x.next = y.next := by
  simp only [Line.parked, Line.mk.injEq] at h
  obtain ⟨-, detector, -, -, iface, call, sending, next⟩ := h
  exact ⟨call, iface, detector, sending, next⟩

end promotion

/-- Settles O19: a call in PREPARE takes the line within the promotion itself, a line in CALL is left alone by the acts that follow, and a READY line stays READY through them. -/
theorem promotionTakesTheLine : Obligations.PromotionTakesTheLine := by
  intro t l e s settling due lend rested
  have work : ((s.advance t).promoted l).work = { Work.idle with told := true } := by
    rw [State.promoted_work, State.advance_work, rested]
  have exit : ((s.advance t).promoted l).work.exitDue = false := by rw [work]; rfl
  have handOns : ((s.advance t).promoted l).work.handOns = [] := by rw [work]; rfl
  have ctl := (s.advance t).promoted_ctl l
  have stands : ((s.advance t).promoted l).StandsReady l := by
    simp only [State.StandsReady, ctl]
    exact ⟨by rw [State.advance_ctl, lend]; simp, trivial, trivial⟩
  obtain ⟨-, power, promotion⟩ := (standsReady_kept l).settle stands exit handOns
  refine ⟨_, exec_promotionComplete t s l settling due, power, promotion, fun c hc prepare occupancy => ?_⟩
  have kept := (State.settle_act _ exit handOns).2.1 l (by rw [ctl]; exact occupancy)
    (by rw [ctl, State.advance_ctl, lend]; simp)
  obtain ⟨call, iface, detector, -, -⟩ := parked_line kept
  have hc' : ((s.advance t).setCtl l { (s.advance t).ctl l with power := .ready, promotion := .none }).call l = some c := by
    simpa [State.call, State.setCtl_line] using hc
  have takes := (s.advance t).promoted_takes l hc prepare
  have before : ((s.advance t).setCtl l { (s.advance t).ctl l with power := .ready, promotion := .none }).line l =
      { s.line l with ctl := { s.ctl l with power := .ready, promotion := .none } } := by simp [State.setCtl_line]
  by_cases tenant : (s.ctl l).classOcc = .tenant
  · rw [State.takeLine_tenant _ l hc' (by rw [State.setCtl_ctl_same]; exact tenant), before] at takes
    refine ⟨by rw [iface, takes], fun _ => ⟨?_, by rw [iface, takes]⟩, fun n => absurd tenant n⟩
    rw [State.call, call, takes]; rfl
  · rw [State.takeLine_dials _ l hc' (by rw [State.setCtl_ctl_same]; exact tenant), before] at takes
    refine ⟨by rw [iface, takes], fun n => absurd n tenant, fun _ => ⟨?_, by rw [iface, takes], ?_⟩⟩
    · rw [State.call, call, takes]; rfl
    · rw [detector, takes]; rfl

end Sys2Proof.Machine
end

section
/-! The probe timer's expiry (O20). -/

namespace Sys2Proof.Machine

/-- The PROBE call stands on the line, with grant kind TRICKLE and the probe timer idle (R23, R130). -/
structure Line.Probed (x : Line) (c : Call) : Prop where
  call : x.call = some c
  purpose : c.purpose = .probe
  receiver : c.receiver = none
  result : c.result = none
  limit : c.limitTimer = none
  grant : x.ctl.grant = some .trickle
  timer : x.ctl.probeTimer = none
  occupancy : x.ctl.occupancy = .call
  lend : x.ctl.lend = .none

theorem Line.Probed.of_parked {x y : Line} {c : Call} (h : x.Probed c) (g : y.parked = x.parked) : y.Probed c := by
  have parked : x.parked.Probed c := ⟨h.1, h.2, h.3, h.4, h.5, h.6, h.7, h.8, h.9⟩
  rw [← g] at parked
  exact ⟨parked.1, parked.2, parked.3, parked.4, parked.5, parked.6, parked.7, parked.8, parked.9⟩

theorem Line.Probed.of_ctl {x : Line} {c : Call} {y : LineCtl} (call : x.call = some c) (probe : c.purpose = .probe)
    (receiver : c.receiver = none) (result : c.result = none) (limit : c.limitTimer = none)
    (h : x.ctl = { y with grant := some .trickle, probeTimer := none, occupancy := .call }) (lend : y.lend = .none) :
    x.Probed c :=
  ⟨call, probe, receiver, result, limit, by rw [h], by rw [h], by rw [h], by rw [h]; exact lend⟩

section probe
variable (t : Nat) (s : State) (l : LineNo) {e : Nat}

theorem exec_probeTimerExpiry (timer : (s.ctl l).probeTimer = some e) (due : e ≤ max s.now t) :
    exec (.probeTimerExpiry t l) s =
      .next (if s.mayProbe l then (s.advance t).startProbe l
        else (s.advance t).setCtl l { s.ctl l with probeTimer := some (max s.now t + 300000) }).settle := by
  have passed : expired (some e) (max s.now t) = true := decide_eq_true due
  have same : (s.advance t).ctl l = s.ctl l := rfl
  have may : (s.advance t).mayProbe l = s.mayProbe l := rfl
  simp [exec, execProbeTimerExpiry, same, may, timer, passed, probePeriod]

theorem State.mayProbe_iff :
    s.mayProbe l = true ↔ (s.ctl l).occupancy = .free ∧ s.dispatcher.gateOpen = true ∧ s.call l = none := by
  simp [State.mayProbe, and_assoc]

/-- The line as the probe's grant leaves it, before the call context is created. -/
def State.probeGranted (s : State) (l : LineNo) : State :=
  (s.setCtl l { s.ctl l with grant := some .trickle, probeTimer := none }).recompute l

theorem State.startProbe_eq : s.startProbe l = (s.probeGranted l).startCall l (Call.create .probe none false) := rfl

theorem State.probeGranted_keptBut : CtlsKeptBut l s (s.probeGranted l) :=
  (s.setCtl_keptBut l _).trans (State.recompute_keptBut _ l)

/-- A grant makes a usable line that is not LENT a line in CALL (R18, R30). -/
theorem State.occupancyNow_granted {x : LineCtl} (usable : s.usable l = true) (lend : x.lend ≠ .lent)
    (grant : x.grant.isSome = true) : (s.setCtl l x).occupancyNow l = .call := by
  obtain ⟨fitted, enabled⟩ := Bool.and_eq_true_iff.1 usable
  have fitted' : (s.setCtl l x).isFitted l = true := fitted
  have enabled' : ((s.setCtl l x).t2 l).enabled = true := enabled
  simp [State.occupancyNow, fitted', enabled', lend, grant]

variable {s l} (usable : s.usable l = true) (lend : (s.ctl l).lend = .none)
include usable lend

theorem State.probeGranted_ctl :
    (s.probeGranted l).ctl l = { s.ctl l with grant := some .trickle, probeTimer := none, occupancy := .call } := by
  rw [State.probeGranted, State.recompute_ctl_same, State.setCtl_ctl_same,
    State.occupancyNow_granted s l usable (by simp [lend]) rfl]

/-- A PROBE call stands on the line that is granted for it, whether it takes the line at once or the line must be promoted (R105, R130). -/
theorem State.startProbe_probed : ∃ c, ((s.startProbe l).line l).Probed c := by
  have granted := State.probeGranted_ctl usable lend
  have call : ((s.probeGranted l).setCall l (some (Call.create .probe none false))).call l =
      some (Call.create .probe none false) := State.setCall_call _ l _
  by_cases power : ((s.probeGranted l).ctl l).power = .ready
  · have ctl : (s.startProbe l).ctl l = (s.probeGranted l).ctl l := by
      rw [State.startProbe_eq, State.startCall_takes _ _ rfl power, State.takeLine_ctl, State.setCall_ctl]
    obtain ⟨st, timer, taken⟩ := State.takeLine_call _ l call
    rw [← State.startCall_takes _ _ rfl power, ← State.startProbe_eq] at taken
    exact ⟨_, .of_ctl taken rfl rfl rfl rfl (ctl.trans granted) lend⟩
  · rw [State.startProbe_eq, State.startCall_needs _ _ rfl power]
    have ctl := State.setCall_ctl (s.probeGranted l) l (some (Call.create .probe none false)) l
    exact ⟨_, (Line.Probed.of_ctl call rfl rfl rfl rfl (ctl.trans granted) lend).of_parked
      (State.needReady_parked _ l l)⟩

omit usable lend

/-- A recomputation tells the Dispatcher at most. -/
theorem State.recompute_noted (s : State) (l : LineNo) :
    (s.recompute l).work.exitDue = s.work.exitDue ∧ (s.recompute l).work.handOns = s.work.handOns := by
  unfold State.recompute; dsimp only; split
  · exact ⟨rfl, rfl⟩
  · have same (u : State) : u.tell.work = { u.work with told := true } := rfl
    rw [same]; simp [State.lineNotice]

theorem State.startProbe_noted (s : State) (l : LineNo) (rested : s.Rested) :
    (s.startProbe l).work.exitDue = false ∧ (s.startProbe l).work.handOns = [] := by
  rw [State.startProbe_eq, State.startCall_work _ l rfl]
  obtain ⟨exit, handOns⟩ :=
    State.recompute_noted (s.setCtl l { s.ctl l with grant := some .trickle, probeTimer := none }) l
  have work : s.work = Work.idle := rested
  exact ⟨exit.trans (by rw [State.setCtl_work, work]; rfl), handOns.trans (by rw [State.setCtl_work, work]; rfl)⟩

end probe

/-- Settles O20: the probe's line is in CALL with its call, and the acts that follow leave it alone. -/
theorem probeTimerExpires : Obligations.ProbeTimerExpires := by
  intro t l e s rested timer due
  rw [exec_probeTimerExpiry t s l timer due]
  refine ⟨fun free gate call usable lend => ?_, fun h => ?_⟩
  · rw [if_pos ((s.mayProbe_iff l).2 ⟨free, gate, call⟩)]
    obtain ⟨exit, handOns⟩ := (s.advance t).startProbe_noted l rested
    obtain ⟨c, probed⟩ := State.startProbe_probed (s := s.advance t) (l := l) usable lend
    have kept := (State.settle_act _ exit handOns).2.1 l probed.occupancy
      (by rw [State.ctl, probed.lend]; simp)
    have stands := probed.of_parked kept
    exact ⟨_, c, rfl, stands.call, stands.purpose, stands.receiver, stands.result, stands.limit, stands.grant,
      stands.timer, stands.occupancy⟩
  · have may : ¬s.mayProbe l = true := by
      rw [State.mayProbe_iff]
      rintro ⟨free, gate, call⟩
      simp_all
    rw [if_neg may]
    exact congrArg Host.Outcome.next (State.settle_rested _ rested)

end Sys2Proof.Machine
end

section
/-! What stays aside of the queue's work: a FIRE-wait expiry that is due, and the fault list but for COMM-FAILURE and QUEUE-LOSS; and the end of a command behind a CLOSED gate, where no call begins and no lend ends. -/

namespace Sys2Proof.Machine

/-! ### The view and the operations that keep it -/

/-- The queue reports no other fault than these two (R64, R70). -/
def FaultKind.queued (k : FaultKind) : Bool := k == .commFailure || k == .queueLoss

/-- What the queue's operations leave of the step's notes and of the fault list. -/
def State.aside (s : State) : Bool × List FaultEntry :=
  (s.work.fireDue, s.link.faults.filter fun e => !e.kind.queued)

theorem aside_of_link {s t : State} (h : t.link.faults = s.link.faults) (g : t.work.fireDue = s.work.fireDue) :
    t.aside = s.aside := by
  simp only [State.aside, h, g]

theorem fireDue_of_aside {s t : State} (h : t.aside = s.aside) : t.work.fireDue = s.work.fireDue := congrArg Prod.fst h

theorem mem_faults_of_aside {s t : State} (h : t.aside = s.aside) {e : FaultEntry} (other : e.kind.queued = false) :
    e ∈ t.link.faults ↔ e ∈ s.link.faults := by
  have same := congrArg (fun x => e ∈ x.2) h
  simpa [State.aside, other] using same

section aside
variable (s : State)

@[simp] theorem Link.enqueue_faults (k : Link) (n : Notice) : (k.enqueue n).faults = k.faults := by
  unfold Link.enqueue; split
  · unfold Link.transmit; split
    · split <;> simp_all
    · rfl
  · rfl

@[simp] theorem State.notice_faults (n : Notice) : (s.notice n).link.faults = s.link.faults := by
  unfold State.notice; split
  · rfl
  · exact Link.enqueue_faults _ _

@[simp] theorem State.notice_aside (n : Notice) : (s.notice n).aside = s.aside :=
  aside_of_link (s.notice_faults n) (by simp)
@[simp] theorem State.setQueue_aside (q : Queue) : (s.setQueue q).aside = s.aside := rfl
@[simp] theorem State.modRecord_aside (k : Nat) (f : Record → Record) : (s.modRecord k f).aside = s.aside := rfl
@[simp] theorem State.setStates_aside (ks : List Nat) (x : RecordState) : (s.setStates ks x).aside = s.aside := rfl
@[simp] theorem State.setSlots_aside (l : LineNo) (x y : Slot) : (s.setSlots l x y).aside = s.aside := rfl
@[simp] theorem State.setHoldTimer_aside (x : Option Nat) : (s.setHoldTimer x).aside = s.aside := rfl
@[simp] theorem State.setRx_aside (e : RxNo) (x : RxStatus) : (s.setRx e x).aside = s.aside := rfl
@[simp] theorem State.tell_aside : s.tell.aside = s.aside := rfl
@[simp] theorem State.noteWaiting_aside (k : Nat) : (s.noteWaiting k).aside = s.aside := rfl
@[simp] theorem State.noteExit_aside : s.noteExit.aside = s.aside := rfl
@[simp] theorem State.setBusy_aside (b : Bool) : (s.setBusy b).aside = s.aside := rfl

theorem filter_setFault (fs : List FaultEntry) {k : FaultKind} (h : k.queued = true) (i : Nat) (b : Bool) :
    ((setFault fs k i b).filter fun e => !e.kind.queued) = fs.filter fun e => !e.kind.queued := by
  induction fs with
  | nil => rfl
  | cons e fs ih =>
    rw [setFault] at ih
    rw [setFault, List.map_cons, List.filter_cons, List.filter_cons, ih]
    by_cases same : (e.kind == k && e.inst == i) = true
    · have kind : e.kind = k := by simp_all
      rw [if_pos same]; simp [kind, h]
    · rw [if_neg same]

@[simp] theorem State.faultActive_aside {k : FaultKind} (h : k.queued = true) (i : Nat) :
    (s.faultActive k i).aside = s.aside := by
  refine Prod.ext (by simp [State.aside]) ?_
  unfold State.faultActive; split
  · simp [State.aside, State.setFaults, h]
  · split
    · rfl
    · simp [State.aside, State.setFaults, filter_setFault _ h]

@[simp] theorem State.faultCleared_aside {k : FaultKind} (h : k.queued = true) (i : Nat) :
    (s.faultCleared k i).aside = s.aside := by
  refine Prod.ext (by simp [State.aside]) ?_
  unfold State.faultCleared; split
  · rfl
  · split
    · simp [State.aside, State.setFaults, filter_setFault _ h]
    · rfl

@[simp] theorem State.settlePressure_aside : s.settlePressure.aside = s.aside := by
  unfold State.settlePressure; dsimp only; split <;> rfl

@[simp] theorem State.settleComm_aside : s.settleComm.aside = s.aside := by
  unfold State.settleComm; split
  · exact s.faultActive_aside rfl 0
  · exact s.faultCleared_aside rfl 0

@[simp] theorem State.claimNext_aside (l : LineNo) (e : RxNo) (n : Nat) : (s.claimNext l e n).aside = s.aside := by
  simp [State.claimNext]

@[simp] theorem State.releaseHeld_aside (r : Record) : (s.releaseHeld r).aside = s.aside := by
  unfold State.releaseHeld; split <;> rfl

@[simp] theorem State.returnRecord_aside (k : Nat) : (s.returnRecord k).aside = s.aside := by
  unfold State.returnRecord; split
  · rfl
  · split
    · dsimp only; split <;> split <;> simp
    · rfl

@[simp] theorem State.returnAll_aside (ks : List Nat) : (s.returnAll ks).aside = s.aside :=
  foldl_view State.aside _ State.returnRecord_aside ks s

@[simp] theorem State.recompose_aside (l : LineNo) (e : RxNo) (k : Nat) : (s.recompose l e k).aside = s.aside := by
  unfold State.recompose; dsimp only; split
  · simp
  · split
    · split <;> simp
    · rfl

@[simp] theorem State.takeHandOn_aside (k : Nat) : (s.takeHandOn k).aside = s.aside := by
  unfold State.takeHandOn; split
  · rfl
  · split
    · split
      · rfl
      · split <;> simp
    · rfl

@[simp] theorem State.drainFuel_aside (n : Nat) : ∀ s : State, (State.drainFuel n s).aside = s.aside := by
  induction n with
  | zero => intro s; rfl
  | succ n ih =>
    intro s; unfold State.drainFuel; split
    · rfl
    · rw [ih, State.takeHandOn_aside]; rfl

@[simp] theorem State.drain_aside : s.drain.aside = s.aside := by
  unfold State.drain; split <;> simp

@[simp] theorem State.handOn_aside (k : Nat) : (s.handOn k).aside = s.aside := by simp [State.handOn]

@[simp] theorem State.startHoldLimit_aside : s.startHoldLimit.aside = s.aside := by
  unfold State.startHoldLimit; split <;> simp

@[simp] theorem State.fireEntry_aside : s.fireEntry.aside = s.aside := by
  unfold State.fireEntry; split <;> simp

@[simp] theorem State.tellNeighbours_aside (k : Nat) (c : ReportClass) (x : RecordState) :
    (s.tellNeighbours k c x).aside = s.aside := by
  unfold State.tellNeighbours; dsimp only; split <;> split <;> split <;> simp

@[simp] theorem State.enter_aside (rep : Report) (b : Bool) (n : Nat) : (s.enter rep b n).aside = s.aside := by
  simp [State.enter]

@[simp] theorem State.accountLoss_aside : s.accountLoss.aside = s.aside := by
  unfold State.accountLoss; split
  · rw [State.faultActive_aside _ rfl, State.enter_aside]
  · split <;> simp

@[simp] theorem State.countLoss_aside (k : Nat) (rep : Report) : (s.countLoss k rep).aside = s.aside := by
  simp [State.countLoss]

@[simp] theorem State.removeRecord_aside (r : Record) : (s.removeRecord r).aside = s.aside := by
  have cleared (u : State) : (u.faultCleared .queueLoss 0).aside = u.aside := u.faultCleared_aside rfl 0
  unfold State.removeRecord; dsimp only
  split <;> (try split) <;> (try split) <;> simp [cleared]

@[simp] theorem State.join_aside (r : Record) (rep : Report) : (s.join r rep).aside = s.aside := by
  unfold State.join; dsimp only; split
  · split <;> split <;> (try split) <;> split <;> simp
  · simp

@[simp] theorem State.report_aside (rep : Report) : (s.report rep).aside = s.aside := by
  unfold State.report State.admission; split
  · simp
  · split
    · simp
    · split <;> simp

@[simp] theorem State.reexamineOne_aside (k : Nat) : (s.reexamineOne k).aside = s.aside := by
  unfold State.reexamineOne; split
  · rfl
  · split <;> simp

@[simp] theorem State.reexamine_aside : s.reexamine.aside = s.aside :=
  foldl_view State.aside _ State.reexamineOne_aside _ s

end aside

/-! ### Fault entries reported (R161) -/

section faults
variable (s : State) (k : FaultKind) (i : Nat)

theorem faultEntry_some {fs : List FaultEntry} {k : FaultKind} {i : Nat} {e : FaultEntry}
    (h : faultEntry fs k i = some e) : e ∈ fs ∧ e = { kind := k, inst := i, active := e.active } := by
  have found := List.find?_some h
  simp only [Bool.and_eq_true, beq_iff_eq] at found
  obtain ⟨kind, inst⟩ := found
  refine ⟨List.mem_of_find?_eq_some h, ?_⟩
  subst kind inst; rfl

/-- An entry reported active is ACTIVE on the list. -/
theorem State.faultActive_mem : ⟨k, i, true⟩ ∈ (s.faultActive k i).link.faults := by
  unfold State.faultActive; split
  · simp [State.setFaults]
  · next e h =>
    obtain ⟨mem, eq⟩ := faultEntry_some h
    split
    · next active => rw [active] at eq; rwa [eq] at mem
    · rw [State.notice_faults]
      refine List.mem_map.2 ⟨e, mem, ?_⟩
      rw [eq]; simp

/-- An entry reported cleared is not ACTIVE on a list that holds it once at most. -/
theorem State.faultCleared_not_mem (kept : s.FaultsKept) : ⟨k, i, true⟩ ∉ (s.faultCleared k i).link.faults := by
  unfold State.faultCleared; split
  · next h =>
    intro mem
    have none := List.find?_eq_none.1 h _ mem
    simp at none
  · next e h =>
    obtain ⟨mem, eq⟩ := faultEntry_some h
    split
    · rw [State.notice_faults]
      intro cleared
      obtain ⟨x, -, hx⟩ := List.mem_map.1 cleared
      split at hx
      · have := congrArg FaultEntry.active hx; simp at this
      · next other => rw [hx] at other; simp at other
    · next inactive =>
      intro active
      have key : (fun e : FaultEntry => (e.kind, e.inst)) e = (fun e : FaultEntry => (e.kind, e.inst)) ⟨k, i, true⟩ := by
        rw [eq]
      have same := List.inj_on_of_nodup_map kept.1 mem active key
      rw [same] at inactive; simp at inactive

end faults

/-! ### Behind a CLOSED gate (R97, R98) -/

/-- What a command has done stands at the end of its work. -/
structure Stands (s t : State) : Prop where
  ctl : ∀ l, t.ctl l = s.ctl l
  call : ∀ l, t.call l = s.call l
  rx : ∀ e, t.rx e = s.rx e
  waitList : t.waitList = s.waitList
  reports : t.reports = s.reports
  faults : ∀ {e : FaultEntry}, e.kind.queued = false → (e ∈ t.link.faults ↔ e ∈ s.link.faults)

theorem Stands.trans {s t u : State} (h : Stands s t) (g : Stands t u) : Stands s u where
  ctl l := (g.ctl l).trans (h.ctl l)
  call l := (g.call l).trans (h.call l)
  rx e := (g.rx e).trans (h.rx e)
  waitList := g.waitList.trans h.waitList
  reports := g.reports.trans h.reports
  faults other := (g.faults other).trans (h.faults other)

theorem Stands.of_calm {s t : State} (h : t.calm = s.calm) (roster : t.roster = s.roster) (aside : t.aside = s.aside) :
    Stands s t where
  ctl := ctl_of_calm h
  call := call_of_calm h
  rx := State.rx_congr (receivers_of_calm h)
  waitList := waitList_of_calm h
  reports := reports_of_roster roster
  faults := mem_faults_of_aside aside

theorem Stands.of_quiet {s t : State} (h : Quiet s t) (link : t.link = s.link) : Stands s t := by
  obtain ⟨lines, receivers, waitList, -, steady⟩ := h
  have queue : t.queue = s.queue := congrArg Steady.queue steady
  exact ⟨State.ctl_congr lines, State.call_congr lines, State.rx_congr receivers, waitList,
    reports_of_roster (roster_of_queue queue), by rw [link]; simp⟩

section closed
variable {s : State}

/-- An act behind a CLOSED gate: nothing begins, no notice goes, and no expiry comes due. -/
theorem State.act_stands (gate : s.dispatcher.gateOpen = false) (fire : s.work.fireDue = false) :
    Stands s s.act ∧ s.act.work.told = false ∧ s.act.work.fireDue = false := by
  have closed : (s.setWork { s.work with told := false }).urgentNow = false := by
    simp [State.urgentNow, gate]
  have urgent : (s.setWork { s.work with told := false }).evaluateUrgent =
      (s.setWork { s.work with told := false }).setDispatcher { s.dispatcher with urgent := false } := by
    unfold State.evaluateUrgent; dsimp only; rw [closed]; split
    · next h _ => cases h
    · rfl
  have held (u : State) (h : u.dispatcher.urgent = false) : u.heldAfter = [] := by
    simp [State.heldAfter, State.heldBack, h]
  have act : s.act = (s.setWork { s.work with told := false }).setDispatcher
      { gateOpen := false, urgent := false, held := [], fireTimer := none } := by
    unfold State.act; dsimp only
    rw [if_neg (by simp [gate]), urgent]
    unfold State.settleHeld State.settleFireTimer
    rw [held _ rfl]
    simp only [State.setDispatcher_dispatcher, fireExpiry, expired, Bool.false_and, Bool.false_eq_true, if_false]
    rw [gate]; rfl
  rw [act]
  exact ⟨.of_quiet ((s.setWork_quiet _).trans (State.setDispatcher_quiet _ _)) rfl, rfl, fire⟩

theorem State.actFuel_stands (gate : s.dispatcher.gateOpen = false) (fire : s.work.fireDue = false) (n : Nat) :
    Stands s (State.actFuel n s) := by
  have still (u : State) (told : u.work.told = false) (due : u.work.fireDue = false) (n : Nat) :
      State.actFuel n u = u := by
    cases n with
    | zero => rfl
    | succ n => unfold State.actFuel; simp [told, due]
  have refl : Stands s s := .of_calm rfl rfl rfl
  cases n with
  | zero => exact refl
  | succ n =>
    unfold State.actFuel
    rw [if_neg (by simp [fire])]; split
    · obtain ⟨stands, told, due⟩ := State.act_stands gate fire
      rw [still _ told due]; exact stands
    · exact refl

/-- Behind a CLOSED gate the end of a command's work composes blocks again and leaves the rest. -/
theorem State.settle_stands (gate : s.dispatcher.gateOpen = false) (exit : s.work.exitDue = false)
    (fire : s.work.fireDue = false) : Stands s s.settle := by
  have unforced : s.settleExit = s := by
    unfold State.settleExit; rw [exit]
    simp only [Bool.false_eq_true, false_and, if_false]
    rw [← exit]; rfl
  have drained : Stands s s.drain := .of_calm s.drain_calm s.drain_roster s.drain_aside
  have gate' : s.drain.dispatcher.gateOpen = false := by
    rw [dispatcher_of_still (still_of_calm s.drain_calm)]; exact gate
  have acted := drained.trans (State.actFuel_stands gate' ((fireDue_of_aside s.drain_aside).trans fire) 64)
  rw [State.settle, unforced]
  exact acted.trans (.of_quiet (State.setWork_quiet _ _) rfl)

end closed

end Sys2Proof.Machine
end

section
/-! Power shared under RESERVE: the supply's change line by line, and a report of the part behind a CLOSED gate. -/

namespace Sys2Proof.Machine

/-! ### A report of the part behind a CLOSED gate -/

/-- The gate is CLOSED, and neither an exit from SERVICE nor a FIRE-wait expiry is due. -/
def State.Closed (s : State) : Prop :=
  s.dispatcher.gateOpen = false ∧ s.work.exitDue = false ∧ s.work.fireDue = false

section closed
variable {s t : State}

theorem State.Closed.of_still (h : s.Closed) (still : t.still = s.still) (exit : t.work.exitDue = s.work.exitDue)
    (fire : t.work.fireDue = s.work.fireDue) : t.Closed := by
  obtain ⟨gate, e, f⟩ := h
  exact ⟨by rw [dispatcher_of_still still]; exact gate, exit.trans e, fire.trans f⟩

theorem State.Closed.report (h : s.Closed) {rep : Report} (cls : rep.cls ≠ .fire) : (s.report rep).Closed :=
  h.of_still (by simp) (s.report_exitDue cls) (fireDue_of_aside (s.report_aside rep))

theorem State.Closed.faultActive (h : s.Closed) (k : FaultKind) (i : Nat) : (s.faultActive k i).Closed :=
  h.of_still (by simp) (by simp) (by simp)

theorem State.Closed.faultCleared (h : s.Closed) (k : FaultKind) (i : Nat) : (s.faultCleared k i).Closed :=
  h.of_still (by simp) (by simp) (by simp)

theorem State.Closed.settle (h : s.Closed) : Stands s s.settle := by
  obtain ⟨gate, exit, fire⟩ := h
  exact State.settle_stands gate exit fire

/-- A report that joins no record and finds a place stands behind the others, with the ticket the queue had to give. -/
theorem State.report_reports {rep : Report} (queue : t.queue = s.queue) (none : s.joinable rep = none)
    (room : s.ordinaryCount < 32) : (t.report rep).reports = s.reports ++ [(s.ticketToGive, rep)] := by
  have joinable : t.joinable rep = Option.none := by rw [← none]; simp only [State.joinable, State.inOrder, queue]
  have count : t.ordinaryCount < 32 := by simpa only [State.ordinaryCount, queue] using room
  rw [State.report, t.admit_new rep joinable count, State.reports_enter]
  simp only [State.reports, State.ticketToGive, queue]

end closed

/-! ### An operation on every line in turn -/

/-- Each line's control state after an operation on several lines in turn, each of which sees its own line alone. -/
theorem foldl_ctl {f : State → LineNo → State} {g : State → LineNo → LineCtl} (own : ∀ u l, (f u l).ctl l = g u l)
    (others : ∀ u l, CtlsKeptBut l u (f u l)) (same : ∀ u l k, k ≠ l → g (f u l) k = g u k) (ls : List LineNo)
    (nodup : ls.Nodup) (s : State) (l : LineNo) :
    (ls.foldl f s).ctl l = if l ∈ ls then g s l else s.ctl l := by
  induction ls generalizing s with
  | nil => simp
  | cons a ls ih =>
    obtain ⟨fresh, rest⟩ := List.nodup_cons.1 nodup
    rw [List.foldl_cons, ih rest]
    by_cases e : l = a
    · subst e; rw [if_neg fresh, own]; simp
    · rw [same s a l e, others s a l e]; simp [e]

theorem allLines_nodup : allLines.Nodup := by decide

theorem foldl_allLines_ctl {f : State → LineNo → State} {g : State → LineNo → LineCtl}
    (own : ∀ u l, (f u l).ctl l = g u l) (others : ∀ u l, CtlsKeptBut l u (f u l))
    (same : ∀ u l k, k ≠ l → g (f u l) k = g u k) (s : State) (l : LineNo) : (allLines.foldl f s).ctl l = g s l := by
  rw [foldl_ctl own others same allLines allLines_nodup, if_pos (mem_allLines l)]

/-! ### One line (R24, R27, R28, R29) -/

section line
variable (s : State) (l : LineNo)

theorem State.stepDown_ctl_same :
    (s.stepDown l).ctl l =
      { s.ctl l with power := if (s.ctl l).power = .ready then .sense else (s.ctl l).power, promotion := .none } := by
  have same (u : State) (ls : List LineNo) : (u.setWaitList ls).ctl l = u.ctl l := rfl
  unfold State.stepDown; dsimp only
  rw [same]; split
  · rw [State.setDetector_ctl, State.setCtl_ctl_same]
  · rw [State.setCtl_ctl_same]

@[simp] theorem State.stepDown_call (k : LineNo) : (s.stepDown l).call k = s.call k := by
  have same (u : State) (ls : List LineNo) : (u.setWaitList ls).call k = u.call k := rfl
  have ctl (x : LineCtl) : (s.setCtl l x).call k = s.call k := by
    simp only [State.call, State.setCtl_line]; split
    · next e => subst e; rfl
    · rfl
  have detector (u : State) (x : Detector) : (u.setDetector l x).call k = u.call k := by
    simp only [State.call, State.setDetector_line]; split
    · next e => subst e; rfl
    · rfl
  unfold State.stepDown; dsimp only
  rw [same]; split
  · rw [detector, ctl]
  · rw [ctl]

theorem State.stepDown_waitList : (s.stepDown l).waitList = s.waitList.filter (· ≠ l) := by
  unfold State.stepDown; dsimp only; split <;> rfl

theorem State.joinWaitList_ctl_same : (s.joinWaitList l).ctl l = { s.ctl l with promotion := .waiting } :=
  State.setCtl_ctl_same s l _

@[simp] theorem State.joinWaitList_call (k : LineNo) : (s.joinWaitList l).call k = s.call k := by
  have same (u : State) (ls : List LineNo) : (u.setWaitList ls).call k = u.call k := rfl
  unfold State.joinWaitList
  rw [same]; simp only [State.call, State.setCtl_line]; split
  · next e => subst e; rfl
  · rfl

/-- The line is in a call whose promotion settles: under RESERVE it waits for its promotion (R27). -/
def State.joins (s : State) (l : LineNo) : Bool := (s.call l).isSome && (s.ctl l).promotion.isSettling

/-- A line's control state on entering RESERVE (R27). -/
def State.reserved (s : State) (l : LineNo) : LineCtl :=
  if s.call l = none then
    { s.ctl l with power := if (s.ctl l).power = .ready then .sense else (s.ctl l).power, promotion := .none }
  else if (s.ctl l).promotion.isSettling then { s.ctl l with promotion := .waiting } else s.ctl l

theorem State.reserveLine_ctl_same : (s.reserveLine l).ctl l = s.reserved l := by
  unfold State.reserveLine State.reserved
  cases s.call l with
  | none => simpa using s.stepDown_ctl_same l
  | some c =>
    simp only [reduceCtorEq, if_false]; split
    · exact s.joinWaitList_ctl_same l
    · rfl

theorem State.reserveLine_keptBut : CtlsKeptBut l s (s.reserveLine l) := by
  unfold State.reserveLine; split
  · exact s.stepDown_keptBut l
  · split
    · exact s.joinWaitList_keptBut l
    · exact .refl l s

@[simp] theorem State.reserveLine_call (k : LineNo) : (s.reserveLine l).call k = s.call k := by
  unfold State.reserveLine; split
  · simp
  · split <;> simp

theorem State.reserveLine_waitList (fresh : l ∉ s.waitList) :
    (s.reserveLine l).waitList = s.waitList ++ [l].filter s.joins := by
  have unchanged : s.waitList.filter (· ≠ l) = s.waitList :=
    List.filter_eq_self.2 fun k hk => decide_eq_true fun e => fresh (e ▸ hk)
  unfold State.reserveLine; split
  · next none => rw [State.stepDown_waitList, unchanged]; simp [State.joins, none]
  · next some =>
    cases settles : (s.ctl l).promotion.isSettling with
    | true => simp [State.joins, some, settles, State.joinWaitList]
    | false => simp [State.joins, some, settles]

/-- A line's control state on the return to NORMAL (R29). -/
def State.normalised (s : State) (l : LineNo) : LineCtl :=
  if (s.ctl l).power = .sense ∧ (s.ctl l).promotion.isSettling = false then
    { s.ctl l with promotion := .settling (s.now + 200) }
  else s.ctl l

theorem State.normalLine_ctl_same : (s.normalLine l).ctl l = s.normalised l := by
  unfold State.normalLine State.normalised; split
  · exact State.setCtl_ctl_same s l _
  · rfl

theorem State.normalLine_keptBut : CtlsKeptBut l s (s.normalLine l) := by
  unfold State.normalLine; split
  · exact s.startPromotion_keptBut l
  · exact .refl l s

/-- What the lines' power leaves alone. -/
def State.unpowered (s : State) : Queue × Work × Link × Dispatcher × Nat := (s.queue, s.work, s.link, s.dispatcher, s.now)

@[simp] theorem State.startNext_unpowered : s.startNext.unpowered = s.unpowered := by
  unfold State.startNext; split
  · rfl
  · split <;> rfl

@[simp] theorem State.stepDown_unpowered : (s.stepDown l).unpowered = s.unpowered := by
  unfold State.stepDown; dsimp only; split <;> rfl

@[simp] theorem State.reserveLine_unpowered : (s.reserveLine l).unpowered = s.unpowered := by
  unfold State.reserveLine; split
  · simp
  · split <;> rfl

@[simp] theorem State.normalLine_unpowered : (s.normalLine l).unpowered = s.unpowered := by
  unfold State.normalLine; split <;> rfl

end line

/-! ### Every line -/

section lines
variable (s : State)

theorem State.reserve_ctl (l : LineNo) : (allLines.foldl State.reserveLine s).ctl l = s.reserved l :=
  foldl_allLines_ctl State.reserveLine_ctl_same State.reserveLine_keptBut
    (fun u a k n => by simp only [State.reserved, State.reserveLine_call, u.reserveLine_keptBut a k n]) s l

theorem State.reserve_waitList (ls : List LineNo) (nodup : ls.Nodup) (fresh : ∀ l ∈ ls, l ∉ s.waitList) :
    (ls.foldl State.reserveLine s).waitList = s.waitList ++ ls.filter s.joins := by
  induction ls generalizing s with
  | nil => simp
  | cons a ls ih =>
    obtain ⟨new, rest⟩ := List.nodup_cons.1 nodup
    have first := s.reserveLine_waitList a (fresh a (by simp))
    have joins : ls.filter (s.reserveLine a).joins = ls.filter s.joins := by
      refine List.filter_congr fun l hl => ?_
      simp only [State.joins, State.reserveLine_call, s.reserveLine_keptBut a l fun e => new (e ▸ hl)]
    have fresh' : ∀ l ∈ ls, l ∉ (s.reserveLine a).waitList := by
      intro l hl mem
      rw [first, List.mem_append, List.mem_filter, List.mem_singleton] at mem
      rcases mem with old | ⟨e, -⟩
      · exact fresh l (List.mem_cons_of_mem a hl) old
      · exact new (e ▸ hl)
    rw [List.foldl_cons, ih _ rest fresh', first, joins, List.append_assoc, ← List.filter_append]; rfl

theorem State.normal_ctl (l : LineNo) : (allLines.foldl State.normalLine s).ctl l = s.normalised l :=
  foldl_allLines_ctl State.normalLine_ctl_same State.normalLine_keptBut
    (fun u a k n => by
      have now : (u.normalLine a).now = u.now := congrArg (fun x => x.2.2.2.2) (u.normalLine_unpowered a)
      simp only [State.normalised, u.normalLine_keptBut a k n, now]) s l

/-- With no line READY or settling, the first line that waits starts its promotion and the rest wait on (R28). -/
theorem State.startNext_free (free : s.powerTaken = false) :
    s.startNext.waitList = s.waitList.tail ∧
      ∀ l, s.startNext.ctl l =
        if s.waitList.head? = some l then { s.ctl l with promotion := .settling (s.now + 200) } else s.ctl l := by
  cases list : s.waitList with
  | nil => rw [s.startNext_none list]; exact ⟨list, fun l => by simp⟩
  | cons a rest =>
    rw [s.startNext_head free list]
    refine ⟨rfl, fun l => (State.setCtl_ctl _ a l _).trans ?_⟩
    simp only [List.head?_cons, Option.some.injEq]; split
    · next e => subst e; rfl
    · rfl

end lines

end Sys2Proof.Machine
end

section
/-! The hand-back of a line behind a CLOSED gate, and power shared under RESERVE (O18). -/

namespace Sys2Proof.Machine

/-! ### Operations behind a CLOSED gate -/

section closed
variable {s t : State}

theorem State.Closed.of_rested (rested : s.Rested) (gate : s.dispatcher.gateOpen = false) : s.Closed := by
  have work : s.work = Work.idle := rested
  exact ⟨gate, by rw [work]; rfl, by rw [work]; rfl⟩

theorem State.Closed.of_unpowered (h : s.Closed) (same : t.unpowered = s.unpowered) : t.Closed := by
  simp only [State.unpowered, Prod.mk.injEq] at same
  obtain ⟨-, work, -, dispatcher, -⟩ := same
  simpa only [State.Closed, work, dispatcher] using h

theorem State.Closed.setLine (h : s.Closed) (l : LineNo) (x : Line) : (s.setLine l x).Closed := h
theorem State.Closed.setCtl (h : s.Closed) (l : LineNo) (x : LineCtl) : (s.setCtl l x).Closed := h
theorem State.Closed.setCall (h : s.Closed) (l : LineNo) (x : Option Call) : (s.setCall l x).Closed := h
theorem State.Closed.setRx (h : s.Closed) (e : RxNo) (x : RxStatus) : (s.setRx e x).Closed := h
theorem State.Closed.setWaitList (h : s.Closed) (ls : List LineNo) : (s.setWaitList ls).Closed := h
theorem State.Closed.tell (h : s.Closed) : s.tell.Closed := h

theorem State.Closed.notice (h : s.Closed) (n : Notice) : (s.notice n).Closed :=
  h.of_still (by simp) (by simp) (by simp)

theorem State.Closed.recompute (h : s.Closed) (l : LineNo) : (s.recompute l).Closed := by
  unfold State.recompute; dsimp only; split
  · exact h
  · exact ((h.setCtl l _).notice _).tell

theorem State.Closed.lineResult (h : s.Closed) (l : LineNo) (p : Purpose) (x : Option CallResult) :
    (s.lineResult l p x).Closed := by
  have failed : (s.countNoTone l).Closed := by
    unfold State.countNoTone; dsimp only; split
    · exact h
    · split
      · exact h.setCtl l _
      · exact (((h.setCtl l _).notice _).tell.report (by simp [partReport])).faultActive _ _
  have probed : (s.probeResult l x).Closed := by
    unfold State.probeResult; split
    · exact (((h.setCtl l _).notice _).tell.report (by simp [partReport])).faultCleared _ _
    · exact h.setCtl l _
  unfold State.lineResult; split
  · exact probed
  · split
    · exact failed
    · exact h

theorem State.Closed.yieldPower (h : s.Closed) (l : LineNo) : (s.yieldPower l).Closed := by
  unfold State.yieldPower; split
  · exact h.of_unpowered (by simp)
  · exact h

theorem State.Closed.lineOff (h : s.Closed) (l : LineNo) : (s.lineOff l).Closed := by
  unfold State.lineOff; dsimp only
  refine (State.Closed.faultCleared (State.Closed.recompute ?_ l) _ _).faultCleared _ _
  exact h

theorem State.Closed.vacated (h : s.Closed) (l : LineNo) : (s.vacated l).Closed := by
  unfold State.vacated; split
  · exact (h.lineOff l).tell
  · split
    · exact ((h.setCtl l _).recompute l).tell
    · exact (h.recompute l).tell

theorem State.Closed.handBack (h : s.Closed) (l : LineNo) (p : Purpose) (x : Option CallResult) :
    (s.handBack l p x).Closed := by
  have taken : (s.takenBack l p x).Closed := (h.lineResult l p x).setCall l none
  exact (taken.yieldPower l).vacated l

@[simp] theorem State.reexamineOne_exitDue (s : State) (k : Nat) : (s.reexamineOne k).work.exitDue = s.work.exitDue := by
  unfold State.reexamineOne; split
  · rfl
  · split <;> simp

@[simp] theorem State.reexamine_exitDue (s : State) : s.reexamine.work.exitDue = s.work.exitDue :=
  foldl_view (fun u => u.work.exitDue) _ State.reexamineOne_exitDue _ s

theorem State.Closed.receiverResult (h : s.Closed) (e : RxNo) (x : Option CallResult) : (s.receiverResult e x).Closed := by
  unfold State.receiverResult; split
  · split
    · dsimp only; split
      · exact (State.Closed.of_still (h.setRx e _) (by simp) (by simp) (fireDue_of_aside (State.reexamine_aside _))).tell
      · exact h.setRx e _
    · exact (h.setRx e _).tell
  · exact (h.setRx e _).tell

/-- The notice of a call's end (R128). -/
def State.endNoticed (s : State) (l : LineNo) (c : Call) (x : Option CallResult) : State :=
  match x with
  | some res => s.notice (.callEnd l c.receiver res c.blocksAccepted)
  | none => s

theorem State.endContext_eq (s : State) (l : LineNo) (c : Call) (x : Option CallResult) :
    s.endContext l c x =
      match c.receiver with
      | some e => ((s.endNoticed l c x).handBack l c.purpose x).receiverResult e x
      | none => (s.endNoticed l c x).handBack l c.purpose x := by
  unfold State.endContext State.endNoticed
  cases x <;> rfl

theorem State.endNoticed_calm (s : State) (l : LineNo) (c : Call) (x : Option CallResult) :
    (s.endNoticed l c x).calm = s.calm := by
  cases x <;> simp [State.endNoticed]

theorem State.Closed.endContext (h : s.Closed) (l : LineNo) (c : Call) (x : Option CallResult) :
    (s.endContext l c x).Closed := by
  have noticed : (s.endNoticed l c x).Closed := by
    cases x with
    | none => exact h
    | some res => exact h.notice _
  have back := noticed.handBack l c.purpose x
  rw [State.endContext_eq]; split
  · exact back.receiverResult _ x
  · exact back

end closed

/-! ### The power of a line handed back under RESERVE (R28, R32) -/

/-- What a call's result leaves of a Line Controller. -/
def LineCtl.supplied (x : LineCtl) : Power × Promotion × Lend × Bool := (x.power, x.promotion, x.lend, x.disablePending)

section yield
variable (s : State) (l : LineNo)

theorem State.setCtl_supplied (x : LineCtl) (h : x.supplied = (s.ctl l).supplied) :
    ((s.setCtl l x).ctl l).supplied = (s.ctl l).supplied ∧ (s.setCtl l x).waitList = s.waitList :=
  ⟨by rw [State.setCtl_ctl_same, h], rfl⟩

/-- A result changes faults, tone count and probe timer of its line (R22, R23). -/
theorem State.lineResult_supplied (p : Purpose) (x : Option CallResult) :
    ((s.lineResult l p x).ctl l).supplied = (s.ctl l).supplied ∧ (s.lineResult l p x).waitList = s.waitList := by
  have told {u v : State} (calm : v.calm = u.calm) (h : (u.ctl l).supplied = (s.ctl l).supplied ∧ u.waitList = s.waitList) :
      (v.ctl l).supplied = (s.ctl l).supplied ∧ v.waitList = s.waitList := by
    rw [ctl_of_calm calm, waitList_of_calm calm]; exact h
  unfold State.lineResult; split
  · unfold State.probeResult; split
    · exact told (by simp [State.lineNotice]) (s.setCtl_supplied l { s.ctl l with fault := .none, probeTimer := none } rfl)
    · exact s.setCtl_supplied l _ rfl
  · split
    · unfold State.countNoTone; dsimp only; split
      · exact ⟨rfl, rfl⟩
      · split
        · exact s.setCtl_supplied l _ rfl
        · exact told (by simp [State.lineNotice])
            (s.setCtl_supplied l
              { s.ctl l with noTone := 3, fault := .noTone, probeTimer := some (s.now + probePeriod) } rfl)
    · exact ⟨rfl, rfl⟩

theorem State.takenBack_supplied (p : Purpose) (x : Option CallResult) :
    ((s.takenBack l p x).ctl l).supplied = (s.ctl l).supplied ∧ (s.takenBack l p x).waitList = s.waitList := by
  obtain ⟨supplied, waitList⟩ := s.lineResult_supplied l p x
  refine ⟨?_, waitList⟩
  unfold State.takenBack; dsimp only
  rw [State.setCtl_ctl_same, State.setCall_ctl]; exact supplied

@[simp] theorem State.recompute_waitList : (s.recompute l).waitList = s.waitList := by
  unfold State.recompute; dsimp only; split
  · rfl
  · simp [State.lineNotice]

/-- Behind the power the hand-back changes no power and no promotion of a line that stays enabled. -/
theorem State.vacated_supply (h : (s.ctl l).disablePending = false) :
    ((s.vacated l).ctl l).power = (s.ctl l).power ∧ ((s.vacated l).ctl l).promotion = (s.ctl l).promotion ∧
      (s.vacated l).waitList = s.waitList := by
  have same (u : State) : u.tell.ctl l = u.ctl l ∧ u.tell.waitList = u.waitList := ⟨rfl, rfl⟩
  unfold State.vacated
  rw [if_neg (by simp [h])]; split
  · rw [(same _).1, (same _).2]
    simp [State.beginLend]
  · rw [(same _).1, (same _).2]
    simp

theorem State.endNoticed_now (c : Call) (x : Option CallResult) : (s.endNoticed l c x).now = s.now := by
  cases x <;> simp [State.endNoticed]

end yield

end Sys2Proof.Machine
end

section
/-! Power shared under RESERVE (O18): the supply's change, the probe that needs READY, and the power of a line whose call ends. -/

namespace Sys2Proof.Machine

/-! ### Entering RESERVE (R27, R28) -/

section reserve
variable (s : State)

theorem State.reserved_power (l : LineNo) :
    (s.reserved l).power = if s.call l = none ∧ (s.ctl l).power = .ready then .sense else (s.ctl l).power := by
  unfold State.reserved; split
  · next none => simp [none]
  · next called =>
    simp only [called, false_and, if_false]
    split <;> rfl

theorem State.reserved_promotion (l : LineNo) :
    (s.reserved l).promotion =
      if s.call l = none then .none else if s.joins l = true then .waiting else (s.ctl l).promotion := by
  unfold State.reserved; split
  · rfl
  · next called =>
    have some : (s.call l).isSome = true := Option.isSome_iff_ne_none.2 called
    simp only [State.joins, some, Bool.true_and]
    split <;> rfl

theorem State.joins_iff (l : LineNo) :
    s.joins l = true ↔ s.call l ≠ none ∧ ∃ e, (s.ctl l).promotion = .settling e := by
  simp [State.joins, Promotion.isSettling_iff, Option.isSome_iff_ne_none]

/-- Once every line has been dealt with, power is taken by a READY line in a call alone. -/
theorem State.reserve_powerTaken :
    (allLines.foldl State.reserveLine s).powerTaken = true ↔ ∃ l, s.call l ≠ none ∧ (s.ctl l).power = .ready := by
  rw [State.powerTaken_iff]
  refine exists_congr fun l => ?_
  rw [State.reserve_ctl, State.reserved_power, State.reserved_promotion]
  have settled : ¬∃ e, (if s.call l = none then Promotion.none else if s.joins l = true then .waiting
      else (s.ctl l).promotion) = .settling e := by
    rintro ⟨e, h⟩
    split at h
    · cases h
    · next called =>
      split at h
      · cases h
      · next stays => exact stays ((s.joins_iff l).2 ⟨called, e, h⟩)
  simp only [settled, or_false]
  by_cases called : s.call l = none
  · simp only [called, true_and, ne_eq, not_true_eq_false, false_and, iff_false]
    split
    · simp
    · next power => exact power
  · simp [called]

/-- The lines in calls whose promotion settles, in number order. -/
def State.joined (s : State) : List LineNo := allLines.filter s.joins

theorem State.joined_mem (l : LineNo) : l ∈ s.joined ↔ s.call l ≠ none ∧ ∃ e, (s.ctl l).promotion = .settling e := by
  rw [State.joined, List.mem_filter, State.joins_iff]
  simp [mem_allLines]

theorem State.joined_pairwise : s.joined.Pairwise (· < ·) := List.Pairwise.filter _ (by decide)

/-- Every line dealt with, and the first that waits started where none is READY. -/
def State.reservedLines (s : State) : State := (allLines.foldl State.reserveLine (s.setSupply .reserve)).startNext

theorem State.reservedLines_unpowered : s.reservedLines.unpowered = s.unpowered := by
  rw [State.reservedLines, State.startNext_unpowered,
    foldl_view State.unpowered State.reserveLine fun u a => u.reserveLine_unpowered a]
  rfl

/-- The lines on entering RESERVE while a line in a call is READY. -/
theorem State.reservedLines_taken (list : s.waitList = []) (ready : ∃ l, s.call l ≠ none ∧ (s.ctl l).power = .ready) :
    s.reservedLines.waitList = s.joined ∧ ∀ l, s.reservedLines.ctl l = s.reserved l := by
  have taken := ((s.setSupply .reserve).reserve_powerTaken).2 ready
  rw [State.reservedLines, State.startNext_taken _ taken]
  refine ⟨?_, (s.setSupply .reserve).reserve_ctl⟩
  rw [State.reserve_waitList _ allLines allLines_nodup (by simp [list]), State.setSupply_waitList, list]; rfl

/-- The lines on entering RESERVE while no line in a call is READY. -/
theorem State.reservedLines_free (list : s.waitList = []) (free : ¬∃ l, s.call l ≠ none ∧ (s.ctl l).power = .ready) :
    s.reservedLines.waitList = s.joined.tail ∧
      ∀ l, s.reservedLines.ctl l =
        if s.joined.head? = some l then { s.reserved l with promotion := .settling (s.now + 200) } else s.reserved l := by
  have untaken : (allLines.foldl State.reserveLine (s.setSupply .reserve)).powerTaken = false :=
    Bool.eq_false_iff.2 fun taken => free (((s.setSupply .reserve).reserve_powerTaken).1 taken)
  have waitList : (allLines.foldl State.reserveLine (s.setSupply .reserve)).waitList = s.joined := by
    rw [State.reserve_waitList _ allLines allLines_nodup (by simp [list]), State.setSupply_waitList, list]; rfl
  have now : (allLines.foldl State.reserveLine (s.setSupply .reserve)).now = s.now :=
    congrArg (fun x => x.2.2.2.2)
      (foldl_view State.unpowered State.reserveLine (fun u a => u.reserveLine_unpowered a) allLines (s.setSupply .reserve))
  obtain ⟨tail, ctl⟩ := State.startNext_free _ untaken
  rw [waitList] at tail ctl
  refine ⟨tail, fun l => (ctl l).trans ?_⟩
  rw [State.reserve_ctl, now]; rfl

end reserve

/-! ### The supply changes (R26 to R29) -/

section supply
variable {t e : Nat} {s : State}

/-- What is reported of a supply change stands behind it, and the gate's being CLOSED lets nothing else happen. -/
theorem State.Closed.told (h : s.Closed) {rep : Report} (cls : rep.cls ≠ .fire) {u : State}
    (told : u = (s.report rep).faultActive .supplyReserve 0 ∨ u = (s.report rep).faultCleared .supplyReserve 0) :
    Stands u u.settle ∧ u.calm = s.calm ∧ u.reports = (s.report rep).reports := by
  have reported := h.report cls
  rcases told with rfl | rfl
  · exact ⟨(reported.faultActive _ _).settle, by simp, reports_of_roster (by simp)⟩
  · exact ⟨(reported.faultCleared _ _).settle, by simp, reports_of_roster (by simp)⟩

theorem State.queue_of_unpowered {s t : State} (h : t.unpowered = s.unpowered) : t.queue = s.queue := congrArg Prod.fst h

/-- RESERVE entered (R26, R27, R28). -/
theorem reserve_entered (closed : s.Closed) (list : s.waitList = []) :
    let u := s.enterReserve.settle
    (∀ l, (u.ctl l).power = if s.call l = none ∧ (s.ctl l).power = .ready then .sense else (s.ctl l).power) ∧
      (∀ l, s.call l = none → (u.ctl l).promotion = .none) ∧
      (∀ l, s.call l ≠ none → l ∉ s.joined → (u.ctl l).promotion = (s.ctl l).promotion) ∧
      ((∃ l, s.call l ≠ none ∧ (s.ctl l).power = .ready) →
        u.waitList = s.joined ∧ ∀ l ∈ s.joined, (u.ctl l).promotion = .waiting) ∧
      ((∀ l, s.call l ≠ none → (s.ctl l).power ≠ .ready) →
        u.waitList = s.joined.tail ∧ (∀ l ∈ s.joined.tail, (u.ctl l).promotion = .waiting) ∧
          ∀ l, s.joined.head? = some l → (u.ctl l).promotion = .settling (s.now + 200)) := by
  have closed' := closed.of_unpowered s.reservedLines_unpowered
  obtain ⟨stands, calm, -⟩ := closed'.told (rep := partReport .trouble .new 903 0) (by simp [partReport])
    (u := s.enterReserve) (.inl rfl)
  have ctl (l) : s.enterReserve.settle.ctl l = s.reservedLines.ctl l := (stands.ctl l).trans (ctl_of_calm calm l)
  have waitList : s.enterReserve.settle.waitList = s.reservedLines.waitList :=
    stands.waitList.trans (waitList_of_calm calm)
  have promotion := s.reserved_promotion
  have outside (l) (h : s.call l = none ∨ l ∉ s.joined) : (s.reserved l).promotion =
      if s.call l = none then .none else (s.ctl l).promotion := by
    rw [promotion]; split
    · rfl
    · next called =>
      rcases h with none | out
      · exact absurd none called
      · rw [if_neg fun joins => out (List.mem_filter.2 ⟨mem_allLines l, joins⟩)]
  have inside (l) (h : l ∈ s.joined) : (s.reserved l).promotion = .waiting := by
    have joins := (List.mem_filter.1 h).2
    rw [promotion, if_neg ((s.joins_iff l).1 joins).1, if_pos joins]
  simp only [ctl, waitList]
  by_cases ready : ∃ l, s.call l ≠ none ∧ (s.ctl l).power = .ready
  · obtain ⟨whole, reserved⟩ := s.reservedLines_taken list ready
    simp only [whole, reserved]
    refine ⟨s.reserved_power, fun l none => ?_, fun l called out => ?_, fun _ => ⟨trivial, inside⟩, fun free => ?_⟩
    · rw [outside l (.inl none), if_pos none]
    · rw [outside l (.inr out), if_neg called]
    · obtain ⟨l, called, power⟩ := ready
      exact absurd power (free l called)
  · obtain ⟨tail, reserved⟩ := s.reservedLines_free list ready
    have head {l} (h : s.joined.head? = some l) : l ∈ s.joined := List.mem_of_mem_head? h
    have later {l} (h : l ∈ s.joined.tail) : l ∈ s.joined ∧ s.joined.head? ≠ some l := by
      refine ⟨List.mem_of_mem_tail h, fun first => ?_⟩
      have order := s.joined_pairwise
      rw [← List.cons_head?_tail (Option.mem_def.2 first)] at order
      exact absurd ((List.pairwise_cons.1 order).1 l h) (lt_irrefl l)
    simp only [tail, reserved]
    refine ⟨fun l => ?_, fun l none => ?_, fun l called out => ?_, fun taken => absurd taken ready,
      fun _ => ⟨trivial, fun l h => ?_, fun l h => ?_⟩⟩
    · rw [← s.reserved_power]; split <;> rfl
    · rw [if_neg fun h => ((s.joined_mem l).1 (head h)).1 none, outside l (.inl none), if_pos none]
    · rw [if_neg fun h => out (head h), outside l (.inr out), if_neg called]
    · rw [if_neg (later h).2, inside l (later h).1]
    · rw [if_pos h]

/-- Every line dealt with on the return to NORMAL. -/
def State.normalLines (s : State) : State := allLines.foldl State.normalLine ((s.setSupply .normal).setWaitList [])

theorem State.normalLines_unpowered (s : State) : s.normalLines.unpowered = s.unpowered := by
  rw [State.normalLines, foldl_view State.unpowered State.normalLine fun u a => u.normalLine_unpowered a]
  rfl

theorem State.normalised_power (l : LineNo) : (s.normalised l).power = (s.ctl l).power := by
  unfold State.normalised; split <;> rfl

theorem State.normalised_starts {l : LineNo} (sense : (s.ctl l).power = .sense)
    (still : ¬∃ e, (s.ctl l).promotion = .settling e) : (s.normalised l).promotion = .settling (s.now + 200) := by
  rw [← Promotion.isSettling_iff, Bool.not_eq_true] at still
  simp [State.normalised, sense, still]

theorem State.normalised_stays {l : LineNo}
    (h : (s.ctl l).power ≠ .sense ∨ ∃ e, (s.ctl l).promotion = .settling e) :
    (s.normalised l).promotion = (s.ctl l).promotion := by
  rw [← Promotion.isSettling_iff] at h
  unfold State.normalised
  rw [if_neg fun starts => h.elim (fun n => n starts.1) fun settles => by simp [starts.2] at settles]

/-- NORMAL again (R26, R29). -/
theorem normal_returned (closed : s.Closed) (l : LineNo) : s.returnToNormal.settle.ctl l = s.normalised l := by
  have closed' := closed.of_unpowered s.normalLines_unpowered
  obtain ⟨stands, calm, -⟩ := closed'.told (rep := partReport .trouble .restore 903 0) (by simp [partReport])
    (u := s.returnToNormal) (.inr rfl)
  exact ((stands.ctl l).trans (ctl_of_calm calm l)).trans (State.normal_ctl _ l)

end supply

/-! ### A call that needs READY under RESERVE (R28, R105) -/

section need
variable {s : State} {l : LineNo}

theorem State.powerTaken_congr {t : State} (power : ∀ k, (t.ctl k).power = (s.ctl k).power)
    (promotion : ∀ k, (t.ctl k).promotion = (s.ctl k).promotion) : t.powerTaken = s.powerTaken := by
  simp only [State.powerTaken, power, promotion]

theorem State.needReady_taken (reserve : s.supply = .reserve) (taken : s.powerTaken = true) :
    s.needReady l = s.joinWaitList l := by
  simp [State.needReady, reserve, taken]

theorem State.needReady_free (reserve : s.supply = .reserve) (free : s.powerTaken = false) :
    s.needReady l = s.startPromotion l := by
  simp [State.needReady, reserve, free]

theorem State.needReady_waitList : ∃ rest, (s.needReady l).waitList = s.waitList ++ rest := by
  have waits : (s.joinWaitList l).waitList = s.waitList ++ [l] := rfl
  unfold State.needReady; split
  · split
    · exact ⟨[], by simp⟩
    · exact ⟨[], by simp [State.startPromotion]⟩
  · split
    · exact ⟨[l], waits⟩
    · exact ⟨[], by simp [State.startPromotion]⟩

@[simp] theorem State.takeLine_waitList : (s.takeLine l).waitList = s.waitList := by
  unfold State.takeLine; dsimp only; split <;> rfl

theorem State.startCall_waitList {c : Call} (h : c.lendPending = false) :
    ∃ rest, (s.startCall l c).waitList = s.waitList ++ rest := by
  by_cases g : (s.ctl l).power = .ready
  · rw [s.startCall_takes l h g]; exact ⟨[], by simp⟩
  · rw [s.startCall_needs l h g]; exact State.needReady_waitList

theorem State.startCall_lend {c : Call} (h : c.lendPending = false) :
    ((s.startCall l c).ctl l).lend = (s.ctl l).lend := by
  by_cases g : (s.ctl l).power = .ready
  · rw [s.startCall_takes l h g]; simp
  · rw [s.startCall_needs l h g]
    have kept := (parked_ctl (State.needReady_parked (s.setCall l (some c)) l l)).2
    exact kept.trans (congrArg LineCtl.lend (s.setCall_ctl l (some c) l))

/-- No line is lent, the line is in CALL with its promotion as it is, and the waiting list has grown at its end at most. -/
def State.Waits (l : LineNo) (p : Promotion) (list : List LineNo) (s : State) : Prop :=
  (∀ k, (s.ctl k).lend = .none) ∧ (s.ctl l).occupancy = .call ∧ (s.ctl l).promotion = p ∧
    ∃ rest, s.waitList = list ++ rest

/-- With no line lent, a call that begins on another line leaves the promotion of a line in CALL alone. -/
theorem State.Waits.beginCall {p : Promotion} {list : List LineNo} {k : LineNo} (h : s.Waits l p list) (n : l ≠ k)
    (b : Bool) (e : RxNo) : (s.beginCall k b e).Waits l p list := by
  obtain ⟨lends, occupancy, promotion, rest, waitList⟩ := h
  have free : (Call.create .report (some e) ((s.ctl k).lend == .pending)).lendPending = false := by
    simp [Call.create, lends k]
  have granted : CtlsKeptBut k s ((s.grant k b).setRx e { s.rx e with state := .calling }) :=
    (s.grant_keptBut k b).trans (.of_lines rfl)
  have kept : CtlsKeptBut k s (s.beginCall k b e) := granted.trans (State.startCall_keptBut _ k free)
  have lend : ((s.beginCall k b e).ctl k).lend = .none :=
    (State.startCall_lend free).trans ((s.grant_lend k b).trans (lends k))
  have before : ((s.grant k b).setRx e { s.rx e with state := .calling }).waitList = s.waitList := by
    simp [State.grant]
  obtain ⟨more, grown⟩ := State.startCall_waitList (s := (s.grant k b).setRx e { s.rx e with state := .calling })
    (l := k) free
  refine ⟨fun m => ?_, by rw [kept l n]; exact occupancy, by rw [kept l n]; exact promotion, rest ++ more, ?_⟩
  · by_cases same : m = k
    · subst same; exact lend
    · rw [kept m same]; exact lends m
  · rw [State.beginCall, grown, before, waitList, List.append_assoc]

theorem waits_kept (l : LineNo) (p : Promotion) (list : List LineNo) : ActsKeep (State.Waits l p list) where
  quiet q h := by
    obtain ⟨lends, occupancy, promotion, rest, waitList⟩ := h
    have ctl := State.ctl_congr q.1
    simp only [State.Waits, ctl]
    exact ⟨lends, occupancy, promotion, rest, q.2.2.1.trans waitList⟩
  begins {s k b e} found _ h := by
    refine h.beginCall (fun same => ?_) b e
    subst same
    obtain ⟨-, occupancy, -, -⟩ := h
    rcases s.searchLine_occupancy b found with free | tenant
    · rw [free] at occupancy; cases occupancy
    · rw [tenant] at occupancy; cases occupancy
  reclaims {s k} lent h := by
    rw [h.1 k] at lent; cases lent

end need

end Sys2Proof.Machine
end

section
/-! Power shared under RESERVE (O18): the three clauses and the statement. -/

namespace Sys2Proof.Machine

/-! ### The supply's change reported (R26) -/

section reported
variable {s : State}

theorem enterReserve_reports (closed : s.Closed) :
    ⟨.supplyReserve, 0, true⟩ ∈ s.enterReserve.settle.link.faults ∧
      (s.joinable (trouble .new 903 0) = none → s.ordinaryCount < 32 →
        s.enterReserve.settle.reports = s.reports ++ [(s.ticketToGive, trouble .new 903 0)]) := by
  obtain ⟨stands, -, reports⟩ := (closed.of_unpowered s.reservedLines_unpowered).told
    (rep := partReport .trouble .new 903 0) (by simp [partReport]) (u := s.enterReserve) (.inl rfl)
  have active : ⟨.supplyReserve, 0, true⟩ ∈ s.enterReserve.link.faults := by
    unfold State.enterReserve; dsimp only; exact State.faultActive_mem _ _ _
  refine ⟨(stands.faults (e := ⟨.supplyReserve, 0, true⟩) rfl).2 active, fun none room => ?_⟩
  rw [stands.reports, reports]
  exact State.report_reports (State.queue_of_unpowered s.reservedLines_unpowered) none room

theorem returnToNormal_reports (closed : s.Closed) :
    (s.FaultsKept → ⟨.supplyReserve, 0, true⟩ ∉ s.returnToNormal.settle.link.faults) ∧
      (s.joinable (trouble .restore 903 0) = none → s.ordinaryCount < 32 →
        s.returnToNormal.settle.reports = s.reports ++ [(s.ticketToGive, trouble .restore 903 0)]) := by
  obtain ⟨stands, -, reports⟩ := (closed.of_unpowered s.normalLines_unpowered).told
    (rep := partReport .trouble .restore 903 0) (by simp [partReport]) (u := s.returnToNormal) (.inr rfl)
  refine ⟨fun kept mem => ?_, fun none room => ?_⟩
  · have work : Works False ((s.setSupply .normal).setWaitList [])
        (s.normalLines.report (partReport .trouble .restore 903 0)) :=
      (Works.refl.foldl allLines fun _ k => Works.refl.normalLine k).report _
    have inactive : ⟨.supplyReserve, 0, true⟩ ∉ s.returnToNormal.link.faults := by
      unfold State.returnToNormal; dsimp only; exact State.faultCleared_not_mem _ _ _ (work.faultsKept kept)
    exact inactive ((stands.faults (e := ⟨.supplyReserve, 0, true⟩) rfl).1 mem)
  · rw [stands.reports, reports]
    exact State.report_reports (State.queue_of_unpowered s.normalLines_unpowered) none room

end reported

/-! ### The probe that needs READY (R28, R105) -/

section probe
variable {s : State} {l : LineNo} (reserve : s.supply = .reserve) (sense : (s.ctl l).power = .sense)
  (usable : s.usable l = true) (lends : ∀ k, (s.ctl k).lend = .none)
include reserve sense usable lends

/-- Under RESERVE a probe's line in SENSE starts its promotion or waits for it, as the power is free or taken. -/
theorem State.startProbe_waits :
    (s.powerTaken = false → (s.startProbe l).Waits l (.settling (s.now + 200)) s.waitList) ∧
      (s.powerTaken = true → (s.startProbe l).Waits l .waiting (s.waitList ++ [l])) := by
  have granted := State.probeGranted_ctl usable (lends l)
  have ctl := State.setCall_ctl (s.probeGranted l) l (some (Call.create .probe none false))
  have others : CtlsKeptBut l s ((s.probeGranted l).setCall l (some (Call.create .probe none false))) := fun k n =>
    (ctl k).trans (s.probeGranted_keptBut l k n)
  have needs : s.startProbe l = ((s.probeGranted l).setCall l (some (Call.create .probe none false))).needReady l := by
    rw [State.startProbe_eq, State.startCall_needs _ _ rfl]
    rw [granted]; simp [sense]
  have still : ((s.probeGranted l).setCall l (some (Call.create .probe none false))).still = s.still := by
    simp [State.probeGranted]
  have reserve' : ((s.probeGranted l).setCall l (some (Call.create .probe none false))).supply = .reserve :=
    (congrArg (fun x => x.base.supply) still).trans reserve
  have now : ((s.probeGranted l).setCall l (some (Call.create .probe none false))).now = s.now :=
    congrArg (fun x => x.base.now) still
  have waitList : ((s.probeGranted l).setCall l (some (Call.create .probe none false))).waitList = s.waitList := by
    simp [State.probeGranted]
  have own := (ctl l).trans granted
  have power : ((s.probeGranted l).setCall l (some (Call.create .probe none false))).powerTaken = s.powerTaken := by
    refine State.powerTaken_congr (fun k => ?_) fun k => ?_ <;>
    · by_cases n : k = l
      · subst n; rw [own]
      · rw [others k n]
  have lend (k : LineNo) : ((s.startProbe l).ctl k).lend = .none := by
    by_cases n : k = l
    · subst n
      obtain ⟨c, probed⟩ := State.startProbe_probed usable (lends k)
      exact probed.lend
    · rw [State.startProbe_eq, State.startCall_keptBut _ l rfl k n, s.probeGranted_keptBut l k n]
      exact lends k
  have occupancy : ((s.startProbe l).ctl l).occupancy = .call := by
    obtain ⟨c, probed⟩ := State.startProbe_probed usable (lends l)
    exact probed.occupancy
  refine ⟨fun free => ⟨lend, occupancy, ?_, [], ?_⟩, fun taken => ⟨lend, occupancy, ?_, [], ?_⟩⟩
  · rw [needs, State.needReady_free reserve' (power.trans free), State.startPromotion, State.setCtl_ctl_same, now]; rfl
  · rw [needs, State.needReady_free reserve' (power.trans free), List.append_nil]; exact waitList
  · rw [needs, State.needReady_taken reserve' (power.trans taken), State.joinWaitList_ctl_same]
  · rw [needs, State.needReady_taken reserve' (power.trans taken), List.append_nil]
    exact congrArg (fun x => x ++ [l]) waitList

end probe

/-! ### The power of a line whose call ends (R28, R32) -/

section shares
variable {s : State} {l : LineNo}

theorem State.yieldPower_reserve (reserve : s.supply = .reserve) : s.yieldPower l = (s.stepDown l).startNext := by
  simp [State.yieldPower, reserve]

/-- Once a line has stepped down, the power is taken by another line alone. -/
theorem State.stepDown_powerTaken : (s.stepDown l).powerTaken = true ↔ s.TakenBesides l := by
  have others := s.stepDown_keptBut l
  rw [State.powerTaken_iff]
  constructor
  · rintro ⟨k, taken⟩
    have n : k ≠ l := by
      rintro rfl
      rw [State.stepDown_ctl_same] at taken
      rcases taken with ready | ⟨e, settles⟩
      · dsimp only at ready; split at ready
        · cases ready
        · next n => exact n ready
      · cases settles
    rw [others k n] at taken
    exact ⟨k, n, taken⟩
  · rintro ⟨k, n, taken⟩
    exact ⟨k, by rw [others k n]; exact taken⟩

/-- What a hand-back under RESERVE does to the power of the lines and to the waiting list. -/
structure Shares (s t : State) (l : LineNo) : Prop where
  power : (t.ctl l).power = .sense
  promotion : (t.ctl l).promotion = .none
  taken : s.TakenBesides l → t.waitList = s.waitList.filter (· ≠ l) ∧
    ∀ k, k ≠ l → (t.ctl k).promotion = (s.ctl k).promotion
  free : ¬s.TakenBesides l → t.waitList = (s.waitList.filter (· ≠ l)).tail ∧
    ∀ k, k ≠ l → (t.ctl k).promotion =
      if (s.waitList.filter (· ≠ l)).head? = some k then .settling (s.now + 200) else (s.ctl k).promotion

theorem State.yieldPower_shares (reserve : s.supply = .reserve) (ready : (s.ctl l).power = .ready) :
    Shares s (s.yieldPower l) l := by
  have own := s.stepDown_ctl_same l
  rw [if_pos ready] at own
  have others := s.stepDown_keptBut l
  have waitList := s.stepDown_waitList l
  have now : (s.stepDown l).now = s.now := congrArg (fun x => x.2.2.2.2) (s.stepDown_unpowered l)
  have out : (s.waitList.filter (· ≠ l)).head? ≠ some l := fun h => by
    have := List.mem_filter.1 (List.mem_of_mem_head? (Option.mem_def.2 h))
    simp at this
  rw [State.yieldPower_reserve reserve]
  by_cases besides : s.TakenBesides l
  · rw [State.startNext_taken _ (State.stepDown_powerTaken.2 besides)]
    exact ⟨by rw [own], by rw [own], fun _ => ⟨waitList, fun k n => by rw [others k n]⟩, fun free => absurd besides free⟩
  · obtain ⟨tail, ctl⟩ := State.startNext_free (s.stepDown l)
      (Bool.eq_false_iff.2 fun taken => besides (State.stepDown_powerTaken.1 taken))
    rw [waitList] at tail ctl
    refine ⟨by rw [ctl, if_neg out, own], by rw [ctl, if_neg out, own], fun taken => absurd taken besides,
      fun _ => ⟨tail, fun k n => ?_⟩⟩
    rw [ctl, others k n, now]; split <;> rfl

theorem Shares.of_before {r t : State} (h : Shares s t l) (others : CtlsKeptBut l r s) (list : s.waitList = r.waitList)
    (now : s.now = r.now) : Shares r t l := by
  have besides : s.TakenBesides l ↔ r.TakenBesides l :=
    ⟨fun g => g.kept fun k n => (others k n).symm, fun g => g.kept others⟩
  obtain ⟨power, promotion, taken, free⟩ := h
  rw [besides, list] at taken free
  rw [now] at free
  refine ⟨power, promotion, fun g => ⟨(taken g).1, fun k n => ?_⟩, fun g => ⟨(free g).1, fun k n => ?_⟩⟩
  · rw [(taken g).2 k n, others k n]
  · rw [(free g).2 k n, others k n]

theorem Shares.of_after {t u : State} (h : Shares s t l) (power : (u.ctl l).power = (t.ctl l).power)
    (promotion : ∀ k, (u.ctl k).promotion = (t.ctl k).promotion) (list : u.waitList = t.waitList) : Shares s u l where
  power := power.trans h.power
  promotion := (promotion l).trans h.promotion
  taken g := ⟨list.trans (h.taken g).1, fun k n => (promotion k).trans ((h.taken g).2 k n)⟩
  free g := ⟨list.trans (h.free g).1, fun k n => (promotion k).trans ((h.free g).2 k n)⟩

/-- The hand-back of a READY line that stays enabled passes its power on (R32). -/
theorem State.handBack_shares (reserve : s.supply = .reserve) (ready : (s.ctl l).power = .ready)
    (enabled : (s.ctl l).disablePending = false) (p : Purpose) (x : Option CallResult) :
    Shares s (s.handBack l p x) l := by
  obtain ⟨supplied, list⟩ := s.takenBack_supplied l p x
  simp only [LineCtl.supplied, Prod.mk.injEq] at supplied
  obtain ⟨power, -, -, pending⟩ := supplied
  have still : (s.takenBack l p x).still = s.still := by simp [State.takenBack]
  have yields := State.yieldPower_shares (l := l) ((congrArg (fun x => x.base.supply) still).trans reserve)
    (power.trans ready)
  have enabled' : (((s.takenBack l p x).yieldPower l).ctl l).disablePending = false := by
    have sensed : ((s.takenBack l p x).yieldPower l).sensed = (s.takenBack l p x).sensed := by simp
    rw [disablePending_of_sensed (congrFun sensed l), pending]
    exact enabled
  obtain ⟨power', promotion', list'⟩ := State.vacated_supply _ l enabled'
  have shares := yields.of_before (State.takenBack_keptBut p x) list (congrArg (fun x => x.base.now) still)
  rw [State.handBack_eq]
  refine shares.of_after power' (fun k => ?_) list'
  by_cases n : k = l
  · subst n; exact promotion'
  · rw [State.vacated_keptBut k n]

theorem State.receiverResult_waitList (e : RxNo) (x : Option CallResult) :
    (s.receiverResult e x).waitList = s.waitList := by
  unfold State.receiverResult; split
  · split
    · dsimp only; split
      · exact (waitList_of_calm (State.reexamine_calm (s.setRx e (s.charged e))) :)
      · rfl
    · rfl
  · rfl

theorem State.endContext_shares (reserve : s.supply = .reserve) (ready : (s.ctl l).power = .ready)
    (enabled : (s.ctl l).disablePending = false) (c : Call) (x : Option CallResult) :
    Shares s (s.endContext l c x) l := by
  have calm := s.endNoticed_calm l c x
  have ctl := ctl_of_calm calm
  have supply : (s.endNoticed l c x).supply = .reserve :=
    (congrArg (fun y => y.still.base.supply) calm).trans reserve
  have back := State.handBack_shares (l := l) supply (by rw [ctl]; exact ready) (by rw [ctl]; exact enabled) c.purpose x
  have shares := back.of_before (fun k _ => ctl k) (waitList_of_calm calm) (s.endNoticed_now l c x)
  rw [State.endContext_eq]; split
  · exact shares.of_after (by rw [State.receiverResult_ctl]) (fun k => by rw [State.receiverResult_ctl])
      (State.receiverResult_waitList _ x)
  · exact shares

end shares

section guard
variable {t : Nat} {s : State} {l : LineNo} {c : Call}

theorem exec_releaseGuardEnd (ends : s.TimerEnds l c t) (released : c.state = .release) :
    exec (.releaseGuardEnd t l) s = .next ((s.advance t).endContext l c c.result).settle := by
  obtain ⟨call, e, timer, due⟩ := ends
  have passed : expired (some e) (max s.now t) = true := decide_eq_true due
  have call' : (s.advance t).call l = some c := call
  simp [exec, execReleaseGuardEnd, State.timedCall, call', released, timer, passed]

end guard

/-- Settles O18: the supply's change goes through the lines one by one, a probe's line keeps its place through the acts that follow, and a hand-back passes its power on. -/
theorem powerIsSharedUnderReserve : Obligations.PowerIsSharedUnderReserve := by
  refine ⟨fun t e s rested running timer due gate => ?_, fun t e l s rested reserve sense timer due free gate call usable
    lends => ?_, fun t l c s rested ends released reserve ready enabled gate => ?_⟩
  · have closed : (s.advance t).Closed := .of_rested rested gate
    refine ⟨fun normal list => ?_, fun reserve => ?_⟩
    · obtain ⟨fault, reports⟩ := enterReserve_reports closed
      obtain ⟨power, none, stays, taken, free⟩ := reserve_entered closed list
      exact ⟨_, s.joined, exec_supplyChange_normal t running timer due normal, List.Pairwise.imp (fun h => ne_of_lt h)
        s.joined_pairwise, s.joined_pairwise, s.joined_mem, power, none, stays, taken, free, fault, reports⟩
    · obtain ⟨fault, reports⟩ := returnToNormal_reports closed
      have ctl := normal_returned closed
      have work : Works False (((s.advance t).setSupply .normal).setWaitList []) _ := Works.returnToNormal.settle
      refine ⟨_, exec_supplyChange_reserve t running timer due reserve, work.waitList_nil rfl rfl, fun l => ?_,
        fun l sense still => ?_, fun l stays => ?_, fault, reports⟩
      · rw [ctl]; exact (s.advance t).normalised_power l
      · rw [ctl]; exact State.normalised_starts sense still
      · rw [ctl]; exact State.normalised_stays stays
  · have may : s.mayProbe l = true := (s.mayProbe_iff l).2 ⟨free, gate, call⟩
    obtain ⟨exit, handOns⟩ := (s.advance t).startProbe_noted l rested
    obtain ⟨starts, waits⟩ := State.startProbe_waits (s := s.advance t) (l := l) reserve sense usable lends
    have power := State.powerTaken_iff (s.advance t)
    rw [exec_probeTimerExpiry t s l timer due, if_pos may]
    refine ⟨_, rfl, fun untaken => ?_, fun taken => ?_⟩
    · have started := starts (Bool.eq_false_iff.2 fun h => untaken (power.1 h))
      obtain ⟨-, -, promotion, -⟩ := (waits_kept _ _ _).settle started exit handOns
      exact promotion
    · obtain ⟨-, -, promotion, rest, list⟩ := (waits_kept _ _ _).settle (waits (power.2 taken)) exit handOns
      exact ⟨promotion, rest, by rw [list, List.append_assoc]; rfl⟩
  · have closed : (s.advance t).Closed := .of_rested rested gate
    have shares := State.endContext_shares (s := s.advance t) reserve ready enabled c c.result
    have stands := (closed.endContext l c c.result).settle
    have settled := shares.of_after (by rw [stands.ctl]) (fun k => by rw [stands.ctl]) stands.waitList
    exact ⟨_, exec_releaseGuardEnd ends released, settled.power, settled.promotion, settled.taken, settled.free⟩

end Sys2Proof.Machine
end

section
/-! The URGENT-PENDING condition, the held-back list and the FIRE-wait timer in the words of R37, R109 and R110, and what a review of them by the Dispatcher leaves. -/

namespace Sys2Proof.Machine

/-! ### The model's terms and the manual's (R37, R59, R74, R84, R100) -/

section terms
variable (s : State)

theorem State.inOrder_eq : s.inOrder = inRank s := by
  simp [State.inOrder, queueOrder, inRank, allClasses, ranked]
  rfl

theorem State.targetOf_eq (es : List RxNo) : s.targetOf es = firstUsable s es := by
  unfold State.targetOf firstUsable
  congr 1
  funext e
  cases (s.rx e).state <;> rfl

theorem State.readyTarget_isSome (r : Record) : (s.readyTarget r).isSome = waitsForReady s r := by
  unfold State.readyTarget waitsForReady State.target
  rw [State.targetOf_eq]
  by_cases waiting : r.state = .waiting
  · simp only [waiting, if_true, decide_true, Bool.true_and]
    cases firstUsable s r.pendingList with
    | none => rfl
    | some e => by_cases ready : (s.rx e).state = .ready <;> simp [ready]
  · simp [waiting]

theorem State.eligible_eq (r : Record) : s.eligible r = seizes s r := by
  unfold State.eligible seizes
  cases r.report.cls <;> simp [ReportClass.deferred]

theorem State.grantable_iff (l : LineNo) : s.grantable l true = true ↔ Grants s l := by
  simp [State.grantable, Grants]

theorem State.grants_of_grantable {l : LineNo} {b : Bool} (h : s.grantable l b = true) : Grants s l := by
  rw [← State.grantable_iff]
  simp only [State.grantable, Bool.and_eq_true, Bool.or_eq_true] at h ⊢
  obtain ⟨fault, free | ⟨tenant, -⟩⟩ := h
  · exact ⟨fault, .inl free⟩
  · exact ⟨fault, .inr ⟨tenant, trivial⟩⟩

theorem mem_inRank (r : Record) : r ∈ inRank s ↔ r ∈ s.queue.records := by
  have ranks : r.report.cls ∈ ranked := by cases r.report.cls <;> decide
  simp only [inRank, List.mem_flatten, List.mem_map]
  constructor
  · rintro ⟨_, ⟨c, -, rfl⟩, mem⟩
    exact List.mem_of_mem_filter mem
  · intro mem
    exact ⟨_, ⟨_, ranks, rfl⟩, List.mem_filter.2 ⟨mem, by simp⟩⟩

theorem State.urgentRecords_eq : s.urgentRecords = (inRank s).filter fun r => waitsForReady s r && seizes s r := by
  simp only [State.urgentRecords, State.inOrder_eq, State.readyTarget_isSome, State.eligible_eq]

theorem State.lentLines_eq : s.lentLines = (List.finRange 4).filter fun l => (s.ctl l).lend = .lent := by
  have lines : allLines = List.finRange 4 := by decide
  rw [State.lentLines, lines]
  exact List.filter_congr fun l _ => by cases (s.ctl l).lend <;> rfl

/-- The condition that the Dispatcher evaluates is that of R37. -/
theorem State.urgentNow_iff : s.urgentNow = true ↔ UrgentHolds s := by
  have waits : (!s.urgentRecords.isEmpty) = true ↔
      ∃ r ∈ s.queue.records, waitsForReady s r = true ∧ seizes s r = true := by
    simp [State.urgentRecords_eq, mem_inRank]
  have lent : (!s.lentLines.isEmpty) = true ↔ ∃ l, (s.ctl l).lend = .lent := by
    simp [State.lentLines, mem_allLines]
  have granted : (!(allLines.any fun l => s.isFitted l && s.grantable l true)) = true ↔
      ∀ l : LineNo, l.val < s.fitted → ¬Grants s l := by
    simp [mem_allLines, State.isFitted, ← State.grantable_iff]
  unfold State.urgentNow UrgentHolds
  rw [Bool.and_eq_true, Bool.and_eq_true, Bool.and_eq_true, waits, lent, granted, and_assoc, and_assoc]

/-- The WAITING FIRE records with a READY target, in queue order. -/
def State.fireWaiting (s : State) : List Record :=
  (inRank s).filter fun r => r.report.cls = .fire ∧ waitsForReady s r = true

theorem State.heldBack_eq : s.heldBack = if s.dispatcher.urgent then s.fireWaiting.map Record.ticket else [] := by
  have fire : (s.inOrder.filter fun r => r.report.cls == .fire && (s.readyTarget r).isSome) = s.fireWaiting := by
    rw [State.inOrder_eq, State.fireWaiting]
    refine List.filter_congr fun r _ => ?_
    rw [State.readyTarget_isSome]
    cases r.report.cls <;> simp
  rw [State.heldBack, fire]

end terms

/-! ### The Dispatcher's review of condition, list and timer (R108, R109, R110) -/

/-- The condition, the list and the timer brought up to date. -/
def State.reviewed (s : State) : State := s.evaluateUrgent.settleHeld

/-- What the condition, the list and the timer are read from is left alone by what is quiet. -/
theorem Quiet.congr {s t : State} (h : Quiet s t) (gate : t.dispatcher.gateOpen = s.dispatcher.gateOpen) :
    t.urgentNow = s.urgentNow ∧ t.urgentRecords = s.urgentRecords ∧ t.lentLines = s.lentLines ∧
      t.fireWaiting = s.fireWaiting ∧ t.clock = s.clock ∧ t.t1 = s.t1 := by
  obtain ⟨lines, receivers, -, -, steady⟩ := h
  simp only [State.steady, State.base, Steady.mk.injEq, Base.mk.injEq] at steady
  obtain ⟨⟨now, -, fitted, -, -, tables, -⟩, -, -, -, -, -, queue⟩ := steady
  have rx := State.rx_congr receivers
  have ctl := State.ctl_congr lines
  have rank : inRank t = inRank s := by simp only [inRank, queue]
  have waits (r : Record) : waitsForReady t r = waitsForReady s r := by
    simp only [waitsForReady, firstUsable, rx]
  have seize (r : Record) : seizes t r = seizes s r :=
    decide_eq_decide.2 (by simp only [State.t1, tables, queue])
  have records : t.urgentRecords = s.urgentRecords := by simp only [State.urgentRecords_eq, rank, waits, seize]
  have lent : t.lentLines = s.lentLines := by simp only [State.lentLines, ctl]
  have granted (l : LineNo) : (t.isFitted l && t.grantable l true) = (s.isFitted l && s.grantable l true) := by
    simp only [State.isFitted, fitted, State.grantable, ctl, State.t2, tables]
  refine ⟨?_, records, lent, ?_, ?_, ?_⟩
  · simp only [State.urgentNow, gate, records, granted, lent]
  · simp only [State.fireWaiting, rank, waits]
  · simp only [State.clock, now]
  · simp only [State.t1, tables]

section review
variable {s : State}

theorem State.reviewed_quiet (s : State) : Quiet s s.reviewed := s.evaluateUrgent_quiet.trans (State.settleHeld_quiet _)

/-- The list of R109 where no record has been held back before: every record with the present clock. -/
def State.heldNow (s : State) : List (Nat × Nat) :=
  if s.urgentNow then s.fireWaiting.map fun r => (r.ticket, s.clock) else []

theorem State.heldNow_since {x : Nat × Nat} (h : x ∈ s.heldNow) : x.2 = s.clock := by
  unfold State.heldNow at h; split at h
  · obtain ⟨r, -, rfl⟩ := List.mem_map.1 h; rfl
  · cases h

theorem State.heldNow_tickets :
    s.heldNow.map Prod.fst = if s.urgentNow then s.fireWaiting.map Record.ticket else [] := by
  unfold State.heldNow; split
  · simp [Function.comp_def]
  · rfl

/-- The FIRE-wait timer runs for the grace of the oldest record held back (R110). -/
theorem State.fireExpiry_heldNow (grace : Nat) :
    fireExpiry grace s.heldNow = if s.heldNow ≠ [] ∧ grace ≠ 0 then some (s.clock + grace) else none := by
  cases list : s.heldNow with
  | nil => rfl
  | cons x rest =>
    have since : x.2 = s.clock := State.heldNow_since (by rw [list]; simp)
    by_cases grace0 : grace = 0
    · simp [fireExpiry, grace0]
    · simp [fireExpiry, grace0, since]

theorem State.fireExpiry_waits (grace : Nat) : expired (fireExpiry grace s.heldNow) s.clock = false := by
  rw [State.fireExpiry_heldNow]; split
  · next h => exact decide_eq_false (by omega)
  · rfl

/-- The Dispatcher's state after a review with no record held back before. -/
def State.review (s : State) : Dispatcher :=
  { gateOpen := s.dispatcher.gateOpen, urgent := s.urgentNow, held := s.heldNow
    fireTimer := fireExpiry s.t1.lendGrace s.heldNow }

theorem State.evaluateUrgent_dispatcher : s.evaluateUrgent.dispatcher = { s.dispatcher with urgent := s.urgentNow } := by
  unfold State.evaluateUrgent; dsimp only; split <;> simp

theorem State.evaluateUrgent_work : s.evaluateUrgent.work = s.work := by
  unfold State.evaluateUrgent; dsimp only; split <;> simp

theorem State.settleFireTimer_waits (h : expired (fireExpiry s.t1.lendGrace s.dispatcher.held) s.clock = false) :
    s.settleFireTimer =
      s.setDispatcher { s.dispatcher with fireTimer := fireExpiry s.t1.lendGrace s.dispatcher.held } := by
  unfold State.settleFireTimer; dsimp only
  rw [h]; rfl

/-- A list whose tickets are those to hold back, each with the present clock, stays as it is. -/
theorem State.heldAfter_of_now (held : s.dispatcher.held = [] ∨ s.dispatcher.held = s.heldNow)
    (urgent : s.dispatcher.urgent = s.urgentNow) : s.heldAfter = s.heldNow := by
  have tickets : s.heldBack = s.heldNow.map Prod.fst := by rw [State.heldBack_eq, State.heldNow_tickets, urgent]
  have again : (s.heldBack.map fun t => (t, s.clock)) = s.heldNow := by
    rw [tickets, List.map_map]
    refine (List.map_congr_left fun x hx => ?_).trans (List.map_id _)
    simp [← State.heldNow_since hx]
  unfold State.heldAfter
  rcases held with none | now
  · simp [none, again]
  · have kept : (s.dispatcher.held.filter fun x => s.heldBack.contains x.1) = s.heldNow := by
      rw [now, tickets]
      refine List.filter_eq_self.2 fun x hx => ?_
      simpa using ⟨x.2, hx⟩
    have new : (s.heldBack.filter fun t => !(s.heldNow.any fun x => x.1 == t)) = [] := by
      rw [tickets, List.filter_eq_nil_iff]
      intro t ht
      obtain ⟨x, hx, rfl⟩ := List.mem_map.1 ht
      simpa using ⟨x.2, hx⟩
    simp only [kept, new, List.map_nil, List.append_nil]

/-- A review with no expiry taken in this step: no expiry comes due, since none of the records has waited. -/
theorem State.reviewed_eq (held : s.dispatcher.held = [] ∨ s.dispatcher.held = s.heldNow) :
    s.reviewed = s.evaluateUrgent.setDispatcher s.review := by
  obtain ⟨urgentNow, -, -, fireWaiting, clock, t1⟩ := s.evaluateUrgent_quiet.congr s.evaluateUrgent_gate
  have heldNow : s.evaluateUrgent.heldNow = s.heldNow := by simp only [State.heldNow, urgentNow, fireWaiting, clock]
  have list : s.evaluateUrgent.heldAfter = s.heldNow := by
    rw [State.heldAfter_of_now (by rw [heldNow, State.evaluateUrgent_dispatcher]; exact held)
      (by rw [State.evaluateUrgent_dispatcher, urgentNow]), heldNow]
  have waits : expired (fireExpiry s.evaluateUrgent.t1.lendGrace s.heldNow) s.evaluateUrgent.clock = false := by
    rw [t1, clock]; exact State.fireExpiry_waits _
  unfold State.reviewed State.settleHeld
  rw [list, State.settleFireTimer_waits waits]
  simp only [State.review, State.evaluateUrgent_dispatcher, ← t1]; rfl

theorem State.reviewed_dispatcher (held : s.dispatcher.held = [] ∨ s.dispatcher.held = s.heldNow) :
    s.reviewed.dispatcher = s.review := by rw [State.reviewed_eq held]; rfl

theorem State.reviewed_work (held : s.dispatcher.held = [] ∨ s.dispatcher.held = s.heldNow) :
    s.reviewed.work = s.work := by
  rw [State.reviewed_eq held]; exact State.evaluateUrgent_work

/-- A second review changes nothing. -/
theorem State.reviewed_again (h : s.dispatcher = s.review) : s.reviewed = s := by
  have urgent : s.dispatcher.urgent = s.urgentNow := congrArg Dispatcher.urgent h
  have evaluated : s.evaluateUrgent = s := by
    have same : s.setDispatcher { s.dispatcher with urgent := s.urgentNow } = s := by rw [← urgent]; rfl
    unfold State.evaluateUrgent; dsimp only
    rw [same, urgent]
    cases s.urgentNow <;> rfl
  rw [State.reviewed_eq (.inr (congrArg Dispatcher.held h)), evaluated, ← h]; rfl

end review

end Sys2Proof.Machine
end

section
/-! A selection pass starts calls until none can be started, so that the Dispatcher acts at most twice on what it is told; and the statement on URGENT-PENDING, held-back list and FIRE-wait timer (O35). -/

namespace Sys2Proof.Machine

/-! ### A pass uses up the lines it is given (R100, R102) -/

/-- The occupancies on which a search ends (R102). -/
def Occupancy.searched (o : Occupancy) : Bool := o == .free || o == .tenant

section used
variable {s : State} {l : LineNo}

/-- A line whose occupancy is FREE or TENANT is not lent and not granted, and its class is known. -/
theorem State.occupancyNow_searched (h : (s.occupancyNow l).searched = true) :
    (s.ctl l).lend ≠ .lent ∧ (s.ctl l).grant = none ∧ (s.ctl l).classOcc ≠ .unknown := by
  unfold State.occupancyNow at h; dsimp only at h
  split at h
  · cases h
  · split at h
    · cases h
    · next lend =>
      split at h
      · cases h
      · next idle =>
        simp only [Bool.or_eq_true, not_or, Bool.not_eq_true, Option.isSome_eq_false_iff,
          Option.isNone_iff_eq_none] at idle
        exact ⟨lend, idle.1, fun e => by rw [e] at h; cases h⟩

theorem State.recompute_unsearched (h : (s.ctl l).lend = .lent ∨ (s.ctl l).grant ≠ none ∨ (s.ctl l).classOcc = .unknown) :
    ((s.recompute l).ctl l).occupancy.searched = false := by
  rw [State.recompute_ctl_same]
  refine Bool.eq_false_iff.2 fun searched => ?_
  obtain ⟨lend, grant, classOcc⟩ := State.occupancyNow_searched searched
  rcases h with h | h | h
  · exact lend h
  · exact h grant
  · exact classOcc h

theorem State.grant_unsearched (b : Bool) : ((s.grant l b).ctl l).occupancy.searched = false :=
  State.recompute_unsearched (s := s.setCtl l { s.ctl l with grant := some (s.grantKind l b) })
    (.inr (.inl (by rw [State.setCtl_ctl_same]; simp)))

theorem State.lineOff_unsearched : ((s.lineOff l).ctl l).occupancy.searched = false := by
  unfold State.lineOff; dsimp only
  rw [State.ctl_congr (State.faultCleared_lines _ _ _), State.ctl_congr (State.faultCleared_lines _ _ _)]
  refine State.recompute_unsearched (.inr (.inr ?_))
  have same (u : State) (ls : List LineNo) : (u.setWaitList ls).ctl l = u.ctl l := rfl
  rw [same, State.setCtl_ctl_same]

theorem State.beginLend_unsearched : ((s.beginLend l).ctl l).occupancy.searched = false :=
  State.recompute_unsearched (.inl (by rw [State.setCtl_ctl_same]))

theorem State.yieldPower_lend : ((s.yieldPower l).ctl l).lend = (s.ctl l).lend := by
  unfold State.yieldPower; split
  · have own := congrArg LineCtl.lend (s.stepDown_ctl_same l)
    exact (parked_ctl ((s.stepDown l).startNext_parked l)).2.trans own
  · rfl

/-- A line handed back with a lend pending goes OFF or is LENT (R32). -/
theorem State.handBack_unsearched (lend : (s.ctl l).lend = .pending) (p : Purpose) (x : Option CallResult) :
    ((s.handBack l p x).ctl l).occupancy.searched = false := by
  have same (u : State) : u.tell.ctl l = u.ctl l := rfl
  obtain ⟨supplied, -⟩ := s.takenBack_supplied l p x
  simp only [LineCtl.supplied, Prod.mk.injEq] at supplied
  obtain ⟨-, -, lend', -⟩ := supplied
  rw [State.handBack_eq, State.vacated]; split
  · rw [same]; exact State.lineOff_unsearched
  · rw [if_pos (State.yieldPower_lend.trans (lend'.trans lend)), same]; exact State.beginLend_unsearched

/-- The line of a call that begins is neither FREE nor TENANT any more, also where the call has ended at once (R30, R125). -/
theorem State.beginCall_unsearched (b : Bool) (e : RxNo) : ((s.beginCall l b e).ctl l).occupancy.searched = false := by
  have granted : (((s.grant l b).setRx e { s.rx e with state := .calling }).ctl l).occupancy.searched = false :=
    State.grant_unsearched b
  unfold State.beginCall
  cases pending : ((s.ctl l).lend == .pending) with
  | false =>
    have free : (Call.create .report (some e) false).lendPending = false := rfl
    by_cases ready : (((s.grant l b).setRx e { s.rx e with state := .calling }).ctl l).power = .ready
    · rw [State.startCall_takes _ l free ready, State.takeLine_ctl, State.setCall_ctl]; exact granted
    · rw [State.startCall_needs _ l free ready]
      have parked := (parked_ctl (State.needReady_parked
        (((s.grant l b).setRx e { s.rx e with state := .calling }).setCall l (some (Call.create .report (some e) false)))
        l l)).1
      have ctl := State.setCall_ctl ((s.grant l b).setRx e { s.rx e with state := .calling }) l
        (some (Call.create .report (some e) false)) l
      rw [State.ctl, parked]
      rw [State.ctl] at ctl
      rw [ctl]; exact granted
  | true =>
    rw [State.startCall_ends, State.endContext_eq]
    dsimp only [Call.create]
    rw [State.receiverResult_ctl]
    refine State.handBack_unsearched ?_ _ _
    rw [ctl_of_calm (State.endNoticed_calm _ l _ _), State.setCall_ctl]
    exact (s.grant_lend l b).trans (by simpa using pending)

theorem State.beginCall_others {k : LineNo} (n : k ≠ l) (b : Bool) (e : RxNo) :
    ((s.beginCall l b e).ctl k).occupancy = (s.ctl k).occupancy := by
  have others : (s.beginCall l b e).others l = s.others l := by
    rw [State.beginCall, State.startCall_others, State.setRx_others, State.grant_others]
  exact (parked_ctl (parked_of_others others n)).1

/-- The lines that a search can end on. -/
def State.searchable (s : State) : List LineNo := allLines.filter fun l => (s.ctl l).occupancy.searched

theorem State.beginCall_searchable {b : Bool} (found : s.searchLine b = some l) (c : Bool) (e : RxNo) :
    (s.beginCall l c e).searchable.length < s.searchable.length := by
  have rest : (s.beginCall l c e).searchable = s.searchable.filter fun k => k ≠ l := by
    rw [State.searchable, State.searchable, List.filter_filter]
    refine List.filter_congr fun k _ => ?_
    by_cases same : k = l
    · subst same; simp [State.beginCall_unsearched]
    · rw [State.beginCall_others same]; simp [same]
  have mem : l ∈ s.searchable := by
    refine List.mem_filter.2 ⟨mem_allLines l, ?_⟩
    rcases s.searchLine_occupancy b found with h | h <;> rw [h] <;> rfl
  rw [rest]
  exact List.length_filter_lt_length_iff_exists.2 ⟨l, mem, by simp⟩

/-- No pass would start a call. -/
def State.Exhausted (s : State) : Prop := ∀ r e, s.chosen = some (r, e) → s.searchLine (s.eligible r) = none

theorem State.passFuel_exhausted (h : s.Exhausted) (n : Nat) : State.passFuel n s = s := by
  cases n with
  | zero => rfl
  | succ n =>
    cases chosen : s.chosen with
    | none => unfold State.passFuel; simp only [chosen]
    | some x => unfold State.passFuel; simp only [chosen, h _ _ chosen]

theorem State.passFuel_exhausts (n : Nat) : ∀ s : State, s.searchable.length < n → (State.passFuel n s).Exhausted := by
  induction n with
  | zero => intro s h; omega
  | succ n ih =>
    intro s h
    cases chosen : s.chosen with
    | none =>
      have done : s.Exhausted := fun r e hc => by rw [chosen] at hc; cases hc
      rw [State.passFuel_exhausted done]; exact done
    | some x =>
      obtain ⟨r, e⟩ := x
      cases found : s.searchLine (s.eligible r) with
      | none =>
        have done : s.Exhausted := fun r' e' hc => by rw [chosen] at hc; cases hc; exact found
        rw [State.passFuel_exhausted done]; exact done
      | some l =>
        rw [State.passFuel_begins n chosen found]
        exact ih _ (by have := State.beginCall_searchable found (s.eligible r) e; omega)

/-- The fuel of a pass exceeds what four lines can need. -/
theorem State.pass_exhausts (s : State) : s.pass.Exhausted :=
  State.passFuel_exhausts 8 s (lt_of_le_of_lt (List.length_filter_le _ _) (by decide))

theorem State.Exhausted.of_quiet {t : State} (h : s.Exhausted) (q : Quiet s t) : t.Exhausted := by
  obtain ⟨lines, receivers, -, rotation, steady⟩ := q
  simp only [State.steady, State.base, Steady.mk.injEq, Base.mk.injEq] at steady
  obtain ⟨⟨-, -, fitted, -, -, tables, -⟩, -, -, -, -, -, queue⟩ := steady
  have rx := State.rx_congr receivers
  have ctl := State.ctl_congr lines
  have chosen : t.chosen = s.chosen := by
    simp only [State.chosen, State.inOrder, State.readyTarget, State.target, State.targetOf, rx, queue]
  have search (b : Bool) : t.searchLine b = s.searchLine b := by
    simp only [State.searchLine, State.grantable, State.t2, ctl, tables, fitted, rotation]
  have eligible (r : Record) : t.eligible r = s.eligible r := by
    rw [State.eligible_eq, State.eligible_eq]
    exact decide_eq_decide.2 (by simp only [State.t1, tables, queue])
  intro r e hc
  rw [search, eligible]
  exact h r e (by rw [← chosen]; exact hc)

end used

/-! ### No expiry comes due in a pass -/

section dues
variable (s : State) (l : LineNo)

@[simp] theorem State.recompute_fireDue : (s.recompute l).work.fireDue = s.work.fireDue := by
  have same (u : State) : u.tell.work.fireDue = u.work.fireDue := rfl
  unfold State.recompute; dsimp only; split
  · rfl
  · rw [same]; simp [State.lineNotice]

@[simp] theorem State.yieldPower_fireDue : (s.yieldPower l).work.fireDue = s.work.fireDue := by
  have same (u : State) (h : u.unpowered = s.unpowered) : u.work.fireDue = s.work.fireDue :=
    congrArg (fun x => x.2.1.fireDue) h
  unfold State.yieldPower; split
  · exact same _ (by simp)
  · rfl

@[simp] theorem State.lineOff_fireDue : (s.lineOff l).work.fireDue = s.work.fireDue := by
  simp [State.lineOff]

@[simp] theorem State.vacated_fireDue : (s.vacated l).work.fireDue = s.work.fireDue := by
  have same (u : State) : u.tell.work.fireDue = u.work.fireDue := rfl
  unfold State.vacated; split
  · rw [same, State.lineOff_fireDue]
  · split <;> rw [same]
    · simp [State.beginLend]
    · simp

/-- A call that begins, or ends at once, brings no FIRE-wait expiry. -/
theorem State.beginCall_fireDue (b : Bool) (e : RxNo) : (s.beginCall l b e).work.fireDue = s.work.fireDue := by
  have granted : ((s.grant l b).setRx e { s.rx e with state := .calling }).work.fireDue = s.work.fireDue := by
    simp [State.grant]
  unfold State.beginCall
  cases pending : ((s.ctl l).lend == .pending) with
  | false => rw [State.startCall_work _ l rfl]; exact granted
  | true =>
    have told (u : State) : (u.receiverResult e (some .cutShort)).work.fireDue = u.work.fireDue := rfl
    have untouched (u : State) : u.lineResult l .report (some .cutShort) = u := by simp [State.lineResult]
    rw [State.startCall_ends, State.endContext_eq]
    dsimp only [Call.create]
    rw [told, State.handBack_eq, State.vacated_fireDue, State.yieldPower_fireDue]
    simp only [State.takenBack, untouched, State.endNoticed]
    simpa using granted

theorem State.passFuel_fireDue (n : Nat) : ∀ s : State, (State.passFuel n s).work.fireDue = s.work.fireDue := by
  induction n with
  | zero => intro s; rfl
  | succ n ih =>
    intro s
    cases chosen : s.chosen with
    | none => unfold State.passFuel; simp only [chosen]
    | some x =>
      obtain ⟨r, e⟩ := x
      cases found : s.searchLine (s.eligible r) with
      | none => unfold State.passFuel; simp only [chosen, found]
      | some l => rw [State.passFuel_begins n chosen found, ih, State.beginCall_fireDue]

end dues

/-! ### The acts on what a command has told (R99) -/

/-- The pass of an act, behind an OPEN gate. -/
def State.passed (s : State) : State :=
  if s.dispatcher.gateOpen then (s.setWork { s.work with told := false }).pass
  else s.setWork { s.work with told := false }

section acts
variable {s : State}

theorem State.act_eq (s : State) : s.act = s.passed.reviewed := rfl

theorem State.passed_dispatcher : s.passed.dispatcher = s.dispatcher := by
  unfold State.passed; split
  · rw [State.pass, dispatcher_of_still (State.passFuel_still _ _)]; rfl
  · rfl

theorem State.passed_fireDue : s.passed.work.fireDue = s.work.fireDue := by
  unfold State.passed; split
  · rw [State.pass, State.passFuel_fireDue]; rfl
  · rfl

theorem State.passed_exhausts (gate : s.dispatcher.gateOpen = true) : s.passed.Exhausted := by
  unfold State.passed; rw [if_pos gate]; exact State.pass_exhausts _

/-- A pass that can start no call leaves everything but the note of what was told. -/
theorem State.passed_of_exhausted (h : s.dispatcher.gateOpen = true → s.Exhausted) :
    s.passed = s.setWork { s.work with told := false } := by
  unfold State.passed; split
  · next gate => exact State.passFuel_exhausted ((h gate).of_quiet (s.setWork_quiet _)) 8
  · rfl

theorem Quiet.review {t : State} (h : Quiet s t) (gate : t.dispatcher.gateOpen = s.dispatcher.gateOpen) :
    t.review = s.review := by
  obtain ⟨urgentNow, -, -, fireWaiting, clock, t1⟩ := h.congr gate
  simp only [State.review, State.heldNow, gate, urgentNow, fireWaiting, clock, t1]

theorem State.actFuel_untold (told : s.work.told = false) (fire : s.work.fireDue = false) (n : Nat) :
    State.actFuel n s = s := by
  cases n with
  | zero => rfl
  | succ n => unfold State.actFuel; simp [told, fire]

theorem State.actFuel_acts (told : s.work.told = true) (fire : s.work.fireDue = false) (n : Nat) :
    State.actFuel (n + 1) s = State.actFuel n s.act := by
  conv => lhs; unfold State.actFuel
  rw [if_neg (by simp [fire]), if_pos told]

/-- The Dispatcher acts once; where that has told it of something again, its second act finds nothing to start and nothing to change. -/
theorem State.actFuel_reviews (told : s.work.told = true) (fire : s.work.fireDue = false)
    (held : s.dispatcher.held = []) (n : Nat) : ∃ w, State.actFuel (n + 2) s = s.passed.reviewed.setWork w := by
  have held' : s.passed.dispatcher.held = [] := by rw [State.passed_dispatcher]; exact held
  have quiet := s.passed.reviewed_quiet
  have dispatcher := State.reviewed_dispatcher (.inl held')
  have work : s.passed.reviewed.work = s.passed.work := State.reviewed_work (.inl held')
  have fire' : s.passed.reviewed.work.fireDue = false := by rw [work, State.passed_fireDue]; exact fire
  have gate : s.passed.reviewed.dispatcher.gateOpen = s.dispatcher.gateOpen := by
    rw [dispatcher, State.review, State.passed_dispatcher]
  have exhausted : s.passed.reviewed.dispatcher.gateOpen = true → s.passed.reviewed.Exhausted := fun open' =>
    (State.passed_exhausts (gate.symm.trans open')).of_quiet quiet
  rw [State.actFuel_acts told fire, State.act_eq]
  cases again : s.passed.reviewed.work.told with
  | false => exact ⟨s.passed.reviewed.work, State.actFuel_untold again fire' _⟩
  | true =>
    have second : s.passed.reviewed.act = s.passed.reviewed.setWork { s.passed.reviewed.work with told := false } := by
      rw [State.act_eq, State.passed_of_exhausted exhausted]
      refine State.reviewed_again (dispatcher.trans ?_)
      exact ((quiet.trans (State.setWork_quiet _ _)).review (gate.trans (by rw [State.passed_dispatcher]))).symm
    rw [State.actFuel_acts again fire', second]
    exact ⟨_, State.actFuel_untold (s := s.passed.reviewed.setWork { s.passed.reviewed.work with told := false })
      rfl fire' n⟩

end acts

/-! ### The end of a backoff (R37, R90, R108 to R110) -/

section backoff
variable {t : Nat} {e : RxNo} {due : Nat} {s : State}

/-- The receiver is READY again, and the Dispatcher told. -/
def State.backAgain (s : State) (e : RxNo) : State := (s.setRx e { s.rx e with state := .ready, due := none }).tell

theorem exec_backoffEnd (backoff : (s.rx e).state = .backoff) (timer : (s.rx e).due = some due)
    (passed : due ≤ max s.now t / 1000) : exec (.backoffEnd t e) s = .next ((s.advance t).backAgain e).settle := by
  have same : (s.advance t).rx e = s.rx e := rfl
  have ended : expired (some due) (s.advance t).clock = true := decide_eq_true passed
  simp [exec, execBackoffEnd, same, backoff, timer, ended, State.backAgain]

variable (rested : s.Rested) (held : s.dispatcher.held = [])
include rested held

/-- At the end of a backoff the Dispatcher has made its pass and its review. -/
theorem State.backAgain_settle :
    ((s.advance t).backAgain e).settle = (((s.advance t).backAgain e).passed.reviewed).setWork Work.idle := by
  have work : ((s.advance t).backAgain e).work = { Work.idle with told := true } := by
    have idle : s.work = Work.idle := rested
    rw [← idle]; rfl
  obtain ⟨w, reviews⟩ := State.actFuel_reviews (s := (s.advance t).backAgain e) (by rw [work]) (by rw [work]; rfl) held 62
  rw [State.settle_told _ (by rw [work]; rfl) (by rw [work]; rfl), reviews]; rfl

omit rested in
theorem State.backAgain_reviewed :
    let p := ((s.advance t).backAgain e).passed
    Quiet p (p.reviewed.setWork Work.idle) ∧ (p.reviewed.setWork Work.idle).dispatcher = p.review ∧
      p.clock = max s.now t / 1000 ∧ p.t1 = s.t1 := by
  have list : ((s.advance t).backAgain e).passed.dispatcher.held = [] := by rw [State.passed_dispatcher]; exact held
  have still : ((s.advance t).backAgain e).passed.still = ((s.advance t).backAgain e).still := by
    unfold State.passed; split
    · exact State.passFuel_still 8 _
    · rfl
  have now : ((s.advance t).backAgain e).passed.now = max s.now t := congrArg (fun x => x.base.now) still
  have tables : ((s.advance t).backAgain e).passed.tables = s.tables := congrArg (fun x => x.base.tables) still
  exact ⟨(State.reviewed_quiet _).trans (State.setWork_quiet _ _), State.reviewed_dispatcher (.inl list),
    by rw [State.clock, now], congrArg Tables.t1 tables⟩

end backoff

/-! ### No line to grant (R33, R37) -/

theorem rotationOrder_fitted {fitted c : Nat} (h : c ≤ fitted) {l : LineNo} (mem : l ∈ rotationOrder fitted c) :
    l.val < fitted := by
  have down {n : Nat} (m : l ∈ (List.range n).reverse.filterMap fun i => ofNum 4 (i + 1)) : l.val < n := by
    obtain ⟨i, hi, hl⟩ := List.mem_filterMap.1 m
    have bound := List.mem_range.1 (List.mem_reverse.1 hi)
    unfold ofNum at hl; split at hl
    · cases hl; simpa using bound
    · cases hl
  rw [rotationOrder] at mem
  rcases List.mem_append.1 mem with first | second
  · have := down first; omega
  · exact down (List.mem_of_mem_filter second)

section ungranted
variable {s : State} (rotation : s.RotationKept) (none : ∀ l : LineNo, l.val < s.fitted → ¬Grants s l)
include rotation none

/-- Where no fitted line would be granted, a search ends on none (R30, R102). -/
theorem State.searchLine_ungranted (b : Bool) : s.searchLine b = Option.none := by
  obtain ⟨-, -, -, turn⟩ := rotation
  have ungranted (l) (mem : l ∈ rotationOrder s.fitted s.rotation) : s.grantable l b = false :=
    Bool.eq_false_iff.2 fun grants => none l (rotationOrder_fitted turn mem) (s.grants_of_grantable grants)
  have nowhere (o : Occupancy) :
      ((rotationOrder s.fitted s.rotation).find? fun l => (s.ctl l).occupancy == o && s.grantable l b) = Option.none :=
    List.find?_eq_none.2 fun l mem => by simp [ungranted l mem]
  unfold State.searchLine; dsimp only
  rw [nowhere, nowhere]

theorem State.exhausted_ungranted : s.Exhausted := fun _ _ _ => State.searchLine_ungranted rotation none _

end ungranted

/-- A notice for which there is room stands last while a frame is being sent (R159). -/
theorem State.notice_stands {s : State} (n : Notice) (receiver : s.link.receiver ≠ .silent)
    (transmitter : s.link.transmitter ≠ .idle) (room : s.link.notices.length < 16) :
    (s.notice n).link.notices = s.link.notices ++ [n] := by
  unfold State.notice Link.enqueue
  rw [if_neg receiver, if_pos room]
  unfold Link.transmit; dsimp only
  split
  · next idle => exact absurd idle transmitter
  · rfl

/-- The notice of URGENT-PENDING when the condition begins (R108). -/
theorem State.evaluateUrgent_begins {s : State} {r : Record} {rest : List Record} (before : s.dispatcher.urgent = false)
    (holds : s.urgentNow = true) (first : s.urgentRecords = r :: rest) :
    s.evaluateUrgent =
      (s.setDispatcher { s.dispatcher with urgent := true }).notice (.urgentPending r.ticket r.report.cls s.lentLines) := by
  unfold State.evaluateUrgent; dsimp only
  rw [before, holds, first]

/-- Settles O35: the pass starts calls until none can be started, and the review that follows finds no record that has been held back before. -/
theorem urgentAndHeldBack : Obligations.UrgentAndHeldBack := by
  refine ⟨fun t e due s rested backoff timer passed held => ?_, fun t e due r s rested backoff timer passed held urgent gate
    none lent rotation receiver transmitter room => ?_⟩
  · obtain ⟨quiet, dispatcher, clock, t1⟩ := State.backAgain_reviewed (t := t) (e := e) held
    obtain ⟨urgentNow, -, -, fireWaiting, -, -⟩ := quiet.congr (by rw [dispatcher]; rfl)
    refine ⟨_, (exec_backoffEnd backoff timer passed).trans (congrArg Host.Outcome.next
      (State.backAgain_settle rested held)), ?_, ?_, ?_⟩
    · rw [← State.urgentNow_iff, urgentNow, dispatcher]; rfl
    · rw [dispatcher, ← clock]
      simp only [State.review, State.heldNow]
      rw [← fireWaiting]; rfl
    · rw [dispatcher, ← clock, ← t1]
      exact State.fireExpiry_heldNow _
  · intro s1 first
    have again : ((s.advance t).backAgain e).passed = ((s.advance t).backAgain e).setWork Work.idle := by
      have idle : s.work = Work.idle := rested
      rw [State.passed_of_exhausted fun _ => State.exhausted_ungranted (s := (s.advance t).backAgain e) rotation none]
      simp only [State.backAgain, State.tell, State.setWork_work, State.setRx_work, State.advance_work, idle]; rfl
    have found := List.find?_some first
    obtain ⟨waits, seize⟩ := Bool.and_eq_true_iff.1 found
    have holds : (((s.advance t).backAgain e).setWork Work.idle).urgentNow = true :=
      (State.urgentNow_iff _).2
        ⟨gate, ⟨r, (mem_inRank s1 r).1 (List.mem_of_find?_eq_some first), waits, seize⟩, none, lent⟩
    obtain ⟨rest, records⟩ : ∃ rest, (((s.advance t).backAgain e).setWork Work.idle).urgentRecords = r :: rest := by
      rw [State.urgentRecords_eq]
      exact List.head?_eq_some_iff.1 ((List.head?_filter ..).trans first)
    have settles := State.backAgain_settle (t := t) (e := e) rested held
    rw [again, State.reviewed_eq (s := ((s.advance t).backAgain e).setWork Work.idle) (.inl held),
      State.evaluateUrgent_begins (s := ((s.advance t).backAgain e).setWork Work.idle) urgent holds records] at settles
    refine ⟨_, (exec_backoffEnd backoff timer passed).trans (congrArg Host.Outcome.next settles), holds, ?_, ?_, ?_⟩
    · exact State.notice_lines _ _
    · exact State.notice_queue _ _
    · rw [State.lentLines_eq]
      exact State.notice_stands _ receiver transmitter room

end Sys2Proof.Machine
end

section
/-! What the end of a command's work does to one line: a line that no search ends on is left alone by the acts, and a line whose call takes no hand-ons by the recompositions (R102, R138). -/

namespace Sys2Proof.Machine

/-! ### Through the acts -/

/-- The line is neither FREE, TENANT nor LENT, and is as it was but for its promotion. -/
def State.Parked (l : LineNo) (y : Line) (s : State) : Prop :=
  (s.ctl l).occupancy.searched = false ∧ (s.ctl l).lend ≠ .lent ∧ (s.line l).parked = y

theorem State.Parked.of_parked {l : LineNo} {y : Line} {s t : State} (h : s.Parked l y)
    (same : (t.line l).parked = (s.line l).parked) : t.Parked l y := by
  obtain ⟨occupancy, lend, parked⟩ := h
  obtain ⟨o, d⟩ := parked_ctl same
  exact ⟨by rw [State.ctl, o]; exact occupancy, by rw [State.ctl, d]; exact lend, same.trans parked⟩

theorem parked_kept (l : LineNo) (y : Line) : ActsKeep (State.Parked l y) where
  quiet q h := h.of_parked (congrArg Line.parked (State.line_congr q.1 l))
  begins {s k b e} found _ h := by
    have other : l ≠ k := by
      rintro rfl
      obtain ⟨occupancy, -, -⟩ := h
      rcases s.searchLine_occupancy b found with o | o <;> rw [o] at occupancy <;> cases occupancy
    have others : (s.beginCall k b e).others k = s.others k := by
      rw [State.beginCall, State.startCall_others, State.setRx_others, State.grant_others]
    exact h.of_parked (parked_of_others others other)
  reclaims {s k} lent h := by
    have other : l ≠ k := by
      rintro rfl
      obtain ⟨-, lend, -⟩ := h
      exact lend lent
    exact h.of_parked (parked_of_others (s.endLend_others k) other)

/-- The end of a command's work that forces no exit from SERVICE: recompositions, then acts. -/
theorem ActsKeep.settle_drained {P : State → Prop} (k : ActsKeep P) {s : State} (exit : s.work.exitDue = false)
    (h : P s.drain) : P s.settle := by
  have unforced : s.settleExit = s := by
    unfold State.settleExit; rw [exit]
    simp only [Bool.false_eq_true, false_and, if_false]
    rw [← exit]; rfl
  rw [State.settle, unforced]
  exact k.quiet (State.setWork_quiet _ _) (k.actFuel 64 _ h)

/-! ### Through the recompositions -/

section drain
variable (s : State) {l : LineNo}

@[simp] theorem State.faultActive_lines (k : FaultKind) (i : Nat) : (s.faultActive k i).lines = s.lines := by
  unfold State.faultActive; split
  · simp [State.setFaults]
  · split <;> simp [State.setFaults]

@[simp] theorem State.settleComm_lines : s.settleComm.lines = s.lines := by
  unfold State.settleComm; split <;> simp

@[simp] theorem State.settlePressure_lines : s.settlePressure.lines = s.lines := by
  unfold State.settlePressure; dsimp only; split <;> rfl

@[simp] theorem State.releaseHeld_lines (r : Record) : (s.releaseHeld r).lines = s.lines := by
  unfold State.releaseHeld; split <;> rfl

@[simp] theorem State.returnRecord_lines (k : Nat) : (s.returnRecord k).lines = s.lines := by
  unfold State.returnRecord; split
  · rfl
  · split
    · dsimp only; split <;> split <;> simp
    · rfl

@[simp] theorem State.returnAll_lines (ks : List Nat) : (s.returnAll ks).lines = s.lines :=
  foldl_view State.lines _ State.returnRecord_lines ks s

theorem State.claimNext_line_ne {m : LineNo} (n : m ≠ l) (e : RxNo) (c : Nat) : (s.claimNext m e c).line l = s.line l := by
  unfold State.claimNext; dsimp only
  rw [State.setSlots_line, if_neg n]
  exact State.line_congr (by simp) l

/-- A recomposition touches the line whose NEXT it composes alone (R138). -/
theorem State.recompose_line_ne {m : LineNo} (n : m ≠ l) (e : RxNo) (k : Nat) : (s.recompose m e k).line l = s.line l := by
  unfold State.recompose; dsimp only; split
  · exact s.claimNext_line_ne n e _
  · split
    · split
      · rw [State.claimNext_line_ne _ n, State.setSlots_line, if_neg n]
        exact State.line_congr (by simp) l
      · rfl
    · rfl

/-- The line's call, if there is one, takes no hand-ons. -/
def Line.Deaf (x : Line) : Prop := ∀ c, x.call = some c → ∀ e, takesHandOns c e = false

theorem State.exchangeLine_ne (deaf : (s.line l).Deaf) {m : LineNo} {e : RxNo} (h : s.exchangeLine e = some m) : m ≠ l := by
  rintro rfl
  have takes := List.find?_some h
  cases call : s.call m with
  | none => simp [call] at takes
  | some c =>
    have never := deaf c call e
    simp [call, never] at takes

theorem State.takeHandOn_line (deaf : (s.line l).Deaf) (k : Nat) : (s.takeHandOn k).line l = s.line l := by
  unfold State.takeHandOn; split
  · rfl
  · split
    · split
      · rfl
      · split
        · rfl
        · next h => exact s.recompose_line_ne (s.exchangeLine_ne deaf h) _ k
    · rfl

theorem State.drainFuel_line (n : Nat) : ∀ s : State, (s.line l).Deaf → (State.drainFuel n s).line l = s.line l := by
  induction n with
  | zero => intro s _; rfl
  | succ n ih =>
    intro s deaf; unfold State.drainFuel; split
    · rfl
    · next k rest _ =>
      have first : (State.takeHandOn (s.setWork { s.work with handOns := rest }) k).line l = s.line l :=
        State.takeHandOn_line (s.setWork { s.work with handOns := rest }) deaf k
      rw [ih _ (by rw [first]; exact deaf), first]

/-- What is handed on leaves a line alone whose call takes none of it. -/
theorem State.drain_line (deaf : (s.line l).Deaf) : s.drain.line l = s.line l := by
  unfold State.drain; split
  · rfl
  · exact State.drainFuel_line 128 s deaf

end drain

/-! ### The end of a command's work, for one line -/

section settle
variable {s : State} {l : LineNo} (exit : s.work.exitDue = false) (occupancy : (s.ctl l).occupancy.searched = false)
  (lend : (s.ctl l).lend ≠ .lent)
include exit occupancy lend

/-- A line that no search ends on keeps its call, and but for the block slots all that the acts leave alone. -/
theorem State.settle_call : s.settle.call l = s.call l := by
  have ctl := ctl_of_calm s.drain_calm l
  have drained : s.drain.Parked l (s.drain.line l).parked := ⟨by rw [ctl]; exact occupancy, by rw [ctl]; exact lend, rfl⟩
  obtain ⟨-, -, parked⟩ := (parked_kept _ _).settle_drained exit drained
  obtain ⟨call, -⟩ := parked_line parked
  exact call.trans (call_of_calm s.drain_calm l)

/-- With a call that takes no hand-ons it stays as it is. -/
theorem State.settle_parked (deaf : (s.line l).Deaf) : (s.settle.line l).parked = (s.line l).parked := by
  have line := s.drain_line deaf
  have drained : s.drain.Parked l (s.line l).parked :=
    ⟨by rw [State.ctl, line]; exact occupancy, by rw [State.ctl, line]; exact lend, by rw [line]⟩
  obtain ⟨-, -, parked⟩ := (parked_kept _ _).settle_drained exit drained
  exact parked

end settle

end Sys2Proof.Machine
end

section
/-! A window that confirms a class: the report it makes, and what the class does to occupancy, fault list and queue before the call hears of it (R5, R18 to R21, R36). -/

namespace Sys2Proof.Machine

/-! ### The window's report (R4, R5, R7) -/

section window
variable {u : Sense} {window : List Int} {w : LoopClass}

theorem Sense.confirming_iff : Confirms u window w ↔ w = classOfWindow u.confirmed window ∧ u.Confirming w := by
  unfold Confirms Sense.Confirming Sense.runAfter
  rw [fullRun_eq]

/-- The CLASS report of a window that confirms `w` (R5). -/
def Sense.classReport (u : Sense) (w : LoopClass) : ClassReport := { new := w, old := u.confirmed, settling := u.settling }

theorem Sense.endWindow_report (u : Sense) (window : List Int) (now : Nat) :
    (u.endWindow window now).2.1 = (Sense.applyClass { u with window := [] } (windowClass u.confirmed window)).2 := by
  unfold Sense.endWindow; dsimp only; split <;> rfl

theorem Sense.endWindow_confirms (now : Nat) (h : Confirms u window w) :
    (u.endWindow window now).2.1 = some (u.classReport w) := by
  obtain ⟨rfl, confirming⟩ := Sense.confirming_iff.1 h
  have applied := Sense.applyClass_confirming (u := { u with window := [] }) confirming
  rw [Sense.endWindow_report, windowClass_eq, applied]; rfl

/-- The class occupancy that the report gives is that of R18 and R19. -/
theorem classOccAfter_eq (u : Sense) (before : ClassOcc) (w : LoopClass) :
    classOccAfter before (u.classReport w) = occupancyAfter u before w := by
  unfold classOccAfter occupancyAfter Sense.classReport
  cases w <;> simp [ClassOcc.ofClass]

theorem shown_eq (o : ClassOcc) : Occupancy.ofClassOcc o = shown o := by cases o <;> rfl

end window

/-! ### The report reaches the line -/

section sample
variable {s : State} {l : LineNo} {w : LoopClass} {volts : Int}

theorem State.callPolarity_none (h : s.call l = none) : s.callPolarity l = s := by
  unfold State.callPolarity; rw [h]

theorem State.callPolarity_other {c : Call} (h : s.call l = some c) (n : c.state ≠ .ringWait) : s.callPolarity l = s := by
  unfold State.callPolarity; rw [h]; exact if_neg n

/-- The confirming sample: the unit as the window left it, the CLASS report, and a change of polarity if there is one. -/
theorem State.loopSample_confirms (full : (s.sense l).window.length = 7)
    (h : Confirms (s.sense l) ((s.sense l).window ++ [max (-1500) (min 1500 volts)]) w) :
    ∃ u, s.loopSample l volts = (s.setSense l u).classReport l ((s.sense l).classReport w) ∨
      s.loopSample l volts = ((s.setSense l u).classReport l ((s.sense l).classReport w)).callPolarity l := by
  have report := Sense.endWindow_confirms s.now h
  unfold State.loopSample
  rw [Sense.sample_eighth _ _ _ full, clipVolts_eq]
  generalize (s.sense l).endWindow ((s.sense l).window ++ [max (-1500) (min 1500 volts)]) s.now = ended at report ⊢
  obtain ⟨u, r, change⟩ := ended
  cases report
  cases change with
  | none => exact ⟨u, .inl rfl⟩
  | some p => exact ⟨u, .inr rfl⟩

end sample

/-! ### Class occupancy, occupancy and lend idle timer (R18, R36) -/

section occupancy
variable (s : State) (l : LineNo)

@[simp] theorem State.recompute_call (k : LineNo) : (s.recompute l).call k = s.call k := by
  simp only [State.call, State.recompute_line]; split
  · next e => subst e; rfl
  · rfl

@[simp] theorem State.setCtl_call (x : LineCtl) (k : LineNo) : (s.setCtl l x).call k = s.call k := by
  simp only [State.call, State.setCtl_line]; split
  · next e => subst e; rfl
  · rfl

@[simp] theorem State.setSense_call (x : Sense) (k : LineNo) : (s.setSense l x).call k = s.call k := by
  simp only [State.call, State.setSense_line]; split
  · next e => subst e; rfl
  · rfl

/-- The occupancy of a fitted line that is not OFF (R18). -/
theorem State.occupancyNow_on (fitted : l.val < s.fitted) (power : (s.ctl l).power ≠ .off) :
    s.occupancyNow l =
      if (s.ctl l).lend = .lent then .lent
      else if (s.ctl l).grant.isSome || (s.call l).isSome then .call else shown (s.ctl l).classOcc := by
  unfold State.occupancyNow; dsimp only
  rw [if_neg (by simp [State.isFitted, fitted, power]), shown_eq]

theorem State.setClassOcc_same : s.setClassOcc l (s.ctl l).classOcc = s := if_pos rfl

theorem State.setClassOcc_ctl {o : ClassOcc} (n : o ≠ (s.ctl l).classOcc) :
    ∃ occupancy, (s.setClassOcc l o).ctl l =
        { s.ctl l with
          classOcc := o, lendIdle := if (s.ctl l).lend = .lent ∧ o = .free then s.lendTimerStart else none, occupancy } ∧
      (l.val < s.fitted → (s.ctl l).power ≠ .off → occupancy =
        if (s.ctl l).lend = .lent then .lent
        else if (s.ctl l).grant.isSome || (s.call l).isSome then .call else shown o) := by
  unfold State.setClassOcc; dsimp only
  rw [if_neg n, State.recompute_ctl_same, State.setCtl_ctl_same]
  refine ⟨_, rfl, fun fitted power => ?_⟩
  refine (State.occupancyNow_on (s.setCtl l _) l fitted (by rw [State.setCtl_ctl_same]; exact power)).trans ?_
  rw [State.setCtl_ctl_same, State.setCtl_call]

@[simp] theorem State.setClassOcc_call (o : ClassOcc) (k : LineNo) : (s.setClassOcc l o).call k = s.call k := by
  unfold State.setClassOcc; dsimp only; split
  · rfl
  · simp

@[simp] theorem State.setClassOcc_queue (o : ClassOcc) : (s.setClassOcc l o).queue = s.queue := by
  unfold State.setClassOcc; dsimp only; split
  · rfl
  · exact congrArg Steady.queue (State.recompute_steady _ l)

@[simp] theorem State.setClassOcc_receivers (o : ClassOcc) : (s.setClassOcc l o).receivers = s.receivers := by
  unfold State.setClassOcc; dsimp only; split
  · rfl
  · simp

theorem State.Closed.setClassOcc {s : State} (h : s.Closed) (l : LineNo) (o : ClassOcc) : (s.setClassOcc l o).Closed := by
  unfold State.setClassOcc; dsimp only; split
  · exact h
  · exact (h.setCtl l _).recompute l

theorem State.lendTimerStart_eq :
    s.lendTimerStart = if s.t1.lendIdle = 0 then none else some (s.now + s.t1.lendIdle * 1000) := rfl

end occupancy

/-! ### Class and line-down reports together (R21) -/

/-- What a CLASS report does before the line's call hears of it. -/
def State.classNoted (s : State) (l : LineNo) (r : ClassReport) : State :=
  (s.setClassOcc l (classOccAfter (s.ctl l).classOcc r)).lineDownReports l r

section noted
variable (s : State) (l : LineNo) (r : ClassReport)

theorem State.classReport_eq :
    s.classReport l r =
      (if classOccAfter (s.ctl l).classOcc r = (s.ctl l).classOcc then s.classNoted l r
        else (s.classNoted l r).prepareChange l).callClass l r.new := rfl

theorem State.lineDownReports_calm : (s.lineDownReports l r).calm = s.calm := by
  unfold State.lineDownReports; split
  · simp
  · split <;> simp

theorem State.lineDownReports_exitDue : (s.lineDownReports l r).work.exitDue = s.work.exitDue := by
  have trouble (q : Qualifier) : (s.report (partReport .trouble q 901 (num l))).work.exitDue = s.work.exitDue :=
    s.report_exitDue (by simp [partReport])
  unfold State.lineDownReports; split
  · simp [trouble]
  · split <;> simp [trouble]

theorem State.Closed.classNoted {s : State} (h : s.Closed) (l : LineNo) (r : ClassReport) : (s.classNoted l r).Closed := by
  have set := h.setClassOcc l (classOccAfter (s.ctl l).classOcc r)
  unfold State.classNoted State.lineDownReports; split
  · exact (set.report (by simp [partReport])).faultActive _ _
  · split
    · exact (set.report (by simp [partReport])).faultCleared _ _
    · exact set

theorem State.classNoted_ctl : (s.classNoted l r).ctl l = (s.setClassOcc l (classOccAfter (s.ctl l).classOcc r)).ctl l :=
  ctl_of_calm (State.lineDownReports_calm _ l r) l

@[simp] theorem State.classNoted_call (k : LineNo) : (s.classNoted l r).call k = s.call k :=
  (call_of_calm (State.lineDownReports_calm _ l r) k).trans (s.setClassOcc_call l _ k)

@[simp] theorem State.classNoted_receivers : (s.classNoted l r).receivers = s.receivers :=
  (receivers_of_calm (State.lineDownReports_calm _ l r)).trans (s.setClassOcc_receivers l _)

@[simp] theorem State.classNoted_still : (s.classNoted l r).still = s.still := by simp [State.classNoted]

theorem State.recompute_exitDue : (s.recompute l).work.exitDue = s.work.exitDue := (s.recompute_noted l).1

theorem State.classNoted_exitDue : (s.classNoted l r).work.exitDue = s.work.exitDue := by
  rw [State.classNoted, State.lineDownReports_exitDue]
  unfold State.setClassOcc; dsimp only; split
  · rfl
  · rw [State.recompute_exitDue]; rfl

/-- What the class does to the reports and the fault list (R21). -/
theorem State.classNoted_reports :
    (r.new = .dead → ⟨.lineDown, num l, true⟩ ∈ (s.classNoted l r).link.faults ∧
      (s.joinable (trouble .new 901 (num l)) = none → s.ordinaryCount < 32 →
        (s.classNoted l r).reports = s.reports ++ [(s.ticketToGive, trouble .new 901 (num l))])) ∧
    (r.new ≠ .dead → r.old = .dead →
      (s.FaultsKept → ⟨.lineDown, num l, true⟩ ∉ (s.classNoted l r).link.faults) ∧
      (s.joinable (trouble .restore 901 (num l)) = none → s.ordinaryCount < 32 →
        (s.classNoted l r).reports = s.reports ++ [(s.ticketToGive, trouble .restore 901 (num l))])) ∧
    (r.new ≠ .dead → r.old ≠ .dead → (s.classNoted l r).reports = s.reports) := by
  have queue := s.setClassOcc_queue l (classOccAfter (s.ctl l).classOcc r)
  have entered (q : Qualifier) (none : s.joinable (trouble q 901 (num l)) = none) (room : s.ordinaryCount < 32) :
      ((s.setClassOcc l (classOccAfter (s.ctl l).classOcc r)).report (partReport .trouble q 901 (num l))).reports =
        s.reports ++ [(s.ticketToGive, trouble q 901 (num l))] := State.report_reports queue none room
  have work : Works False s
      ((s.setClassOcc l (classOccAfter (s.ctl l).classOcc r)).report (partReport .trouble .restore 901 (num l))) :=
    (Works.refl.setClassOcc l _).report _
  refine ⟨fun dead => ?_, fun alive before => ?_, fun alive before => ?_⟩
  · have noted : s.classNoted l r = ((s.setClassOcc l (classOccAfter (s.ctl l).classOcc r)).report
        (partReport .trouble .new 901 (num l))).faultActive .lineDown (num l) := if_pos dead
    rw [noted]
    exact ⟨State.faultActive_mem _ _ _, fun none room => (reports_of_roster (by simp)).trans (entered _ none room)⟩
  · have noted : s.classNoted l r = ((s.setClassOcc l (classOccAfter (s.ctl l).classOcc r)).report
        (partReport .trouble .restore 901 (num l))).faultCleared .lineDown (num l) :=
      (if_neg alive).trans (if_pos before)
    rw [noted]
    exact ⟨fun kept => State.faultCleared_not_mem _ _ _ (work.faultsKept kept),
      fun none room => (reports_of_roster (by simp)).trans (entered _ none room)⟩
  · have noted : s.classNoted l r = s.setClassOcc l (classOccAfter (s.ctl l).classOcc r) :=
      (if_neg alive).trans (if_neg before)
    rw [noted, State.reports, queue]; rfl

end noted

end Sys2Proof.Machine
end

section
/-! What a confirmed class does to the line's call: a call in PREPARE that is dropped, and a call that has taken the line (R20, R31, R106, R115, R123). -/

namespace Sys2Proof.Machine

/-! ### The call hears of the class -/

section hears
variable {s : State} {l : LineNo} {c : Call} {w : LoopClass}

theorem State.callClass_none (h : s.call l = none) : s.callClass l w = s := by
  unfold State.callClass; rw [h]

theorem State.callClass_prepare (h : s.call l = some c) (prepare : c.state = .prepare) : s.callClass l w = s := by
  unfold State.callClass; rw [h]; dsimp only; rw [prepare]

theorem State.prepareChange_none (h : s.call l = none) : s.prepareChange l = s := by
  unfold State.prepareChange; rw [h]

theorem State.prepareChange_taken (h : s.call l = some c) (n : c.state ≠ .prepare) : s.prepareChange l = s := by
  unfold State.prepareChange; rw [h]; exact if_neg n

/-- Without a call nothing follows the class and the line-down reports. -/
theorem State.classReport_none (h : s.call l = none) (r : ClassReport) : s.classReport l r = s.classNoted l r := by
  have none : (s.classNoted l r).call l = Option.none := (s.classNoted_call l r l).trans h
  rw [State.classReport_eq, State.prepareChange_none none, ite_self, State.callClass_none none]

/-- A class occupancy on which a call in PREPARE is dropped: a probe on any but FREE, a REPORT call on RINGING and DOWN, and on TENANT where its grant kind is not SEIZING (R31, R106). -/
def Dropped (p : Purpose) (o : ClassOcc) (g : Option Grant) : Prop :=
  (p = .probe ∧ o ≠ .free) ∨ (p = .report ∧ (o = .ringing ∨ o = .down ∨ (o = .tenant ∧ g ≠ some .seizing)))

theorem State.prepareChange_dropped (h : s.call l = some c) (prepare : c.state = .prepare)
    (dropped : Dropped c.purpose (s.ctl l).classOcc (s.ctl l).grant) : s.prepareChange l = s.endContext l c none := by
  unfold State.prepareChange State.dropCall; rw [h]; dsimp only
  rw [if_pos prepare]
  split <;> simp_all [Dropped]

theorem State.prepareChange_kept (h : s.call l = some c) (prepare : c.state = .prepare)
    (kept : ¬Dropped c.purpose (s.ctl l).classOcc (s.ctl l).grant) : s.prepareChange l = s := by
  unfold State.prepareChange State.dropCall; rw [h]; dsimp only
  rw [if_pos prepare]
  split <;> simp_all [Dropped]

/-- The classes that end a call that has taken the line (R115, R123). -/
def EndsCall (st : CallState) (w : LoopClass) : Prop := w = .dead ∨ w = .ring ∨ (w = .onHook ∧ st ≠ .cleardown)

theorem State.giveResult_releases (h : s.call l = some c) (n : c.state ≠ .prepare) (m : c.state ≠ .release)
    (res : CallResult) : s.giveResult l res = s.releaseCall l c (c.resultOf res) := by
  unfold State.giveResult; rw [h]; dsimp only; split
  · next prepare => exact absurd prepare n
  · next release => exact absurd release m
  · rfl

theorem State.callClass_ends (h : s.call l = some c) (n : c.state ≠ .prepare) (m : c.state ≠ .release)
    (ends : EndsCall c.state w) : s.callClass l w = s.releaseCall l c (c.resultOf .lineDown) := by
  have given := State.giveResult_releases h n m .lineDown
  unfold State.callClass; rw [h]; dsimp only
  split <;> simp_all [EndsCall]

theorem State.callClass_stays (h : s.call l = some c) (stays : ¬EndsCall c.state w) : s.callClass l w = s := by
  have quiet : w = .unknown ∨ w = .offHook ∨ (w = .onHook ∧ c.state = .cleardown) := by
    cases w <;> simp_all [EndsCall]
  unfold State.callClass; rw [h]; dsimp only
  rcases quiet with rfl | rfl | ⟨rfl, cleardown⟩
  · split <;> simp_all
  · split <;> simp_all
  · rw [cleardown]

end hears

/-! ### A call dropped in PREPARE (R31, R32, R106) -/

section dropped
variable {s : State} {l : LineNo}

/-- Power given up, or not, is all that a yield changes of its line. -/
theorem State.yieldPower_ctl (s : State) (l : LineNo) :
    ∃ power promotion, (s.yieldPower l).ctl l = { s.ctl l with power, promotion } ∧
      ((s.ctl l).power ≠ .off → power ≠ .off) := by
  unfold State.yieldPower; split
  · have own := s.stepDown_ctl_same l
    have power : (s.ctl l).power ≠ .off → (if (s.ctl l).power = .ready then Power.sense else (s.ctl l).power) ≠ .off := by
      intro h; split
      · simp
      · exact h
    cases taken : (s.stepDown l).powerTaken with
    | true => rw [State.startNext_taken _ taken, own]; exact ⟨_, _, rfl, power⟩
    | false =>
      obtain ⟨-, ctl⟩ := State.startNext_free _ taken
      rw [ctl, own]; split
      · exact ⟨_, _, rfl, power⟩
      · exact ⟨_, _, rfl, power⟩
  · exact ⟨_, _, rfl, id⟩

@[simp] theorem State.startNext_call (k : LineNo) : s.startNext.call k = s.call k :=
  (parked_line (s.startNext_parked k)).1

@[simp] theorem State.yieldPower_call (k : LineNo) : (s.yieldPower l).call k = s.call k := by
  unfold State.yieldPower; split <;> simp

theorem State.takenBack_call (p : Purpose) (x : Option CallResult) : (s.takenBack l p x).call l = none := by
  unfold State.takenBack; dsimp only
  rw [State.setCtl_call, State.setCall_call]

theorem State.takenBack_ctl (p : Purpose) (x : Option CallResult) :
    ((s.takenBack l p x).ctl l).grant = none ∧ ((s.takenBack l p x).ctl l).classOcc = (s.ctl l).classOcc := by
  have sensed : (s.takenBack l p x).sensed = s.sensed := by
    unfold State.takenBack; dsimp only
    have before : ((s.lineResult l p x).setCall l none).sensed = s.sensed := by simp
    exact (State.setCtl_sensed _ l { ((s.lineResult l p x).setCall l none).ctl l with grant := none } rfl rfl).trans before
  refine ⟨?_, congrArg (fun y => y.2.1) (congrFun sensed l)⟩
  unfold State.takenBack; dsimp only
  rw [State.setCtl_ctl_same]

/-- A line handed back with no lend and no disable pending shows its class occupancy (R18, R31). -/
theorem State.handBack_idle (lend : (s.ctl l).lend = .none) (enabled : (s.ctl l).disablePending = false)
    (power : (s.ctl l).power ≠ .off) (fitted : l.val < s.fitted) (p : Purpose) (x : Option CallResult) :
    (s.handBack l p x).call l = none ∧ ((s.handBack l p x).ctl l).grant = none ∧
      ((s.handBack l p x).ctl l).occupancy = shown (s.ctl l).classOcc := by
  obtain ⟨supplied, -⟩ := s.takenBack_supplied l p x
  simp only [LineCtl.supplied, Prod.mk.injEq] at supplied
  obtain ⟨power1, -, lend1, enabled1⟩ := supplied
  obtain ⟨grant1, classOcc1⟩ := State.takenBack_ctl (s := s) (l := l) p x
  obtain ⟨power2, promotion2, yielded, on⟩ := (s.takenBack l p x).yieldPower_ctl l
  have call : ((s.takenBack l p x).yieldPower l).call l = none :=
    (State.yieldPower_call l).trans (State.takenBack_call p x)
  have still : ((s.takenBack l p x).yieldPower l).still = s.still := by simp [State.takenBack]
  have fitted' : ((s.takenBack l p x).yieldPower l).fitted = s.fitted := congrArg (fun y => y.base.fitted) still
  have same (u : State) : u.tell.ctl l = u.ctl l ∧ u.tell.call l = u.call l := ⟨rfl, rfl⟩
  have vacated : ((s.takenBack l p x).yieldPower l).vacated l = (((s.takenBack l p x).yieldPower l).recompute l).tell := by
    unfold State.vacated
    rw [if_neg (by simp [yielded, enabled1, enabled]), if_neg (by simp [yielded, lend1, lend])]
  have shows := State.occupancyNow_on ((s.takenBack l p x).yieldPower l) l
    (by rw [fitted']; exact fitted)
    (by rw [yielded]; exact on (by rw [power1]; exact power))
  rw [State.handBack_eq, vacated, (same _).1, (same _).2, State.recompute_call, State.recompute_ctl_same, shows]
  exact ⟨call, by rw [yielded]; exact grant1, by simp [yielded, lend1, lend, grant1, call, classOcc1]⟩

/-- The call dropped: no result, no call, no grant; its receiver is READY with its failures (R31, R88, R106). -/
theorem State.endContext_idle (lend : (s.ctl l).lend = .none) (enabled : (s.ctl l).disablePending = false)
    (power : (s.ctl l).power ≠ .off) (fitted : l.val < s.fitted) (c : Call) :
    (s.endContext l c none).call l = none ∧ ((s.endContext l c none).ctl l).grant = none ∧
      ((s.endContext l c none).ctl l).occupancy = shown (s.ctl l).classOcc ∧
      (c.purpose = .report → ∀ e, c.receiver = some e →
        (s.endContext l c none).rx e = { state := .ready, failures := (s.rx e).failures, due := none }) := by
  obtain ⟨call, grant, occupancy⟩ := State.handBack_idle lend enabled power fitted c.purpose none
  have noticed : s.endNoticed l c none = s := rfl
  have ended := s.endContext_eq l c none
  rw [noticed] at ended
  cases receiver : c.receiver with
  | none =>
    rw [receiver] at ended
    rw [ended]; exact ⟨call, grant, occupancy, fun _ _ h => nomatch h⟩
  | some e =>
    rw [receiver] at ended
    have told : ((s.handBack l c.purpose none).receiverResult e none) =
        ((s.handBack l c.purpose none).setRx e { (s.handBack l c.purpose none).rx e with state := .ready, due := none }).tell :=
      rfl
    rw [ended]
    refine ⟨call, grant, occupancy, fun report k h => ?_⟩
    cases h
    have rx : (s.handBack l c.purpose none).rx e = s.rx e := by
      rw [report]; exact State.rx_congr (s.handBack_receivers l none (by simp) (by simp)) e
    exact (State.setRx_rx_same _ e _).trans (by rw [rx])

end dropped

/-! ### A call released on its line (R127) -/

section released
variable {s : State} {l : LineNo} {c : Call} {res : CallResult}

/-- The records of the line's slots are back, and the sender is silent (R127). -/
def State.recordsBack (s : State) (l : LineNo) : State :=
  (((s.setBusy true).setSender l none).returnAll (((s.setBusy true).setSender l none).line l).sending.tickets).returnAll
    (((s.setBusy true).setSender l none).line l).next.tickets

/-- The release up to what the returned records hand on. -/
def State.releaseBegun (s : State) (l : LineNo) (c : Call) (res : CallResult) : State :=
  (((((s.recordsBack l).setSlots l Slot.empty Slot.empty).setIface l Iface.reset).setDetector l Detector.stopped).setCall l
    (some { c with
      state := .release, stateTimer := some (s.now + guardTime), limitTimer := none, result := some res })).setBusy false

theorem State.releaseCall_eq : s.releaseCall l c res = (s.releaseBegun l c res).drain := rfl

theorem State.recordsBack_line :
    (s.recordsBack l).line l = { s.line l with iface := { (s.line l).iface with sender := none } } := by
  have kept : (s.recordsBack l).lines = ((s.setBusy true).setSender l none).lines := by simp [State.recordsBack]
  rw [State.line_congr kept, State.setSender, State.setIface_line, if_pos rfl]; rfl

theorem State.releaseBegun_line : (s.releaseBegun l c res).line l = (s.line l).released c res s.now := by
  have noted (u : State) : (u.setBusy false).line l = u.line l := rfl
  rw [State.releaseBegun, noted]
  simp only [State.setIface, State.setSlots, State.setDetector, State.setCall, State.setLine_line_same,
    State.recordsBack_line]
  rfl

theorem State.releaseBegun_exitDue : (s.releaseBegun l c res).work.exitDue = s.work.exitDue := by
  have returns (u : State) (ks : List Nat) : (u.returnAll ks).work.exitDue = u.work.exitDue :=
    foldl_view (fun v => v.work.exitDue) _ State.returnRecord_exitDue ks u
  have back : (s.recordsBack l).work.exitDue = s.work.exitDue := by rw [State.recordsBack, returns, returns]; rfl
  exact back

theorem Line.released_deaf (x : Line) (now : Nat) : (x.released c res now).Deaf := by
  intro d h e
  cases h
  simp [takesHandOns]

theorem State.releaseCall_line : (s.releaseCall l c res).line l = (s.line l).released c res s.now := by
  have begun : (s.releaseBegun l c res).line l = (s.line l).released c res s.now := State.releaseBegun_line
  rw [State.releaseCall_eq, State.drain_line _ (by rw [begun]; exact Line.released_deaf _ _), begun]

theorem State.releaseCall_exitDue : (s.releaseCall l c res).work.exitDue = s.work.exitDue := by
  rw [State.releaseCall_eq, State.drain_exitDue, State.releaseBegun_exitDue]

end released

end Sys2Proof.Machine
end

section
/-! A confirmed class on a line without a call, under a call in PREPARE and under a call that has taken the line; a confirmed reversal of polarity; and the statement on both (O16). -/

namespace Sys2Proof.Machine

/-! ### Without a call, behind a CLOSED gate (R18, R21, R36) -/

section idle
variable {s : State} {l : LineNo} {r : ClassReport}

theorem class_without_call (closed : s.Closed) (call : s.call l = none) :
    Stands (s.classNoted l r) (s.classReport l r).settle := by
  rw [State.classReport_none call]; exact (closed.classNoted l r).settle

/-- A class that leaves the class occupancy leaves the whole control state. -/
theorem State.classNoted_same (same : classOccAfter (s.ctl l).classOcc r = (s.ctl l).classOcc) :
    (s.classNoted l r).ctl l = s.ctl l := by
  rw [State.classNoted_ctl, same, State.setClassOcc_same]

/-- A class that changes the class occupancy, on a fitted line that is not OFF. -/
theorem State.classNoted_changed (changed : classOccAfter (s.ctl l).classOcc r ≠ (s.ctl l).classOcc)
    (fitted : l.val < s.fitted) (power : (s.ctl l).power ≠ .off) :
    (s.classNoted l r).ctl l =
      { s.ctl l with
        classOcc := classOccAfter (s.ctl l).classOcc r
        lendIdle := if (s.ctl l).lend = .lent ∧ classOccAfter (s.ctl l).classOcc r = .free then s.lendTimerStart else none
        occupancy :=
          if (s.ctl l).lend = .lent then .lent
          else if (s.ctl l).grant.isSome || (s.call l).isSome then .call
          else shown (classOccAfter (s.ctl l).classOcc r) } := by
  obtain ⟨occupancy, ctl, shows⟩ := s.setClassOcc_ctl l changed
  rw [State.classNoted_ctl, ctl, shows fitted power]

end idle

/-! ### Under a call in PREPARE (R31, R106) -/

section prepare
variable {s : State} {l : LineNo} {r : ClassReport} {c : Call} (call : s.call l = some c) (prepare : c.state = .prepare)
  (changed : classOccAfter (s.ctl l).classOcc r ≠ (s.ctl l).classOcc)
  (fitted : l.val < s.fitted) (power : (s.ctl l).power ≠ .off) (lend : (s.ctl l).lend = .none)
include call prepare changed fitted power lend

/-- The call goes on where the class occupancy does not drop it. -/
theorem State.classReport_kept (kept : ¬Dropped c.purpose (classOccAfter (s.ctl l).classOcc r) (s.ctl l).grant) :
    s.classReport l r = s.classNoted l r ∧ (s.classNoted l r).call l = some c ∧
      ((s.classNoted l r).ctl l).occupancy = .call := by
  have noted := State.classNoted_changed changed fitted power
  have call' : (s.classNoted l r).call l = some c := (s.classNoted_call l r l).trans call
  refine ⟨?_, call', by rw [noted]; simp [lend, call]⟩
  rw [State.classReport_eq, if_neg changed, State.prepareChange_kept call' prepare (by rw [noted]; exact kept),
    State.callClass_prepare call' prepare]

/-- The call is dropped where it does. -/
theorem State.classReport_dropped (enabled : (s.ctl l).disablePending = false)
    (dropped : Dropped c.purpose (classOccAfter (s.ctl l).classOcc r) (s.ctl l).grant) :
    s.classReport l r = (s.classNoted l r).endContext l c none ∧ (s.classReport l r).call l = none ∧
      ((s.classReport l r).ctl l).grant = none ∧
      ((s.classReport l r).ctl l).occupancy = shown (classOccAfter (s.ctl l).classOcc r) ∧
      (c.purpose = .report → ∀ e, c.receiver = some e →
        (s.classReport l r).rx e = { state := .ready, failures := (s.rx e).failures, due := none }) := by
  have noted := State.classNoted_changed changed fitted power
  have call' : (s.classNoted l r).call l = some c := (s.classNoted_call l r l).trans call
  have fitted' : (s.classNoted l r).fitted = s.fitted := congrArg (fun y => y.base.fitted) (s.classNoted_still l r)
  have rx (e : RxNo) : (s.classNoted l r).rx e = s.rx e := State.rx_congr (s.classNoted_receivers l r) e
  obtain ⟨gone, grant, occupancy, receiver⟩ := State.endContext_idle (s := s.classNoted l r) (l := l)
    (by rw [noted]; exact lend) (by rw [noted]; exact enabled) (by rw [noted]; exact power)
    (by rw [fitted']; exact fitted) c
  have ended : s.classReport l r = (s.classNoted l r).endContext l c none := by
    rw [State.classReport_eq, if_neg changed, State.prepareChange_dropped call' prepare (by rw [noted]; exact dropped),
      State.callClass_none gone]
  rw [ended]
  refine ⟨rfl, gone, grant, by rw [occupancy, noted], fun report e h => ?_⟩
  rw [receiver report e h, rx]

end prepare

/-! ### Under a call that has taken the line (R20, R115, R123) -/

section taken
variable {s : State} {l : LineNo} {r : ClassReport} {c : Call}

theorem State.occupancyNow_called (call : s.call l = some c) : (s.occupancyNow l).searched = false := by
  unfold State.occupancyNow; dsimp only; split
  · rfl
  · split
    · rfl
    · rw [call]; simp; rfl

/-- A line in CALL stays one that no search ends on, with its lend as it is. -/
theorem State.classNoted_unsearched (call : s.call l = some c) (occupancy : (s.ctl l).occupancy = .call) :
    ((s.classNoted l r).ctl l).occupancy.searched = false ∧ ((s.classNoted l r).ctl l).lend = (s.ctl l).lend := by
  rw [State.classNoted_ctl]
  unfold State.setClassOcc; dsimp only; split
  · exact ⟨by rw [occupancy]; rfl, rfl⟩
  · rw [State.recompute_ctl_same, State.setCtl_ctl_same]
    exact ⟨State.occupancyNow_called ((s.setCtl_call l _ l).trans call), rfl⟩

variable (call : s.call l = some c) (n : c.state ≠ .prepare) (m : c.state ≠ .release)
include call n

theorem State.classReport_stays (stays : ¬EndsCall c.state r.new) : s.classReport l r = s.classNoted l r := by
  have call' : (s.classNoted l r).call l = some c := (s.classNoted_call l r l).trans call
  rw [State.classReport_eq, State.prepareChange_taken call' n, ite_self, State.callClass_stays call' stays]

include m

theorem State.classReport_ends (ends : EndsCall c.state r.new) :
    s.classReport l r = (s.classNoted l r).releaseCall l c (c.resultOf .lineDown) := by
  have call' : (s.classNoted l r).call l = some c := (s.classNoted_call l r l).trans call
  rw [State.classReport_eq, State.prepareChange_taken call' n, ite_self, State.callClass_ends call' n m ends]

/-- The released call's line at the end of the command (R127). -/
theorem class_releases (exit : s.work.exitDue = false) (occupancy : (s.ctl l).occupancy = .call)
    (lend : (s.ctl l).lend ≠ .lent) (ends : EndsCall c.state r.new) :
    ((s.classReport l r).settle.line l).parked =
      (((s.classNoted l r).line l).released c (c.resultOf .lineDown) s.now).parked := by
  obtain ⟨unsearched, lend'⟩ := State.classNoted_unsearched (r := r) call occupancy
  have now : (s.classNoted l r).now = s.now := congrArg (fun y => y.base.now) (s.classNoted_still l r)
  have line := State.releaseCall_line (s := s.classNoted l r) (l := l) (c := c) (res := c.resultOf .lineDown)
  have ctl : ((s.classNoted l r).releaseCall l c (c.resultOf .lineDown)).ctl l = (s.classNoted l r).ctl l := by
    rw [State.ctl, line]; rfl
  rw [now] at line
  rw [State.classReport_ends call n m ends]
  have kept := State.settle_parked (s := (s.classNoted l r).releaseCall l c (c.resultOf .lineDown)) (l := l)
    (by rw [State.releaseCall_exitDue, State.classNoted_exitDue]; exact exit) (by rw [ctl]; exact unsearched)
    (by rw [ctl, lend']; exact lend) (by rw [line]; exact Line.released_deaf _ _)
  rw [kept, line]

end taken

end Sys2Proof.Machine
end

section
/-! A confirmed reversal of polarity; what a confirming sample makes of a line by the state of its call; and the statement on both (O16). -/

namespace Sys2Proof.Machine

/-! ### A confirmed reversal of polarity (R8, R121) -/

section polarity
variable {u : Sense} {window : List Int} {p : Polarity} {now : Nat}

theorem Sense.applyPolarity_changes (known : u.polarity.isSome) (h : u.polarity ≠ some p) (g : 4 ≤ u.polarityCount p) :
    (u.applyPolarity p).2 = some p := by
  unfold Sense.applyPolarity; dsimp only; rw [if_neg h]
  exact (congrArg Prod.snd (if_pos g)).trans (if_pos known)

theorem Sense.endWindow_change (h : windowClass u.confirmed window ≠ .ring) (g : window.sum ≠ 0) :
    (u.endWindow window now).2.2 = ((u.classed window now).applyPolarity (windowSign window)).2 := by
  have sign : windowPolarity window = some (windowSign window) := by rw [windowPolarity_eq, if_neg g]
  unfold Sense.endWindow; dsimp only; rw [sign]; split
  · next ring => exact absurd ring h
  · next none _ => cases none
  · next some _ => cases some; rfl

theorem Sense.applyClass_unconfirmed {w : LoopClass} (h : ¬u.Confirming w) : (u.applyClass w).2 = none := by
  by_cases same : w = u.confirmed
  · rw [Sense.applyClass_same (Sense.settling_of_not_confirming h) same]
  · rw [Sense.applyClass_counting h same]

theorem Sense.endWindow_unconfirmed (h : ∀ w, ¬Confirms u window w) : (u.endWindow window now).2.1 = none := by
  rw [Sense.endWindow_report, windowClass_eq]
  exact Sense.applyClass_unconfirmed fun confirming => h _ (Sense.confirming_iff.2 ⟨rfl, confirming⟩)

/-- The fourth window of the other sign turns the polarity and reports it. -/
theorem Sense.endWindow_turns (ring : classOfWindow u.confirmed window ≠ .ring)
    (before : u.polarity = some (if p = .positive then .negative else .positive)) (run : u.polarityRun = some (p, 3))
    (sign : if p = .positive then 0 < window.sum else window.sum < 0) :
    (u.endWindow window now).1.polarity = some p ∧ (u.endWindow window now).2.2 = some p := by
  have other : u.polarity ≠ some p := by rw [before]; cases p <;> simp
  have counted : 4 ≤ u.polarityCount p := by simp [Sense.polarityCount, run]
  obtain ⟨nonzero, rfl⟩ : window.sum ≠ 0 ∧ windowSign window = p := by
    unfold windowSign
    cases p with
    | positive => rw [if_pos rfl] at sign; exact ⟨by omega, if_pos sign⟩
    | negative => rw [if_neg (by simp)] at sign; exact ⟨by omega, if_neg (by omega)⟩
  obtain ⟨polarity, polarityRun⟩ := u.classed_polarity window now
  have turned := (u.endWindow_polarity_counted window now ⟨ring, nonzero⟩).2.1 other counted
  refine ⟨turned.1, ?_⟩
  rw [Sense.endWindow_change (by rw [windowClass_eq]; exact ring) nonzero]
  exact Sense.applyPolarity_changes (by rw [polarity, before]; rfl) (by rw [polarity]; exact other)
    (by simp only [Sense.polarityCount, polarityRun]; exact counted)

/-- A sample that confirms no class and turns the polarity tells the call alone. -/
theorem State.loopSample_turns {s : State} {l : LineNo} {volts : Int} (full : (s.sense l).window.length = 7)
    (unconfirmed : ∀ w, ¬Confirms (s.sense l) ((s.sense l).window ++ [max (-1500) (min 1500 volts)]) w)
    (turns : ∀ u, (s.sense l).endWindow ((s.sense l).window ++ [max (-1500) (min 1500 volts)]) s.now = u →
      u.1.polarity = some p ∧ u.2.2 = some p) :
    ∃ u : Sense, u.polarity = some p ∧ s.loopSample l volts = (s.setSense l u).callPolarity l := by
  have silent := Sense.endWindow_unconfirmed (now := s.now) unconfirmed
  unfold State.loopSample
  rw [Sense.sample_eighth _ _ _ full, clipVolts_eq]
  generalize (s.sense l).endWindow ((s.sense l).window ++ [max (-1500) (min 1500 volts)]) s.now = ended at silent turns ⊢
  obtain ⟨u, report, change⟩ := ended
  obtain ⟨polarity, changed⟩ := turns _ rfl
  cases silent; cases changed
  exact ⟨u, polarity, rfl⟩

/-- The answer indication takes RING-WAIT to HANDSHAKE and leaves a call in another state alone (R121). -/
theorem State.callPolarity_call {s : State} {l : LineNo} {c : Call} (call : s.call l = some c) :
    (s.callPolarity l).call l =
      some (if c.state = .ringWait then { c with state := .handshake, stateTimer := some (s.now + 20000) } else c) := by
  unfold State.callPolarity; rw [call]; dsimp only; split
  · exact (s.setCall_call l _).trans (by rw [call]; rfl)
  · exact call

@[simp] theorem State.callPolarity_ctl (s : State) (l k : LineNo) : (s.callPolarity l).ctl k = s.ctl k := by
  unfold State.callPolarity; split
  · rfl
  · split
    · simp
    · rfl

@[simp] theorem State.callPolarity_work (s : State) (l : LineNo) : (s.callPolarity l).work = s.work := by
  unfold State.callPolarity; split
  · rfl
  · split <;> rfl

end polarity

/-! ### A confirmed class by the state of the call -/

section idle
variable {s : State} {l : LineNo} {r : ClassReport} (closed : s.Closed) (call : s.call l = none)
include closed call

/-- Without a call: occupancy and lend idle timer (R18, R36). -/
theorem class_idle_occupancy (grant : (s.ctl l).grant = none) (fitted : l.val < s.fitted) (power : (s.ctl l).power ≠ .off) :
    let o := classOccAfter (s.ctl l).classOcc r
    let v := (s.classReport l r).settle
    (o = (s.ctl l).classOcc → v.ctl l = s.ctl l) ∧
      (o ≠ (s.ctl l).classOcc →
        (v.ctl l).occupancy = (if (s.ctl l).lend = .lent then .lent else shown o) ∧
        (v.ctl l).lendIdle =
          if (s.ctl l).lend = .lent ∧ o = .free ∧ s.t1.lendIdle ≠ 0 then some (s.now + s.t1.lendIdle * 1000) else none) := by
  have stands := class_without_call (r := r) closed call
  refine ⟨fun same => (stands.ctl l).trans (State.classNoted_same same), fun changed => ?_⟩
  rw [stands.ctl, State.classNoted_changed changed fitted power, grant, call, State.lendTimerStart_eq]
  refine ⟨by simp, ?_⟩
  dsimp only
  by_cases kept : (s.ctl l).lend = .lent ∧ classOccAfter (s.ctl l).classOcc r = .free
  · obtain ⟨lent, free⟩ := kept
    simp [lent, free]
  · rw [if_neg kept, if_neg fun all => kept ⟨all.1, all.2.1⟩]

/-- Without a call: the fault list and the queue at the end of the command (R21). -/
theorem class_idle_reports :
    let v := (s.classReport l r).settle
    (r.new = .dead → ⟨.lineDown, num l, true⟩ ∈ v.link.faults ∧
      (s.joinable (trouble .new 901 (num l)) = none → s.ordinaryCount < 32 →
        v.reports = s.reports ++ [(s.ticketToGive, trouble .new 901 (num l))])) ∧
    (r.new ≠ .dead → r.old = .dead →
      (s.FaultsKept → ⟨.lineDown, num l, true⟩ ∉ v.link.faults) ∧
      (s.joinable (trouble .restore 901 (num l)) = none → s.ordinaryCount < 32 →
        v.reports = s.reports ++ [(s.ticketToGive, trouble .restore 901 (num l))])) ∧
    (r.new ≠ .dead → r.old ≠ .dead → v.reports = s.reports) := by
  have stands := class_without_call (r := r) closed call
  have faults : (⟨.lineDown, num l, true⟩ : FaultEntry) ∈ (s.classReport l r).settle.link.faults ↔
      ⟨.lineDown, num l, true⟩ ∈ (s.classNoted l r).link.faults := stands.faults rfl
  dsimp only
  rw [faults, stands.reports]
  exact s.classNoted_reports l r

end idle

section prepare
variable {s : State} {l : LineNo} {r : ClassReport} {c : Call} (call : s.call l = some c) (prepare : c.state = .prepare)
  (changed : classOccAfter (s.ctl l).classOcc r ≠ (s.ctl l).classOcc)
  (fitted : l.val < s.fitted) (power : (s.ctl l).power ≠ .off) (lend : (s.ctl l).lend = .none)
include call prepare changed fitted power lend

/-- Under a call in PREPARE: kept or dropped, as it is at the end of the command (R31, R106). -/
theorem class_prepare (closed : s.Closed) (enabled : (s.ctl l).disablePending = false) :
    let o := classOccAfter (s.ctl l).classOcc r
    let v := (s.classReport l r).settle
    (¬Dropped c.purpose o (s.ctl l).grant → v.call l = some c ∧ (v.ctl l).occupancy = .call) ∧
      (Dropped c.purpose o (s.ctl l).grant →
        v.call l = none ∧ (v.ctl l).grant = none ∧ (v.ctl l).occupancy = shown o ∧
          (c.purpose = .report → ∀ e, c.receiver = some e →
            v.rx e = { state := .ready, failures := (s.rx e).failures, due := none })) := by
  dsimp only
  refine ⟨fun kept => ?_, fun dropped => ?_⟩
  · obtain ⟨noted, call', occupancy⟩ := State.classReport_kept call prepare changed fitted power lend kept
    have stands := (closed.classNoted l r).settle
    rw [noted, stands.call, stands.ctl]
    exact ⟨call', occupancy⟩
  · obtain ⟨ended, gone, grant, occupancy, receiver⟩ :=
      State.classReport_dropped call prepare changed fitted power lend enabled dropped
    have stands : Stands (s.classReport l r) (s.classReport l r).settle := by
      rw [ended]; exact ((closed.classNoted l r).endContext l c none).settle
    rw [stands.call, stands.ctl]
    exact ⟨gone, grant, occupancy, fun report e h => (stands.rx e).trans (receiver report e h)⟩

/-- No call in RING-WAIT is left on the line for an answer indication of the same sample. -/
theorem class_prepare_unheard (enabled : (s.ctl l).disablePending = false) :
    ∀ d, (s.classReport l r).call l = some d → d.state ≠ .ringWait := by
  intro d h
  by_cases dropped : Dropped c.purpose (classOccAfter (s.ctl l).classOcc r) (s.ctl l).grant
  · obtain ⟨-, gone, -⟩ := State.classReport_dropped call prepare changed fitted power lend enabled dropped
    rw [gone] at h; cases h
  · obtain ⟨noted, call', -⟩ := State.classReport_kept call prepare changed fitted power lend dropped
    rw [noted, call'] at h; cases h
    rw [prepare]; simp

end prepare

section taken
variable {s : State} {l : LineNo} {r : ClassReport} {c : Call} (call : s.call l = some c) (n : c.state ≠ .prepare)
  (m : c.state ≠ .release) (exit : s.work.exitDue = false) (occupancy : (s.ctl l).occupancy = .call)
  (lend : (s.ctl l).lend ≠ .lent)
include call n exit occupancy lend

/-- Under a call that goes on. -/
theorem class_stays (stays : ¬EndsCall c.state r.new) : (s.classReport l r).settle.call l = some c := by
  obtain ⟨unsearched, lend'⟩ := State.classNoted_unsearched (r := r) call occupancy
  rw [State.classReport_stays call n stays,
    State.settle_call (by rw [State.classNoted_exitDue]; exact exit) unsearched (by rw [lend']; exact lend)]
  exact (s.classNoted_call l r l).trans call

include m

/-- Under a call that ends LINE-DOWN: call, interface and slots (R127). -/
theorem class_ends (ends : EndsCall c.state r.new) :
    let v := (s.classReport l r).settle
    v.call l = some
        { c with
          state := .release, stateTimer := some (s.now + 2000), limitTimer := none
          result := some (resultFor c.purpose .lineDown) } ∧
      (v.line l).iface = { offHook := false, relayOpen := false, sender := none } ∧
      (v.line l).sending.tickets = [] ∧ (v.line l).next.tickets = [] := by
  obtain ⟨released, iface, -, sending, next⟩ := parked_line (class_releases call n m exit occupancy lend ends)
  rw [← c.resultOf_eq]
  exact ⟨released, iface, by rw [sending]; rfl, by rw [next]; rfl⟩

end taken

/-- The statement's test of a dropped call is `Dropped`. -/
theorem dropped_iff (p : Purpose) (o : ClassOcc) (g : Option Grant) :
    Dropped p o g ↔ match p with
      | .probe => o ≠ .free
      | .report => o = .ringing ∨ o = .down ∨ (o = .tenant ∧ g ≠ some .seizing) := by
  cases p <;> simp [Dropped]

theorem State.callPolarity_unheard {s : State} {l : LineNo} (h : ∀ c, s.call l = some c → c.state ≠ .ringWait) :
    s.callPolarity l = s := by
  cases call : s.call l with
  | none => exact State.callPolarity_none call
  | some c => exact State.callPolarity_other call (h c call)

/-! ### The statement -/

/-- Settles O16: the confirming sample is a CLASS report on the line as the window left it, and each state of its call has its own lemma on that report; a reversal of polarity tells the call alone. -/
theorem classReportsSetOccupancy : Obligations.ClassReportsSetOccupancy := by
  constructor
  · intro t l volts w s rested power enabled full x u confirms o
    obtain ⟨u', sampled⟩ := State.loopSample_confirms (s := s.advance t) full confirms
    set z := (s.advance t).setSense l u'
    set r := ((s.advance t).sense l).classReport w
    have ctl : z.ctl l = s.ctl l := by simp [z]
    have call : z.call l = s.call l := State.setSense_call _ l u' l
    have exit : z.work.exitDue = false := congrArg Work.exitDue rested
    have on : (z.ctl l).power ≠ .off := by rw [ctl]; exact power
    have free : (z.ctl l).disablePending = false := by rw [ctl]; exact enabled
    have after : classOccAfter (z.ctl l).classOcc r = o := by rw [ctl]; exact classOccAfter_eq u x.classOcc w
    have unheard (h : ∀ c, (z.classReport l r).call l = some c → c.state ≠ .ringWait) :
        (s.advance t).loopSample l volts = z.classReport l r :=
      sampled.elim id fun turned => turned.trans (State.callPolarity_unheard h)
    refine ⟨_, exec_loopSample_on t l s volts power, ?_, fun none grant gate fitted => ?_,
      fun c has prepare gate lend fitted changed => ?_, fun c has n m occupancy lend => ⟨fun ends => ?_, fun stays other => ?_⟩⟩
    · have reported : (z.classReport l r).sensed l = (z.sense l, o, false) := by rw [z.classReport_sensed l r free, after]
      have sensed : ((s.advance t).loopSample l volts).sensed l = (z.sense l, o, false) := by
        rcases sampled with e | e <;> rw [e]
        · exact reported
        · rw [State.callPolarity_sensed]; exact reported
      have kept := State.settle_sensedKept l _ (congrArg (fun y => y.2.2) sensed)
      exact congrArg (fun y => y.2.1) (kept.trans sensed)
    · have closed : z.Closed := .of_rested (s := z) rested gate
      have uncalled : z.call l = Option.none := call.trans none
      have occupancy := class_idle_occupancy (r := r) closed uncalled (by rw [ctl]; exact grant) fitted on
      rw [after, ctl] at occupancy
      rw [unheard fun c h => by rw [z.classReport_none uncalled, State.classNoted_call, uncalled] at h; cases h]
      obtain ⟨same, changed⟩ := occupancy
      exact ⟨same, changed, class_idle_reports (r := r) closed uncalled⟩
    · have closed : z.Closed := .of_rested (s := z) rested gate
      have has' : z.call l = some c := call.trans has
      have changed' : classOccAfter (z.ctl l).classOcc r ≠ (z.ctl l).classOcc := by rw [after, ctl]; exact changed
      have lend' : (z.ctl l).lend = .none := by rw [ctl]; exact lend
      have course := class_prepare has' prepare changed' fitted on lend' closed free
      rw [after, ctl] at course
      rw [unheard (class_prepare_unheard has' prepare changed' fitted on lend' free)]
      obtain ⟨kept, dropped⟩ := course
      exact ⟨fun h => kept fun d => h ((dropped_iff _ _ _).1 d), fun d => dropped ((dropped_iff _ _ _).2 d)⟩
    · have released := State.releaseCall_line (s := z.classNoted l r) (l := l) (c := c) (res := c.resultOf .lineDown)
      rw [unheard fun d h => by
        rw [State.classReport_ends (r := r) (call.trans has) n m ends, State.call, released] at h
        cases h; simp]
      exact class_ends (r := r) (call.trans has) n m exit (by rw [ctl]; exact occupancy) (by rw [ctl]; exact lend) ends
    · rw [unheard fun d h => by
        rw [State.classReport_stays (r := r) (call.trans has) n stays, State.classNoted_call, call, has] at h
        cases h; exact other]
      exact class_stays (r := r) (call.trans has) n exit (by rw [ctl]; exact occupancy) (by rw [ctl]; exact lend) stays
  · intro t l volts p s rested power enabled full u window unconfirmed ring before run sign
    obtain ⟨u', polarity, sampled⟩ := State.loopSample_turns (s := s.advance t) (volts := volts) (p := p) full unconfirmed
      fun _ h => by rw [← h]; exact Sense.endWindow_turns ring before run sign
    have idle : (((s.advance t).setSense l u').callPolarity l).work = Work.idle := by
      rw [State.callPolarity_work]; exact rested
    refine ⟨_, exec_loopSample_on t l s volts power, ?_, ?_, fun c has => ?_⟩ <;>
      rw [sampled, State.settle_rested _ idle]
    · rw [sense_of_sensed (congrFun (State.callPolarity_sensed _ l) l)]
      simp [polarity]
    · exact (State.callPolarity_ctl _ l l).trans (by simp)
    · have turned := State.callPolarity_call (s := (s.advance t).setSense l u') (l := l) ((State.setSense_call _ l u' l).trans has)
      rw [turned]
      exact ⟨fun wait => by rw [if_pos wait]; rfl, fun other => by rw [if_neg other]⟩

end Sys2Proof.Machine
end

section
/-! The Input Monitor channel by channel: what a reconciliation and a force make of the channel, of the others, and which reports they hand to the queue, in order (R42 to R45, R49). -/

namespace Sys2Proof.Machine

/-! ### Reports handed over in turn -/

/-- The queue was handed some reports in turn, and nothing else was done to it, nor to the note of an exit that is due. -/
inductive Handed (s : State) : List Report → State → Prop
  | none : Handed s [] s
  | beside {rs : List Report} {t u : State} (h : Handed s rs t) (queue : u.queue = t.queue)
      (exit : u.work.exitDue = t.work.exitDue) : Handed s rs u
  | report {rs : List Report} {t : State} (h : Handed s rs t) (rep : Report) : Handed s (rs ++ [rep]) (t.report rep)

section handed
variable {s t u : State} {rs rs' : List Report}

theorem Handed.trans (h : Handed s rs t) (g : Handed t rs' u) : Handed s (rs ++ rs') u := by
  induction g with
  | none => simpa using h
  | beside _ queue exit ih => exact ih.beside queue exit
  | report _ rep ih => rw [← List.append_assoc]; exact ih.report rep

theorem Handed.reports (h : Handed s rs t) (more : List Report) : Handed s (rs ++ more) (more.foldl State.report t) := by
  induction more generalizing rs t with
  | nil => simpa using h
  | cons rep more ih => simpa using ih (h.report rep)

theorem Handed.setChannel (c : ChannelNo) (x : InputChannel) : Handed s [] (s.setChannel c x) :=
  Handed.none.beside rfl rfl

/-- No report of class FIRE, no exit from SERVICE (R65 step 2). -/
theorem Handed.exitDue (h : Handed s rs t) (calm : ∀ r ∈ rs, r.cls ≠ .fire) : t.work.exitDue = s.work.exitDue := by
  induction h with
  | none => rfl
  | beside _ _ exit ih => exact exit.trans (ih calm)
  | report _ rep ih =>
    rw [State.report_exitDue _ (calm rep (by simp))]
    exact ih fun r mem => calm r (by simp [mem])

/-- Reports are of one identity when they differ in the class alone (R57). -/
theorem sameIdentity_iff (a b : Report) : sameIdentity a b = true ↔ { a with cls := b.cls } = b := by
  cases a; cases b; simp [sameIdentity, and_assoc]

/-- No record is there to join where no report in the queue has the identity (R61). -/
theorem State.joinable_none {rep : Report} (new : ∀ x ∈ s.reports, { x.2 with cls := rep.cls } ≠ rep) :
    s.joinable rep = Option.none := by
  refine List.find?_eq_none.2 fun r mem joins => ?_
  have held : r ∈ s.queue.records := by
    obtain ⟨cls, -, filtered⟩ := List.mem_flatMap.1 mem
    exact (List.mem_filter.1 filtered).1
  refine new (r.ticket, r.report) (List.mem_map.2 ⟨r, held, rfl⟩) ((sameIdentity_iff _ _).1 ?_)
  simp only [Bool.and_eq_true] at joins
  exact joins.1

/-- The number of ordinary records is read from the roster. -/
theorem State.ordinaryCount_eq (s : State) : s.ordinaryCount = s.roster.held.countP fun x => !x.2.2 := by
  simp [State.ordinaryCount, State.roster, List.countP_map, Record.entry, Function.comp_def]

theorem State.enter_ordinaryCount (s : State) (rep : Report) (n : Nat) :
    (s.enter rep false n).ordinaryCount = s.ordinaryCount + 1 := by
  rw [State.ordinaryCount_eq, State.enter_roster, State.ordinaryCount_eq]; simp

/-- Reports of inputs, each of an identity of its own, enter one behind the other (R58, R60). -/
theorem Handed.enter (h : Handed s rs t) (input : ∀ r ∈ rs, r.source = .input) : Enter s t rs := by
  intro others distinct room
  suffices all : (∃ new, t.reports = s.reports ++ new ∧ new.map Prod.snd = rs) ∧
      t.ordinaryCount = s.ordinaryCount + rs.length from all.1
  induction h with
  | none => exact ⟨⟨[], by simp, rfl⟩, rfl⟩
  | beside _ queue _ ih =>
    simpa only [State.reports, State.ordinaryCount, queue] using ih input distinct room
  | @report rs t _ rep ih =>
    obtain ⟨before, -, apart⟩ := List.pairwise_append.1 distinct
    simp only [List.length_append, List.length_singleton] at room
    obtain ⟨⟨new, reports, news⟩, count⟩ := ih (fun r mem => input r (by simp [mem])) before (by omega)
    have fresh : t.joinable rep = Option.none := by
      refine State.joinable_none fun x mem same => ?_
      rw [reports, List.mem_append] at mem
      rcases mem with held | handed
      · obtain ⟨r, record, rfl⟩ := List.mem_map.1 held
        exact others r record ((congrArg Report.source same).trans (input rep (by simp)))
      · exact apart x.2 (news ▸ List.mem_map_of_mem handed) rep (by simp) same
    have entered : t.report rep = t.enter rep false 0 := by
      rw [State.report, t.admit_new rep fresh (by omega)]
    rw [entered]
    refine ⟨⟨new ++ [(t.ticketToGive, rep)], ?_, by simp [news]⟩, ?_⟩
    · rw [State.reports_enter, reports, List.append_assoc]
    · rw [State.enter_ordinaryCount, count, List.length_append, List.length_singleton, Nat.add_assoc]

end handed

/-! ### One channel (R42, R43, R45, R49) -/

section channel
variable (s : State) (c : ChannelNo)

theorem State.t6_of_base {s t : State} (h : t.base = s.base) (c : ChannelNo) : t.t6 c = s.t6 c := by
  have tables : t.tables = s.tables := congrArg Base.tables h
  rw [State.t6, State.t6, tables]

theorem State.setChannel_self : s.setChannel c (s.channel c) = s := by
  cases s; simp [State.setChannel, State.channel]

theorem State.reports_channel (rs : List Report) (k : ChannelNo) : (rs.foldl State.report s).channel k = s.channel k :=
  State.channel_congr (State.reports_channels s rs) k

/-- The fault entry of a channel's wiring set as the wiring part of a reconciliation asks (R42). -/
def State.noteWiring (s : State) (c : ChannelNo) (active : Bool) : State :=
  if active then s.faultActive .channelWiring (num c) else s.faultCleared .channelWiring (num c)

theorem State.noteWiring_still (active : Bool) : (s.noteWiring c active).still = s.still := by
  unfold State.noteWiring; split <;> simp

theorem State.noteWiring_beside (active : Bool) :
    (s.noteWiring c active).queue = s.queue ∧ (s.noteWiring c active).work = s.work := by
  unfold State.noteWiring State.faultActive State.faultCleared
  constructor <;> split <;> split <;> (try split) <;> simp

/-- The wiring part in the manual's terms: where wiring and state agree, nothing. -/
theorem State.reconcileWiring_eq :
    s.reconcileWiring c =
      if wiringOf (s.channel c).confirmed = (s.channel c).wiring then s
      else State.noteWiring
        ((wiringReports (s.t6 c) (s.channel c).wiring (s.channel c).confirmed).foldl State.report
          (s.setChannel c { s.channel c with wiring := wiringOf (s.channel c).confirmed }))
        c (decide (wiringOf (s.channel c).confirmed ≠ .none)) := by
  unfold State.reconcileWiring
  cases m : (s.channel c).confirmed <;> cases w : (s.channel c).wiring <;> rfl

theorem State.reconcileWiring_channel (k : ChannelNo) :
    (s.reconcileWiring c).channel k =
      if c = k then { s.channel c with wiring := wiringOf (s.channel c).confirmed } else s.channel k := by
  rw [State.reconcileWiring_eq, ← State.setChannel_channel]
  split
  · next same => rw [same]; exact (congrArg (State.channel · k) (s.setChannel_self c)).symm
  · rw [State.channel_congr (channels_of_still (State.noteWiring_still _ _ _)), State.reports_channel]

theorem State.reconcileWiring_handed :
    Handed s (wiringReports (s.t6 c) (s.channel c).wiring (s.channel c).confirmed) (s.reconcileWiring c) := by
  rw [State.reconcileWiring_eq]
  split
  · next same => rw [wiringReports, if_pos same]; exact .none
  · obtain ⟨queue, work⟩ := State.noteWiring_beside (List.foldl State.report _ _) c _
    exact ((Handed.setChannel c _).reports _).beside queue (congrArg Work.exitDue work)

/-- The channel after the alarm part alone (R43, R45). -/
def alarmSettled (e : T6) (x : InputChannel) : InputChannel :=
  { x with alarm := (reconciled e x x.confirmed).alarm, latched := (reconciled e x x.confirmed).latched }

theorem alarmSettled_wired (e : T6) (x : InputChannel) :
    alarmSettled e { x with wiring := wiringOf x.confirmed } = reconciled e x x.confirmed := rfl

/-- Neither an alarm to raise nor one to restore: the alarm part leaves the channel. -/
theorem alarmSettled_kept {e : T6} {x : InputChannel} (raise : x.confirmed = .active → x.alarm = false → False)
    (restore : x.confirmed = .normal → x.alarm = true → x.latched = false → False) : alarmSettled e x = x := by
  have alarm : (reconciled e x x.confirmed).alarm = x.alarm := by
    unfold reconciled; dsimp only; split
    · next active => exact (Bool.eq_true_of_not_eq_false (raise active)).symm
    · split
      · next normal => exact (Bool.eq_false_of_not_eq_true fun on => restore normal.1 on normal.2).symm
      · rfl
  have latched : (reconciled e x x.confirmed).latched = x.latched := if_neg fun h => raise h.1 h.2.1
  unfold alarmSettled
  rw [alarm, latched]

/-- The alarm part in the manual's terms. -/
theorem State.reconcileAlarm_eq :
    s.reconcileAlarm c =
      (alarmReports (s.t6 c) (s.channel c) (s.channel c).confirmed).foldl State.report
        (s.setChannel c (alarmSettled (s.t6 c) (s.channel c))) := by
  unfold State.reconcileAlarm alarmReports; dsimp only
  split
  · next active alarm =>
    simp only [alarmSettled, reconciled, active, alarm, if_true, true_and, List.foldl_cons, List.foldl_nil]
    cases (s.channel c).latched <;> cases (s.t6 c).latching <;> rfl
  · next normal alarm latched =>
    simp only [alarmSettled, reconciled, normal, alarm, latched]
    split <;> rfl
  · next active normal =>
    rw [alarmSettled_kept active normal, State.setChannel_self]
    rfl

theorem State.reconcileAlarm_channel (k : ChannelNo) :
    (s.reconcileAlarm c).channel k = if c = k then alarmSettled (s.t6 c) (s.channel c) else s.channel k := by
  rw [State.reconcileAlarm_eq, State.reports_channel, State.setChannel_channel]

theorem State.reconcileAlarm_handed :
    Handed s (alarmReports (s.t6 c) (s.channel c) (s.channel c).confirmed) (s.reconcileAlarm c) := by
  rw [State.reconcileAlarm_eq]
  exact (Handed.setChannel c _).reports _

theorem State.reconcileWiring_t6 (k : ChannelNo) : (s.reconcileWiring c).t6 k = s.t6 k :=
  State.t6_of_base (base_of_gated (by simp)) k

/-- A reconciled channel; the others are left alone. -/
theorem State.reconcile_channel (k : ChannelNo) :
    (s.reconcile c).channel k =
      if c = k then reconciled (s.t6 c) (s.channel c) (s.channel c).confirmed else s.channel k := by
  rw [State.reconcile, State.reconcileAlarm_channel, State.reconcileWiring_channel, State.reconcileWiring_channel,
    State.reconcileWiring_t6, if_pos rfl, alarmSettled_wired]
  split <;> rfl

/-- The wiring reports, then the alarm report (R42, R43). -/
theorem State.reconcile_handed :
    Handed s (wiringReports (s.t6 c) (s.channel c).wiring (s.channel c).confirmed ++
      alarmReports (s.t6 c) (s.channel c) (s.channel c).confirmed) (s.reconcile c) := by
  have alarm := (s.reconcileWiring c).reconcileAlarm_handed c
  rw [State.reconcileWiring_t6, State.reconcileWiring_channel, if_pos rfl] at alarm
  exact (s.reconcileWiring_handed c).trans alarm

/-! ### Forces (R49) -/

/-- The state with the force of a channel changed and its test report handed over. -/
def State.tested (s : State) (c : ChannelNo) (f : Force) : State :=
  let s1 := s.setChannel c { s.channel c with force := f }
  if f = .active then s1.report ((s.t6 c).testReport .testNew)
  else if (s.channel c).force = .active then s1.report ((s.t6 c).testReport .testRestore)
  else s1

theorem State.setForce_eq (f : Force) :
    s.setForce c f =
      if (s.channel c).force = f then s
      else if f = .none ∧ (s.channel c).isolated = false then (s.tested c f).reconcile c else s.tested c f := rfl

theorem State.tested_channel (f : Force) (k : ChannelNo) :
    (s.tested c f).channel k = if c = k then { s.channel c with force := f } else s.channel k := by
  rw [← State.setChannel_channel]
  unfold State.tested; dsimp only; split
  · simp
  · split <;> simp

theorem State.tested_t6 (f : Force) (k : ChannelNo) : (s.tested c f).t6 k = s.t6 k := by
  refine State.t6_of_base (base_of_gated (t := s.tested c f) ?_) k
  unfold State.tested; dsimp only; split
  · simp
  · split <;> simp

theorem State.tested_handed (f : Force) :
    Handed s (if f = .active then [{ eventReport (s.t6 c) .testNew with cls := .routine }]
      else if (s.channel c).force = .active then [{ eventReport (s.t6 c) .testRestore with cls := .routine }]
      else []) (s.tested c f) := by
  have set : Handed s [] (s.setChannel c { s.channel c with force := f }) := .setChannel c _
  unfold State.tested; dsimp only; split
  · exact set.report _
  · split
    · exact set.report _
    · exact set

theorem forcedChannel_same (e : T6) (x : InputChannel) : forcedChannel e x x.force = x :=
  if_neg fun h => h.2.1 h.1

/-- A channel whose force takes a value; the others are left alone. -/
theorem State.setForce_channel (f : Force) (k : ChannelNo) :
    (s.setForce c f).channel k = if c = k then forcedChannel (s.t6 c) (s.channel c) f else s.channel k := by
  rw [State.setForce_eq]
  by_cases same : (s.channel c).force = f
  · rw [if_pos same, ← same, forcedChannel_same]
    split
    · next own => rw [own]
    · rfl
  · rw [if_neg same]
    by_cases released : f = .none ∧ (s.channel c).isolated = false
    · obtain ⟨free, enabled⟩ := released
      subst free
      have own : forcedChannel (s.t6 c) (s.channel c) .none =
          reconciled (s.t6 c) { s.channel c with force := .none } (s.channel c).confirmed := if_pos ⟨rfl, same, enabled⟩
      rw [if_pos ⟨rfl, enabled⟩, State.reconcile_channel, State.tested_t6, State.tested_channel, if_pos rfl, own,
        State.tested_channel]
      split <;> rfl
    · have own : forcedChannel (s.t6 c) (s.channel c) f = { s.channel c with force := f } :=
        if_neg fun h => released ⟨h.1, h.2.2⟩
      rw [if_neg released, State.tested_channel, own]

/-- The test report, then what the reconciliation of a released channel raises (R49). -/
theorem State.setForce_handed (f : Force) : Handed s (forceReports (s.t6 c) (s.channel c) f) (s.setForce c f) := by
  rw [State.setForce_eq]; unfold forceReports; dsimp only
  by_cases same : (s.channel c).force = f
  · rw [if_pos same, if_pos same.symm]; exact .none
  · rw [if_neg same, if_neg (Ne.symm same)]
    have test := s.tested_handed c f
    by_cases released : f = .none ∧ (s.channel c).isolated = false
    · rw [if_pos released, if_pos released]
      have reconcile := (s.tested c f).reconcile_handed c
      rw [State.tested_t6, State.tested_channel, if_pos rfl] at reconcile
      exact test.trans reconcile
    · rw [if_neg released, if_neg released, List.append_nil]; exact test

end channel

/-! ### What the reports of a force are -/

section forced
variable (e : T6) (x : InputChannel) (f : Force)

@[simp] theorem forcedChannel_force : (forcedChannel e x f).force = f := by
  unfold forcedChannel reconciled; split
  · next h => exact h.1.symm
  · rfl

theorem wiringReports_input (w : Wiring) (m : InputClass) :
    ∀ r ∈ wiringReports e w m, r.source = .input ∧ r.cls = .trouble := by
  cases m <;> cases w <;> simp [wiringReports, wiringOf]

theorem alarmReports_input (m : InputClass) : ∀ r ∈ alarmReports e x m, r.source = .input ∧ r.cls = e.cls := by
  unfold alarmReports; split
  · simp [eventReport]
  · split <;> simp [eventReport]
  · simp

/-- They come from the input, and only a channel that is released can raise one of class FIRE. -/
theorem forceReports_input :
    ∀ r ∈ forceReports e x f, r.source = .input ∧ (r.cls = .fire → f = .none ∧ x.force ≠ .none ∧ e.cls = .fire) := by
  intro r mem
  unfold forceReports at mem; dsimp only at mem
  split at mem
  · cases mem
  · next change =>
    rcases List.mem_append.1 mem with test | raised
    · have routine : r.source = .input ∧ r.cls = .routine := by
        revert test; split <;> (try split) <;> simp +contextual [eventReport]
      exact ⟨routine.1, fun fire => by rw [routine.2] at fire; cases fire⟩
    · split at raised
      · next released =>
        rcases List.mem_append.1 raised with wiring | alarm
        · obtain ⟨input, trouble⟩ := wiringReports_input e _ _ r wiring
          exact ⟨input, fun fire => by rw [trouble] at fire; cases fire⟩
        · obtain ⟨input, cls⟩ := alarmReports_input e x _ r alarm
          exact ⟨input, fun fire => ⟨released.1, fun none => change (released.1.trans none.symm), cls ▸ fire⟩⟩
      · cases raised

end forced

/-! ### A force for each channel (R50, R52) -/

/-- Each channel of a list takes, in turn, the force that a rule gives from its own. -/
def State.forceEach (rule : ChannelNo → Force → Force) (cs : List ChannelNo) (s : State) : State :=
  cs.foldl (fun s c => s.setForce c (rule c (s.channel c).force)) s

section each
variable (rule : ChannelNo → Force → Force)

@[simp] theorem State.forceEach_gated (cs : List ChannelNo) (s : State) : (s.forceEach rule cs).gated = s.gated :=
  foldl_view State.gated _ (fun s c => s.setForce_gated c _) cs s

@[simp] theorem State.forceEach_readings (cs : List ChannelNo) (s : State) :
    (s.forceEach rule cs).readings = s.readings :=
  foldl_view State.readings _ (fun s c => s.setForce_readings c _) cs s

theorem State.setForce_t6 (s : State) (c k : ChannelNo) (f : Force) : (s.setForce c f).t6 k = s.t6 k :=
  State.t6_of_base (base_of_gated (s.setForce_gated c f)) k

theorem State.forceEach_channel {cs : List ChannelNo} (nodup : cs.Nodup) (s : State) (k : ChannelNo) :
    (s.forceEach rule cs).channel k =
      if k ∈ cs then forcedChannel (s.t6 k) (s.channel k) (rule k (s.channel k).force) else s.channel k := by
  induction cs generalizing s with
  | nil => rfl
  | cons c cs ih =>
    obtain ⟨fresh, rest⟩ := List.nodup_cons.1 nodup
    rw [State.forceEach, List.foldl_cons]
    have turn := ih rest (s.setForce c (rule c (s.channel c).force))
    rw [State.forceEach] at turn
    rw [turn, State.setForce_t6, State.setForce_channel]
    by_cases own : c = k
    · subst own; rw [if_neg fresh, if_pos rfl, if_pos (by simp)]
    · simp [own, Ne.symm own]

/-- The reports go channel by channel, each channel's as it stood before. -/
theorem State.forceEach_handed {cs : List ChannelNo} (nodup : cs.Nodup) (s : State) :
    Handed s (cs.map fun c => forceReports (s.t6 c) (s.channel c) (rule c (s.channel c).force)).flatten
      (s.forceEach rule cs) := by
  induction cs generalizing s with
  | nil => exact .none
  | cons c cs ih =>
    obtain ⟨fresh, rest⟩ := List.nodup_cons.1 nodup
    set t := s.setForce c (rule c (s.channel c).force) with ht
    have later : (cs.map fun k => forceReports (t.t6 k) (t.channel k) (rule k (t.channel k).force)) =
        cs.map fun k => forceReports (s.t6 k) (s.channel k) (rule k (s.channel k).force) := by
      refine List.map_congr_left fun k mem => ?_
      rw [ht, State.setForce_t6, State.setForce_channel, if_neg (by rintro rfl; exact fresh mem)]
    rw [List.map_cons, List.flatten_cons, ← later]
    exact (s.setForce_handed c _).trans (ih rest t)

theorem allChannels_eq : allChannels = List.finRange 8 := by decide

theorem allChannels_nodup : allChannels.Nodup := by decide

theorem mem_allChannels (c : ChannelNo) : c ∈ allChannels := by revert c; decide

end each

end Sys2Proof.Machine
end

section
/-! The channels at the end of a command's work: an exit from SERVICE releases every force, and nothing else of the end touches a channel (R52, R171, R172); and the statement on readings (O22). -/

namespace Sys2Proof.Machine

/-! ### Without an exit that is due -/

section end_of_work
variable (s : State)

theorem State.settleExit_idle (exit : s.work.exitDue = false) : s.settleExit = s := by
  unfold State.settleExit; rw [exit]
  simp only [Bool.false_eq_true, false_and, if_false]
  rw [← exit]; rfl

theorem mode_of_still {s t : State} (h : t.still = s.still) : t.mode = s.mode := congrArg Still.mode h

/-- Past the exit, the end of the work leaves mode, channels and roster. -/
theorem State.settle_exit :
    s.settle.mode = s.settleExit.mode ∧ s.settle.channels = s.settleExit.channels ∧
      s.settle.reports = s.settleExit.reports := by
  have acted : s.settle.steady = s.settleExit.drain.steady := by rw [State.settle, State.setWork_steady, State.actFuel_steady]
  have queue : s.settle.queue = s.settleExit.drain.queue := congrArg Steady.queue acted
  refine ⟨(congrArg Steady.mode acted).trans (mode_of_still (State.drain_still _)),
    (congrArg Steady.channels acted).trans (channels_of_still (State.drain_still _)), ?_⟩
  exact (reports_of_roster (roster_of_queue queue)).trans (reports_of_roster (State.drain_roster _))

theorem State.settleGate_channels : s.settleGate.mode = s.mode ∧ s.settleGate.channels = s.channels := by
  unfold State.settleGate State.openGate; dsimp only; split
  · exact ⟨rfl, rfl⟩
  · split
    · split <;> exact ⟨rfl, rfl⟩
    · exact ⟨rfl, rfl⟩

/-! ### The exit (R52, R171, R172) -/

theorem State.setForce_force (c k : ChannelNo) (f : Force) :
    ((s.setForce c f).channel k).force = if c = k then f else (s.channel k).force := by
  rw [State.setForce_channel]; split <;> simp

theorem State.releaseAll_eq : s.releaseAll = s.forceEach (fun _ _ => .none) allChannels := rfl

theorem State.releaseAll_force (k : ChannelNo) : (s.releaseAll.channel k).force = .none := by
  rw [State.releaseAll_eq, State.forceEach_channel _ allChannels_nodup, if_pos (mem_allChannels k), forcedChannel_force]

/-- The state in which an exit releases the forces. -/
def State.exiting (s : State) (cause : ModeCause) : State :=
  (((s.setMode .operate).notice (.mode .operate s.hold cause)).evaluateRoutes.rebuild).reexamine

theorem State.serviceExit_eq (cause : ModeCause) : s.serviceExit cause = (s.exiting cause).releaseAll.settleGate := rfl

theorem modeChannels_of_unrouted {s t : State} (h : t.unrouted = s.unrouted) :
    t.mode = s.mode ∧ t.channels = s.channels :=
  ⟨congrArg (fun x => x.2.1) h, congrArg (fun x => x.2.2.2.1) h⟩

theorem mode_of_gated {s t : State} (h : t.gated = s.gated) : t.mode = s.mode := congrArg (fun x => x.2.1) h

theorem State.exiting_mode (cause : ModeCause) :
    (s.exiting cause).mode = .operate ∧ (s.exiting cause).channels = s.channels := by
  have queued (u : State) : u.rebuild.reexamine.still = u.still := by simp
  have noted := (s.setMode .operate).notice_still (.mode .operate s.hold cause)
  obtain ⟨mode, channels⟩ := modeChannels_of_unrouted
    (State.evaluateRoutes_unrouted ((s.setMode .operate).notice (.mode .operate s.hold cause)))
  exact ⟨(mode_of_still (queued _)).trans (mode.trans (mode_of_still noted)),
    (channels_of_still (queued _)).trans (channels.trans (channels_of_still (s := s.setMode .operate) noted))⟩

theorem readings_of_channels {s t : State} (h : t.channels = s.channels) : t.readings = s.readings := by
  funext c; simp only [State.readings, State.channel_congr h]

/-- After an exit the part is in OPERATE, no channel is forced, and every reading is kept. -/
theorem State.serviceExit_released (cause : ModeCause) :
    (s.serviceExit cause).mode = .operate ∧ (∀ c, ((s.serviceExit cause).channel c).force = .none) ∧
      (s.serviceExit cause).readings = s.readings := by
  rw [State.serviceExit_eq]
  obtain ⟨mode, channels⟩ := State.settleGate_channels (s.exiting cause).releaseAll
  obtain ⟨operate, before⟩ := s.exiting_mode cause
  have gated : (s.exiting cause).releaseAll.mode = (s.exiting cause).mode :=
    mode_of_gated (State.releaseAll_gated _)
  refine ⟨mode.trans (gated.trans operate), fun c => ?_, ?_⟩
  · rw [State.channel_congr channels]; exact State.releaseAll_force _ c
  · exact (readings_of_channels channels).trans ((State.releaseAll_readings _).trans (readings_of_channels before))

/-- Either there is no exit, or the part is in OPERATE with no channel forced. -/
theorem State.settleExit_cases :
    (s.settleExit.mode = s.mode ∧ s.settleExit.channels = s.channels) ∨
      (s.settleExit.mode = .operate ∧ ∀ c, (s.settleExit.channel c).force = .none) := by
  unfold State.settleExit; dsimp only; split
  · obtain ⟨mode, forces, -⟩ := (s.setWork { s.work with exitDue := false }).serviceExit_released .fire
    exact .inr ⟨mode, forces⟩
  · exact .inl ⟨rfl, rfl⟩

theorem State.settleExit_readings : s.settleExit.readings = s.readings := by
  unfold State.settleExit; dsimp only; split
  · exact ((s.setWork { s.work with exitDue := false }).serviceExit_released .fire).2.2
  · rfl

theorem State.settle_readings : s.settle.readings = s.readings := by
  obtain ⟨-, channels, -⟩ := s.settle_exit
  exact (readings_of_channels channels).trans s.settleExit_readings

end end_of_work

/-! ### A reading (R39, R40) -/

theorem classOfReading_eq (code : Nat) : InputClass.ofCode code = classOfReading code := by
  simp only [InputClass.ofCode, classOfReading, ← Nat.lt_succ_iff]

/-- The reports that follow a reading leave the readings of every channel as the reading itself made them. -/
theorem State.inputReading_readings (s : State) (c : ChannelNo) (code : Nat) :
    (s.inputReading c code).readings =
      (s.setChannel c ((s.channel c).read (s.t6 c).debounce (InputClass.ofCode code)).1).readings := by
  unfold State.inputReading; dsimp only; split
  · have noted (t : State) (n : Notice) : (t.notice n).readings = t.readings := readings_of_still (t.notice_still n)
    split
    · rw [State.reconcile_readings, noted]
    · rw [State.interlock_readings, noted]
  · rfl

theorem exec_inputReading {s : State} (t : Nat) (c : ChannelNo) (code : BitVec 10) (loaded : s.loading = false) :
    exec (.inputReading t c code) s = .next ((s.advance t).inputReading c code.toNat).settle := by
  show Host.Outcome.next (if s.loading = true then _ else _) = _
  rw [loaded]; rfl

/-- Settles O22: the channel is read as R40 says, and neither the reports that follow nor the end of the work touches a reading. -/
theorem readingIsConfirmed : Obligations.ReadingIsConfirmed := by
  intro t c code s loaded x m held
  have after (k : ChannelNo) : (((s.advance t).inputReading c code.toNat).settle.channel k).readings =
      if c = k then (x.read (s.t6 c).debounce m).1.readings else (s.channel k).readings := by
    have kept := congrFun ((State.settle_readings _).trans ((s.advance t).inputReading_readings c code.toNat)) k
    rw [classOfReading_eq] at kept
    refine kept.trans ((congrArg InputChannel.readings (State.setChannel_channel ..)).trans ?_)
    split <;> rfl
  refine ⟨_, exec_inputReading t c code loaded, fun same => ?_, fun differ due => ?_, fun differ early => ?_,
    fun k other => ?_⟩
  · rw [after, if_pos rfl, InputChannel.read, if_pos same]; rfl
  · rw [after, if_pos rfl, InputChannel.read, if_neg differ]
    dsimp only
    rw [if_pos due]; rfl
  · rw [after, if_pos rfl, InputChannel.read, if_neg differ]
    dsimp only
    rw [if_neg (Nat.not_le.2 early)]; rfl
  · rw [after, if_neg other.symm]

end Sys2Proof.Machine
end

section
/-! IsolationAndUnlatching (O24) fails: the clause of DE-ISOLATE that the record of its 905 RESTORE is there at the end has no premise on the tickets. Where 34 records or more hold the tickets from the counter on, the search of R58 ends on a ticket that is held, and a report of a better class that joins the older record of that ticket takes the new record's class along (R61). No run reaches such a queue, which has at most 33 records (R62, R63). -/

namespace Sys2Proof.Machine

/-- A STRANDED record of a ticket, in the reserved slot. -/
def reservedRecord (ticket : Nat) (report : Report) : Record :=
  { ticket, report, route := 0, pendingList := [], acceptedList := [], state := .stranded, age := 0, repeats := 0,
    enteredAt := 0, reserved := true }

/-- Channel 8 with class PLANT. -/
def plantEntry : T6 := { T6.default 8 with cls := .plant }

/-- A part that is asked to DE-ISOLATE channel 8, whose loop is ACTIVE. Records hold the tickets 1 to 35, and the last of them carries, as ROUTINE, the alarm that the channel is about to raise as PLANT. -/
def crowded : State :=
  { State.reset with
    loading := false
    tables := { Tables.default with t6 := Tables.default.t6.set 7 plantEntry }
    channels := State.reset.channels.set 7 { InputChannel.reset with isolated := true, confirmed := .active }
    queue := { Queue.reset with
      records := (List.range 34).map (fun i => reservedRecord (i + 1) lossReport) ++
        [reservedRecord 35 { eventReport plantEntry .new with cls := .routine }] }
    link := { Link.reset with receiver := .hunt, requests := [{ kind := 0x23, payload := [8] }] } }

theorem crowded_asks : crowded.Rested ∧ crowded.Asked 0x23 [8] ∧ ofNum 8 (8 : Byte).toNat = some 7 ∧
    (crowded.channel 7).isolated = true ∧ (crowded.t6 7).cls ≠ .fire :=
  ⟨rfl, ⟨rfl, rfl⟩, rfl, rfl, nofun⟩

/-- Nothing is there to join, and the queue has room: ticket 35 is given a second time. -/
theorem crowded_room : crowded.joinable (trouble .restore 905 8) = none ∧ crowded.ordinaryCount = 0 ∧
    crowded.ticketToGive = 35 := by decide +kernel

/-- The command leaves two records of ticket 35, the alarm and the 905 RESTORE, both of class PLANT. -/
theorem crowded_deIsolated {u : State} (done : exec (.deIsolate 0 [8]) crowded = .next u) :
    (35, trouble .restore 905 8) ∉ u.reports := by
  obtain rfl := Host.Outcome.next.inj done
  decide +kernel

/-- Refutes O24: in `crowded` the DE-ISOLATE of channel 8 leaves no record of its 905 RESTORE under the ticket that was given. -/
theorem not_isolationAndUnlatching : ¬ Obligations.IsolationAndUnlatching := by
  rintro ⟨-, deIsolate, -⟩
  obtain ⟨rested, asked, number, isolated, cls⟩ := crowded_asks
  obtain ⟨none, empty, ticket⟩ := crowded_room
  obtain ⟨-, effect⟩ := (deIsolate 0 8 crowded rested asked).2 7 number
  obtain ⟨u, done, -, -, -, -, -, -, -, reconciles⟩ := effect isolated
  obtain ⟨-, -, -, entered, -⟩ := reconciles fun fire => absurd fire cls
  have present := entered none (by rw [empty]; decide)
  rw [ticket] at present
  exact crowded_deIsolated done present

end Sys2Proof.Machine
end

section
/-! FORCE and FORCE-CANCEL-ALL: what the eight codes ask of the channels, what an exit that a FIRE record forces makes of it, and the statement (O25). -/

namespace Sys2Proof.Machine

/-! ### The codes of FORCE (`09` section 9.7, R50) -/

/-- The force that a code 0 to 3 asks for, if it asks for one. -/
def codeForce (n : Nat) : Option Force := [none, some .normal, some .active, some .none].getD n none

/-- The force of a channel after a FORCE: code 0 keeps its own. -/
def forceRule (p : List Byte) (c : ChannelNo) (own : Force) : Force :=
  [own, .normal, .active, .none].getD (p.getD c.val 0).toNat .none

/-- Only code 3 releases a channel that is forced. -/
theorem forceRule_none {p : List Byte} {c : ChannelNo} {own : Force} (known : (p.getD c.val 0).toNat ≤ 3)
    (forced : own ≠ .none) (free : forceRule p c own = .none) : (p.getD c.val 0).toNat = 3 := by
  unfold forceRule at free
  generalize (p.getD c.val 0).toNat = n at known free
  interval_cases n
  · exact absurd free forced
  · cases free
  · cases free
  · rfl

theorem forceOf_code {b : Byte} (known : b.toNat ≤ 3) : forceOf b = some (codeForce b.toNat) := by
  unfold forceOf
  generalize b.toNat = n at known
  interval_cases n <;> rfl

theorem forceOf_unknown {b : Byte} (unknown : 3 < b.toNat) : forceOf b = none := by
  obtain ⟨k, beyond⟩ := Nat.exists_eq_add_of_le unknown
  rw [forceOf, beyond, Nat.add_comm]; rfl

theorem forceCodes_known {p : List Byte} (known : ∀ c : ChannelNo, (p.getD c.val 0).toNat ≤ 3) :
    forceCodes p = some (allChannels.map fun c => (c, codeForce (p.getD c.val 0).toNat)) := by
  have each : (fun c : ChannelNo => (forceOf (p.getD c.val 0)).map fun f => (c, f)) =
      fun c => pure (c, codeForce (p.getD c.val 0).toNat) := by
    funext c; rw [forceOf_code (known c)]; rfl
  rw [forceCodes, each, List.mapM_pure]; rfl

theorem mapM_none {α β : Type} {f : α → Option β} {a : α} (l : List α) (mem : a ∈ l) (fails : f a = none) :
    l.mapM f = none := by
  induction l with
  | nil => cases mem
  | cons b l ih =>
    rw [List.mapM_cons]
    rcases List.mem_cons.1 mem with rfl | later
    · rw [fails]; rfl
    · rw [ih later]; cases f b <;> rfl

theorem forceCodes_unknown {p : List Byte} {c : ChannelNo} (unknown : 3 < (p.getD c.val 0).toNat) :
    forceCodes p = none :=
  mapM_none _ (mem_allChannels c) (by rw [forceOf_unknown unknown]; rfl)

theorem State.forceGuarded_iff (s : State) (c : ChannelNo) {n : Nat} (known : n ≤ 3) :
    s.forceGuarded c (codeForce n) = true ↔
      (n ≠ 0 ∧ (s.channel c).isolated = true) ∨
        (n = 1 ∧ (s.t6 c).cls = .fire ∧ (s.channel c).confirmed = .active) := by
  interval_cases n <;> simp [State.forceGuarded, codeForce]

theorem State.setForce_self (s : State) (c : ChannelNo) : s.setForce c (s.channel c).force = s := by
  rw [State.setForce_eq, if_pos rfl]

theorem State.applyForces_eq (s : State) {p : List Byte} (known : ∀ c : ChannelNo, (p.getD c.val 0).toNat ≤ 3) :
    s.applyForces (allChannels.map fun c => (c, codeForce (p.getD c.val 0).toNat)) =
      s.forceEach (forceRule p) allChannels := by
  unfold State.applyForces State.forceEach
  rw [List.foldl_map]
  congr 1
  funext s c
  have code := known c
  unfold forceRule
  generalize (p.getD c.val 0).toNat = n at code
  interval_cases n
  · exact (s.setForce_self c).symm
  · rfl
  · rfl
  · rfl

/-! ### The owner's part of FORCE (R50) -/

section force
variable (s : State) {p : List Byte}

theorem State.forceRequest_operate (operate : s.mode = .operate) : s.forceRequest p = (s, .plain .mode) := if_pos operate

theorem State.forceRequest_unknown (service : s.mode = .service) {c : ChannelNo} (unknown : 3 < (p.getD c.val 0).toNat) :
    s.forceRequest p = (s, .plain .range) := by
  unfold State.forceRequest
  rw [if_neg (by rw [service]; decide), forceCodes_unknown unknown]

theorem State.forceRequest_known (service : s.mode = .service)
    (known : ∀ c : ChannelNo, (p.getD c.val 0).toNat ≤ 3) :
    s.forceRequest p =
      if ∃ c : ChannelNo, ((p.getD c.val 0).toNat ≠ 0 ∧ (s.channel c).isolated = true) ∨
          ((p.getD c.val 0).toNat = 1 ∧ (s.t6 c).cls = .fire ∧ (s.channel c).confirmed = .active)
      then (s, .plain .guarded)
      else (s.forceEach (forceRule p) allChannels, .plain .ok) := by
  unfold State.forceRequest
  rw [if_neg (by rw [service]; decide), forceCodes_known known]
  dsimp only
  rw [s.applyForces_eq known]
  congr 1
  simp only [List.any_map, List.any_eq_true, Function.comp_apply, eq_iff_iff]
  exact ⟨fun ⟨c, _, g⟩ => ⟨c, (s.forceGuarded_iff c (known c)).1 g⟩,
    fun ⟨c, g⟩ => ⟨c, mem_allChannels c, (s.forceGuarded_iff c (known c)).2 g⟩⟩

end force

/-! ### The end of a request that sets forces -/

section settled
variable {s v : State} {rs : List Report}

/-- Without a FIRE report the end of the work leaves mode and channels, and the reports have entered. -/
theorem Handed.settled (h : Handed s rs v) (idle : s.work.exitDue = false)
    (input : ∀ r ∈ rs, r.source = .input) (calm : ∀ r ∈ rs, r.cls ≠ .fire) :
    v.settle.mode = v.mode ∧ v.settle.channels = v.channels ∧ Enter s v.settle rs := by
  obtain ⟨mode, channels, reports⟩ := v.settle_exit
  rw [v.settleExit_idle ((h.exitDue calm).trans idle)] at mode channels reports
  refine ⟨mode, channels, fun others distinct room => ?_⟩
  rw [reports]
  exact h.enter input others distinct room

/-- The response to a request whose work leaves the base. -/
theorem answered_plain {s v : State} {kind : Byte} (base : v.base = s.base) :
    Answered s (v.settle.respond kind (.plain .ok)) kind 0 0 [] :=
  .of_base (congrArg Base.requestsLost (v.settle_base.trans base)) rfl rfl rfl

theorem enter_respond (s u : State) (kind : Byte) (a : Answer) (rs : List Report) :
    Enter s (u.respond kind a) rs ↔ Enter s u rs := .rfl

/-- The reports of every channel come from the inputs, and none is of class FIRE where no channel of that class is released. -/
theorem forceReports_flatten (s : State) (cs : List ChannelNo) (f : ChannelNo → Force)
    (calm : ∀ c, f c = .none → (s.channel c).force ≠ .none → (s.t6 c).cls ≠ .fire) :
    ∀ r ∈ (cs.map fun c => forceReports (s.t6 c) (s.channel c) (f c)).flatten, r.source = .input ∧ r.cls ≠ .fire := by
  intro r mem
  obtain ⟨_, of, mem⟩ := List.mem_flatten.1 mem
  obtain ⟨c, -, rfl⟩ := List.mem_map.1 of
  obtain ⟨input, fire⟩ := forceReports_input _ _ _ r mem
  refine ⟨input, fun is => ?_⟩
  obtain ⟨free, forced, cls⟩ := fire is
  exact calm c free forced cls

/-- Every channel takes the force that a rule gives, with no exit from SERVICE. -/
theorem State.forceEach_settled (s : State) (rule : ChannelNo → Force → Force) (idle : s.work.exitDue = false)
    (calm : ∀ c, rule c (s.channel c).force = .none → (s.channel c).force ≠ .none → (s.t6 c).cls ≠ .fire) :
    (s.forceEach rule allChannels).settle.mode = s.mode ∧
      (∀ c, (s.forceEach rule allChannels).settle.channel c =
        forcedChannel (s.t6 c) (s.channel c) (rule c (s.channel c).force)) ∧
      Enter s (s.forceEach rule allChannels).settle
        ((List.finRange 8).map fun c => forceReports (s.t6 c) (s.channel c) (rule c (s.channel c).force)).flatten := by
  rw [← allChannels_eq]
  have reports := forceReports_flatten s allChannels (fun c => rule c (s.channel c).force) calm
  obtain ⟨mode, channels, enter⟩ := (s.forceEach_handed rule allChannels_nodup).settled idle
    (fun r mem => (reports r mem).1) (fun r mem => (reports r mem).2)
  refine ⟨mode.trans (mode_of_gated (State.forceEach_gated rule _ s)), fun c => ?_, enter⟩
  rw [State.channel_congr channels, State.forceEach_channel rule allChannels_nodup, if_pos (mem_allChannels c)]

/-- With an exit or without: the force of each channel at the end of a command. -/
theorem State.settle_force (v : State) :
    (v.settle.mode = v.mode ∧ ∀ c, (v.settle.channel c).force = (v.channel c).force) ∨
      (v.settle.mode = .operate ∧ ∀ c, (v.settle.channel c).force = .none) := by
  obtain ⟨mode, channels, -⟩ := v.settle_exit
  rw [mode]
  rcases v.settleExit_cases with ⟨same, kept⟩ | ⟨operate, free⟩
  · exact .inl ⟨same, fun c => by rw [State.channel_congr (channels.trans kept)]⟩
  · exact .inr ⟨operate, fun c => by rw [State.channel_congr channels]; exact free c⟩

end settled

/-! ### The owner's part of FORCE-CANCEL-ALL (R52, R171) -/

/-- The forces of some channels released in turn, with an exit from SERVICE that a report forces made before the next. -/
def State.cancelEach (cs : List ChannelNo) (s : State) : State :=
  cs.foldl (fun s c => (s.setForce c .none).settleExit) s

section cancel
variable (s : State)

theorem State.cancelEach_readings (cs : List ChannelNo) : (s.cancelEach cs).readings = s.readings :=
  foldl_view State.readings _ (fun s c => ((s.setForce c .none).settleExit_readings).trans (s.setForce_readings c .none)) cs s

theorem State.cancelEach_base (cs : List ChannelNo) : (s.cancelEach cs).base = s.base :=
  foldl_view State.base _
    (fun s c => ((s.setForce c .none).settleExit_base).trans (base_of_gated (s.setForce_gated c .none))) cs s

/-- A channel that is released, or free already, is free after the exit. -/
theorem State.cancel_force {c k : ChannelNo} (free : c = k ∨ (s.channel k).force = .none) :
    ((s.setForce c .none).settleExit.channel k).force = .none := by
  rcases (s.setForce c .none).settleExit_cases with ⟨-, kept⟩ | ⟨-, all⟩
  · rw [State.channel_congr kept, State.setForce_force]
    split
    · rfl
    · next other => exact free.resolve_left other
  · exact all k

theorem State.cancelEach_force (cs : List ChannelNo) (k : ChannelNo) (free : k ∈ cs ∨ (s.channel k).force = .none) :
    ((s.cancelEach cs).channel k).force = .none := by
  induction cs generalizing s with
  | nil => exact free.resolve_left (by simp)
  | cons c cs ih =>
    refine ih _ ?_
    rcases free with mem | free
    · rcases List.mem_cons.1 mem with rfl | later
      · exact .inr (s.cancel_force (.inl rfl))
      · exact .inl later
    · exact .inr (s.cancel_force (.inr free))

/-- Where no forced channel is of class FIRE, no exit comes between. -/
theorem State.cancelEach_calm (cs : List ChannelNo) (idle : s.work.exitDue = false)
    (calm : ∀ c, (s.channel c).force ≠ .none → (s.t6 c).cls ≠ .fire) :
    s.cancelEach cs = s.forceEach (fun _ _ => .none) cs := by
  induction cs generalizing s with
  | nil => rfl
  | cons c cs ih =>
    have idle' : (s.setForce c .none).work.exitDue = false := by
      refine ((s.setForce_handed c .none).exitDue fun r mem fire => ?_).trans idle
      obtain ⟨-, forced, cls⟩ := (forceReports_input _ _ _ r mem).2 fire
      exact calm c forced cls
    have calm' : ∀ k, ((s.setForce c .none).channel k).force ≠ .none → ((s.setForce c .none).t6 k).cls ≠ .fire := by
      intro k forced
      rw [State.setForce_force] at forced
      rw [State.setForce_t6]
      split at forced
      · exact absurd rfl forced
      · exact calm k forced
    have first : s.cancelEach (c :: cs) = (s.setForce c .none).settleExit.cancelEach cs := rfl
    rw [first, State.settleExit_idle _ idle']
    exact ih _ idle' calm'

end cancel

/-! ### The statement -/

section commands
variable {s : State} {p : List Byte} (t : Nat)

theorem exec_force {v : State} {a : Answer} (asked : s.Asked 0x20 p) (length : p.length = 8)
    (owner : State.forceRequest p (s.advance t) = (v, a)) :
    exec (.force t p) s = .next (v.settle.respond 0x20 a) :=
  congrArg Host.Outcome.next (State.serve_effect (s.advance t) asked (by simp [length]) owner)

theorem exec_force_refused (x : Status) (asked : s.Asked 0x20 p) (length : p.length = 8) (rested : s.Rested)
    (owner : State.forceRequest p (s.advance t) = (s.advance t, .plain x)) :
    exec (.force t p) s = .next ((s.advance t).answered 0x20 x.code 0 []) := by
  rw [exec_force t asked length owner, State.settle_rested (s.advance t) rested, State.respond_eq]
  rfl

theorem exec_forceCancelAll (asked : s.Asked 0x21 []) :
    exec (.forceCancelAll t []) s =
      .next (((s.advance t).cancelEach allChannels).settle.respond 0x21 (.plain .ok)) :=
  congrArg Host.Outcome.next (State.serve_effect (s.advance t) asked rfl rfl)

theorem State.forceRequest_passed (service : s.mode = .service)
    (known : ∀ c : ChannelNo, (p.getD c.val 0).toNat ≤ 3)
    (isolated : ∀ c : ChannelNo, (p.getD c.val 0).toNat ≠ 0 → (s.channel c).isolated = false)
    (guarded : ∀ c : ChannelNo, (p.getD c.val 0).toNat = 1 →
      ¬((s.t6 c).cls = .fire ∧ (s.channel c).confirmed = .active)) :
    s.forceRequest p = (s.forceEach (forceRule p) allChannels, .plain .ok) := by
  rw [State.forceRequest_known s service known]
  refine if_neg fun ⟨c, held⟩ => ?_
  rcases held with ⟨set, apart⟩ | ⟨normal, fire⟩
  · exact Bool.noConfusion ((isolated c set).symm.trans apart)
  · exact guarded c normal fire

end commands

/-- The forces at the end of a FORCE that has passed (R50, R171). -/
theorem force_settled {s : State} {p : List Byte} (idle : s.work.exitDue = false) (service : s.mode = .service)
    (known : ∀ c : ChannelNo, (p.getD c.val 0).toNat ≤ 3) {u : State}
    (done : u = (s.forceEach (forceRule p) allChannels).settle.respond 0x20 (.plain .ok)) :
    u.readings = s.readings ∧ (∀ c : ChannelNo, (p.getD c.val 0).toNat = 3 → (u.channel c).force = .none) ∧
      (u.mode = .operate → ∀ c, (u.channel c).force = .none) ∧
      (u.mode = .service → ∀ c, (u.channel c).force = forceRule p c (s.channel c).force) ∧
      ((∀ c : ChannelNo, (p.getD c.val 0).toNat = 3 → (s.t6 c).cls ≠ .fire) → u.mode = .service ∧
        (∀ c, u.channel c = forcedChannel (s.t6 c) (s.channel c) (forceRule p c (s.channel c).force)) ∧
        Enter s u ((List.finRange 8).map fun c =>
          forceReports (s.t6 c) (s.channel c) (forceRule p c (s.channel c).force)).flatten) := by
  have mode : (s.forceEach (forceRule p) allChannels).mode = .service :=
    (mode_of_gated (State.forceEach_gated _ _ s)).trans service
  have forces (c : ChannelNo) :
      ((s.forceEach (forceRule p) allChannels).channel c).force = forceRule p c (s.channel c).force := by
    rw [State.forceEach_channel _ allChannels_nodup, if_pos (mem_allChannels c), forcedChannel_force]
  have ends := State.settle_force (s.forceEach (forceRule p) allChannels)
  rw [mode] at ends
  subst done
  simp only [State.respond_readings, State.respond_channel, State.respond_mode, enter_respond]
  refine ⟨?_, fun c released => ?_, fun operate => ?_, fun stays c => ?_, fun calm => ?_⟩
  · rw [State.settle_readings, State.forceEach_readings]
  · rcases ends with ⟨-, kept⟩ | ⟨-, free⟩
    · rw [kept, forces, forceRule, released]; rfl
    · exact free c
  · rcases ends with ⟨same, -⟩ | ⟨-, free⟩
    · rw [operate] at same; cases same
    · exact free
  · rcases ends with ⟨-, kept⟩ | ⟨exit, -⟩
    · rw [kept, forces]
    · rw [stays] at exit; cases exit
  · obtain ⟨kept, channels, enter⟩ := s.forceEach_settled (forceRule p) idle fun c free forced =>
      calm c (forceRule_none (known c) forced free)
    exact ⟨kept.trans service, channels, enter⟩

/-- The forces at the end of a FORCE-CANCEL-ALL (R52, R171). -/
theorem cancel_settled {s u : State} (idle : s.work.exitDue = false)
    (done : u = (s.cancelEach allChannels).settle.respond 0x21 (.plain .ok)) :
    (∀ c, (u.channel c).force = .none) ∧ u.readings = s.readings ∧
      ((∀ c, (s.channel c).force ≠ .none → (s.t6 c).cls ≠ .fire) → u.mode = s.mode ∧
        (∀ c, u.channel c = forcedChannel (s.t6 c) (s.channel c) .none) ∧
        Enter s u ((List.finRange 8).map fun c => forceReports (s.t6 c) (s.channel c) .none).flatten) := by
  have free (c : ChannelNo) : ((s.cancelEach allChannels).channel c).force = .none :=
    s.cancelEach_force _ c (.inl (mem_allChannels c))
  subst done
  simp only [State.respond_readings, State.respond_channel, State.respond_mode, enter_respond]
  refine ⟨fun c => ?_, ?_, fun calm => ?_⟩
  · rcases State.settle_force (s.cancelEach allChannels) with ⟨-, kept⟩ | ⟨-, all⟩
    · rw [kept, free]
    · exact all c
  · rw [State.settle_readings, State.cancelEach_readings]
  · rw [s.cancelEach_calm _ idle calm]
    exact s.forceEach_settled (fun _ _ => .none) idle fun c _ forced => calm c forced

/-- Settles O25: a FORCE that passes and a FORCE-CANCEL-ALL set one force for each channel in turn, and the end of the work adds an exit from SERVICE or nothing. -/
theorem forcesAreSetAndCancelled : Obligations.ForcesAreSetAndCancelled := by
  constructor
  · intro t p s rested length asked code force reports
    refine ⟨fun operate => exec_force_refused t .mode asked length rested (State.forceRequest_operate _ operate),
      fun service ⟨c, unknown⟩ =>
        exec_force_refused t .range asked length rested (State.forceRequest_unknown _ service unknown),
      fun service known guarded =>
        exec_force_refused t .guarded asked length rested
          ((State.forceRequest_known (s.advance t) service known).trans (if_pos guarded)),
      fun service known isolated guarded => ?_⟩
    have passed := State.forceRequest_passed (s := s.advance t) service known isolated guarded
    exact ⟨_, exec_force t asked length passed,
      answered_plain (s := s.advance t) (base_of_gated (State.forceEach_gated _ _ _)),
      force_settled (s := s.advance t) (congrArg Work.exitDue rested) service known rfl⟩
  · intro t s rested asked
    exact ⟨_, exec_forceCancelAll t asked, answered_plain (s := s.advance t) (State.cancelEach_base _ _),
      cancel_settled (s := s.advance t) (congrArg Work.exitDue rested) rfl⟩

end Sys2Proof.Machine
end

section
/-! What the queue keeps of itself through the work of the blocks: its capacity, its one LOSS record, a ticket of its own for each record, and the deferred count and pressure. Tickets first (R58), then the conditions as conditions on the roster. -/

namespace Sys2Proof.Machine

/-! ### The search for a free ticket (R58) -/

section ticket
variable {rs : List Record} {t : Nat}

theorem nextTicket_bounds (low : 1 ≤ t) (high : t ≤ 65535) : 1 ≤ nextTicket t ∧ nextTicket t ≤ 65535 := by
  unfold nextTicket; split <;> omega

theorem nextTicket_iterate (low : 1 ≤ t) (high : t ≤ 65535) (i : Nat) :
    nextTicket^[i] t = (t - 1 + i) % 65535 + 1 := by
  induction i with
  | zero => rw [Function.iterate_zero_apply]; omega
  | succ i ih => rw [Function.iterate_succ_apply', ih]; unfold nextTicket; split <;> omega

/-- A search that ends on a ticket held has passed tickets held alone. -/
theorem freeTicket_passes (fuel : Nat) (held : ∃ r ∈ rs, r.ticket = freeTicket rs fuel t) :
    ∀ i < fuel, ∃ r ∈ rs, r.ticket = nextTicket^[i] t := by
  induction fuel generalizing t with
  | zero => exact fun i hi => absurd hi (Nat.not_lt_zero i)
  | succ fuel ih =>
    unfold freeTicket at held
    split at held
    · next here =>
      intro i hi
      cases i with
      | zero =>
        obtain ⟨r, hr, e⟩ := List.any_eq_true.1 here
        exact ⟨r, hr, of_decide_eq_true e⟩
      | succ i => exact ih held i (Nat.lt_of_succ_lt_succ hi)
    · next free =>
      obtain ⟨r, hr, e⟩ := held
      exact absurd (List.any_eq_true.2 ⟨r, hr, decide_eq_true e⟩) free

theorem freeTicket_bounds (fuel : Nat) (low : 1 ≤ t) (high : t ≤ 65535) :
    1 ≤ freeTicket rs fuel t ∧ freeTicket rs fuel t ≤ 65535 := by
  induction fuel generalizing t with
  | zero => exact ⟨low, high⟩
  | succ fuel ih =>
    unfold freeTicket; split
    · exact ih (nextTicket_bounds low high).1 (nextTicket_bounds low high).2
    · exact ⟨low, high⟩

/-- Among 33 records or fewer the search finds a ticket that none of them holds. -/
theorem freeTicket_free (low : 1 ≤ t) (high : t ≤ 65535) (few : rs.length ≤ 33) :
    ∀ r ∈ rs, r.ticket ≠ freeTicket rs 34 t := by
  intro r hr e
  have passes := freeTicket_passes 34 ⟨r, hr, e⟩
  have distinct : ((List.range 34).map fun i => nextTicket^[i] t).Nodup := by
    refine List.Nodup.map_on (fun i hi j hj same => ?_) List.nodup_range
    rw [List.mem_range] at hi hj
    simp only [nextTicket_iterate low high] at same
    omega
  have within : ((List.range 34).map fun i => nextTicket^[i] t) ⊆ rs.map Record.ticket := by
    intro k hk
    obtain ⟨i, hi, rfl⟩ := List.mem_map.1 hk
    obtain ⟨x, hx, same⟩ := passes i (List.mem_range.1 hi)
    exact List.mem_map.2 ⟨x, hx, same⟩
  have length := (List.subperm_of_subset distinct within).length_le
  rw [List.length_map, List.length_map, List.length_range] at length
  omega

end ticket

/-! ### The conditions on tickets, capacity and LOSS record, read from the roster -/

/-- The condition on the queue's capacity and tickets, in the words of its roster. -/
def Roster.Kept (x : Roster) : Prop :=
  x.held.countP (fun y => !y.2.2) ≤ 32 ∧ x.held.countP (fun y => y.2.2) ≤ 1 ∧ (x.held.map fun y => y.1).Nodup ∧
    (∀ y ∈ x.held, 1 ≤ y.1 ∧ y.1 ≤ 65535) ∧ 1 ≤ x.ticketCounter ∧ x.ticketCounter ≤ 65535

/-- The reserved slot and the LOSS report go together. -/
def Roster.LossKept (x : Roster) : Prop := ∀ y ∈ x.held, y.2.2 = true ↔ y.2.1 = lossReport

theorem queueKept_iff (s : State) : s.QueueKept ↔ s.roster.Kept := by
  simp [State.QueueKept, Roster.Kept, State.roster, State.ordinaryCount, List.countP_map, Function.comp_def, Record.entry]

theorem lossKept_iff (s : State) : s.LossKept ↔ s.roster.LossKept := by
  simp [State.LossKept, Roster.LossKept, State.roster, Record.entry]

theorem State.QueueKept.of_roster {s t : State} (h : s.QueueKept) (e : t.roster = s.roster) : t.QueueKept := by
  rw [queueKept_iff] at h ⊢; rwa [e]

theorem State.LossKept.of_roster {s t : State} (h : s.LossKept) (e : t.roster = s.roster) : t.LossKept := by
  rw [lossKept_iff] at h ⊢; rwa [e]

section kept
variable {s : State}

theorem State.records_length (s : State) :
    s.queue.records.length = s.ordinaryCount + s.queue.records.countP fun r => r.reserved := by
  have h := List.length_eq_countP_add_countP (fun r : Record => r.reserved) (l := s.queue.records)
  simp only [Bool.not_eq_true, Bool.decide_eq_false] at h
  rw [h, Nat.add_comm]; rfl

/-- The ticket of a new record is in range and no record has it (R58). -/
theorem State.QueueKept.ticketToGive (h : s.QueueKept) :
    (1 ≤ s.ticketToGive ∧ s.ticketToGive ≤ 65535) ∧ ∀ r ∈ s.queue.records, r.ticket ≠ s.ticketToGive := by
  obtain ⟨ordinary, loss, _, _, low, high⟩ := h
  exact ⟨freeTicket_bounds 34 low high, freeTicket_free low high (by rw [State.records_length]; omega)⟩

/-- No LOSS record, and no record in the reserved slot. -/
theorem State.lossRecord_none : s.lossRecord = none ↔ (s.queue.records.countP fun r => r.reserved) = 0 := by
  simp [State.lossRecord, List.find?_eq_none, List.countP_eq_zero]

/-- A record enters a queue that has its place free (R62, R63). -/
theorem State.QueueKept.enter (h : s.QueueKept) (rep : Report) {b : Bool} (n : Nat)
    (room : b = false → s.ordinaryCount < 32) (slot : b = true → s.lossRecord = none) : (s.enter rep b n).QueueKept := by
  obtain ⟨⟨low, high⟩, fresh⟩ := h.ticketToGive
  obtain ⟨ordinary, loss, distinct, range, _⟩ := h
  rw [queueKept_iff, State.enter_roster]
  have held : s.roster.held = s.queue.records.map Record.entry := rfl
  refine ⟨?_, ?_, ?_, ?_, nextTicket_bounds low high⟩
  · rw [List.countP_append, ← State.ordinaryCount_eq]
    cases b with
    | false => have := room rfl; simp; omega
    | true => simpa using ordinary
  · rw [List.countP_append, held, List.countP_map]
    cases b with
    | false => simpa [Function.comp_def, Record.entry] using loss
    | true =>
      have := State.lossRecord_none.1 (slot rfl)
      simp only [List.countP_eq_zero, Bool.not_eq_true] at this
      simpa [Function.comp_def, Record.entry, List.countP_eq_zero] using this
  · rw [List.map_append, held, List.map_map]
    refine List.nodup_append.2 ⟨distinct, List.nodup_singleton _, ?_⟩
    intro k hk j hj
    obtain ⟨r, hr, rfl⟩ := List.mem_map.1 hk
    rw [List.mem_singleton.1 hj]
    exact fresh r hr
  · intro y hy
    rcases List.mem_append.1 hy with hy | hy
    · obtain ⟨r, hr, rfl⟩ := List.mem_map.1 hy
      exact range r hr
    · rw [List.mem_singleton.1 hy]; exact ⟨low, high⟩

theorem State.LossKept.enter (h : s.LossKept) {rep : Report} {b : Bool} (n : Nat) (own : b = true ↔ rep = lossReport) :
    (s.enter rep b n).LossKept := by
  rw [lossKept_iff] at h ⊢
  rw [State.enter_roster]
  intro y hy
  rcases List.mem_append.1 hy with hy | hy
  · exact h y hy
  · rw [List.mem_singleton.1 hy]; exact own

end kept

end Sys2Proof.Machine
end

section
/-! Removal, coalescing and admission as the roster shows them, and the conditions on tickets, capacity and LOSS record through them (R58, R60 to R64, R71). -/

namespace Sys2Proof.Machine

/-! ### A record leaves (R64, R71) -/

/-- The state without the records of a ticket. -/
def State.without (s : State) (k : Nat) : State :=
  s.setQueue { s.queue with records := s.queue.records.filter fun x => x.ticket != k }

theorem countP_filter_lt {α : Type} {p q : α → Bool} {l : List α} {x : α} (mem : x ∈ l) (hp : p x = true)
    (hq : q x = false) : (l.filter q).countP p < l.countP p := by
  have split := List.countP_eq_countP_filter_add l p q
  have gone : 0 < (l.filter fun a => !q a).countP p :=
    List.countP_pos_iff.2 ⟨x, List.mem_filter.2 ⟨mem, by rw [hq]; rfl⟩, hp⟩
  omega

section without
variable {s : State} {r : Record}

theorem State.without_held (k : Nat) : (s.without k).roster.held = s.roster.held.filter fun y => y.1 != k := by
  simp [State.roster, State.without, List.filter_map, Function.comp_def, Record.entry]

theorem State.QueueKept.without (h : s.QueueKept) (k : Nat) : (s.without k).QueueKept := by
  obtain ⟨ordinary, loss, distinct, range, counter⟩ := h
  have part : (s.without k).queue.records.Sublist s.queue.records := List.filter_sublist
  exact ⟨part.countP_le.trans ordinary, part.countP_le.trans loss, distinct.sublist (part.map _),
    fun x hx => range x (part.subset hx), counter⟩

theorem State.LossKept.without (h : s.LossKept) (k : Nat) : (s.without k).LossKept :=
  fun x hx => h x (List.mem_of_mem_filter hx)

/-- With its record gone the reserved slot is empty. -/
theorem State.QueueKept.without_loss (h : s.QueueKept) (mem : r ∈ s.queue.records) (reserved : r.reserved = true) :
    (s.without r.ticket).lossRecord = none := by
  obtain ⟨_, loss, _⟩ := h
  have less : (s.without r.ticket).queue.records.countP (fun x => x.reserved) < _ :=
    countP_filter_lt mem reserved (bne_self_eq_false r.ticket)
  exact State.lossRecord_none.2 (by omega)

theorem State.without_ordinary (mem : r ∈ s.queue.records) (ordinary : r.reserved = false) :
    (s.without r.ticket).ordinaryCount < s.ordinaryCount :=
  countP_filter_lt mem (by rw [ordinary]; rfl) (bne_self_eq_false r.ticket)

/-- The roster once a record has left: the others, and a new LOSS record where losses were held beside the old one (R64). -/
theorem State.removeRecord_roster (r : Record) :
    (s.removeRecord r).roster =
      if r.reserved = true ∧ s.queue.heldLosses ≠ 0 then ((s.without r.ticket).enter lossReport true 0).roster
      else (s.without r.ticket).roster := by
  have comm : ∀ t : State, (if r.state = .stranded then t.settleComm else t).roster = t.roster := fun t => by
    split <;> simp
  unfold State.removeRecord; dsimp only
  rw [State.tell_roster, State.settlePressure_roster, comm]
  by_cases reserved : r.reserved = true
  · by_cases none : s.queue.heldLosses = 0
    · simp only [reserved, none, if_true, State.faultCleared_roster]
      rw [if_neg (by simp)]; rfl
    · simp only [reserved, none, if_true, if_false]
      rw [if_pos ⟨trivial, none⟩, State.enter_roster, State.enter_roster]; rfl
  · rw [if_neg reserved, if_neg (fun h => reserved h.1)]; rfl

theorem State.removeRecord_roster_ordinary (ordinary : r.reserved = false) :
    (s.removeRecord r).roster = (s.without r.ticket).roster := by
  rw [State.removeRecord_roster, if_neg (by simp [ordinary])]

theorem State.QueueKept.removeRecord (h : s.QueueKept)
    (held : r.reserved = true → ∃ x ∈ s.queue.records, x.ticket = r.ticket ∧ x.reserved = true) :
    (s.removeRecord r).QueueKept := by
  have gone := h.without r.ticket
  by_cases new : r.reserved = true ∧ s.queue.heldLosses ≠ 0
  · obtain ⟨x, mem, ticket, reserved⟩ := held new.1
    have empty : (s.without r.ticket).lossRecord = none := ticket ▸ h.without_loss mem reserved
    exact (gone.enter lossReport (b := true) 0 nofun fun _ => empty).of_roster
      ((State.removeRecord_roster r).trans (if_pos new))
  · exact gone.of_roster ((State.removeRecord_roster r).trans (if_neg new))

theorem State.LossKept.removeRecord (h : s.LossKept) (r : Record) : (s.removeRecord r).LossKept := by
  have gone := h.without r.ticket
  by_cases new : r.reserved = true ∧ s.queue.heldLosses ≠ 0
  · exact (gone.enter (b := true) 0 (by simp)).of_roster ((State.removeRecord_roster r).trans (if_pos new))
  · exact gone.of_roster ((State.removeRecord_roster r).trans (if_neg new))

end without

/-! ### A report joins a record (R61) -/

section join
variable {s : State} {r : Record} {rep : Report}

/-- An entry whose record takes another class. -/
def reclassed (k : Nat) (c : ReportClass) (y : Nat × Report × Bool) : Nat × Report × Bool :=
  if y.1 = k then (y.1, { y.2.1 with cls := c }, y.2.2) else y

/-- A changed record: its entry alone shows in the roster. -/
theorem State.modRecord_held (k : Nat) (f : Record → Record) (g : Nat × Report × Bool → Nat × Report × Bool)
    (own : ∀ x : Record, x.ticket = k → (f x).entry = g x.entry) (other : ∀ y : Nat × Report × Bool, y.1 ≠ k → g y = y) :
    (s.modRecord k f).roster = { s.roster with held := s.roster.held.map g } := by
  have each : ∀ x : Record, (if x.ticket = k then f x else x).entry = g x.entry := fun x => by
    split
    · next e => exact own x e
    · next e => exact (other x.entry e).symm
  simp only [State.roster, State.modRecord, State.setQueue_queue, List.map_map, Function.comp_def, each]

/-- A better class shows in the roster, a further repeat does not. -/
theorem State.join_roster :
    (s.join r rep).roster =
      if rep.cls.rank < r.report.cls.rank then
        { s.roster with held := s.roster.held.map (reclassed r.ticket rep.cls) }
      else s.roster := by
  have repeated : ∀ n : Record → Nat, (s.modRecord r.ticket fun x => { x with repeats := n x }).roster = s.roster :=
    fun _ => State.modRecord_roster _ _ _ fun _ => rfl
  unfold State.join; dsimp only; split
  · have noted : ∀ (b : Prop) [Decidable b] (t : State) (n : Notice),
        (if b then t else (t.notice n).settleComm).roster = t.roster := fun b _ t n => by split <;> simp
    have entered : ∀ (b : Prop) [Decidable b] (t : State), (if b then t.fireEntry else t).roster = t.roster :=
      fun b _ t => by split <;> simp
    have handed : ∀ (b : Prop) [Decidable b] (t : State), (if b then t.handOn r.ticket else t).roster = t.roster :=
      fun b _ t => by split <;> simp
    rw [State.tell_roster, State.settlePressure_roster, handed, entered, noted,
      State.modRecord_held _ _ (reclassed r.ticket rep.cls) (fun x e => by simp [Record.entry, reclassed, e])
        (fun y e => if_neg e), repeated]
  · exact repeated _

theorem mem_of_joinable (h : s.joinable rep = some r) :
    r ∈ s.queue.records ∧ sameIdentity r.report rep = true ∧ r.isFree = true := by
  have found := List.find?_some h
  rw [Bool.and_eq_true] at found
  have mem := List.mem_of_find?_eq_some h
  rw [State.inOrder_eq, mem_inRank] at mem
  exact ⟨mem, found⟩

theorem State.QueueKept.join (h : s.QueueKept) : (s.join r rep).QueueKept := by
  rw [queueKept_iff] at h ⊢
  rw [State.join_roster]; split
  · obtain ⟨ordinary, loss, distinct, range, counter⟩ := h
    have ticket : ∀ y, (reclassed r.ticket rep.cls y).1 = y.1 := fun y => by unfold reclassed; split <;> rfl
    have reserved : ∀ y, (reclassed r.ticket rep.cls y).2.2 = y.2.2 := fun y => by unfold reclassed; split <;> rfl
    refine ⟨?_, ?_, ?_, ?_, counter⟩
    · simpa only [List.countP_map, Function.comp_def, reserved] using ordinary
    · simpa only [List.countP_map, Function.comp_def, reserved] using loss
    · simpa only [List.map_map, Function.comp_def, ticket] using distinct
    · intro y hy
      obtain ⟨z, hz, rfl⟩ := List.mem_map.1 hy
      rw [ticket]; exact range z hz
  · exact h

/-- Two records of one ticket are one. -/
theorem record_eq_of_ticket {rs : List Record} (distinct : (rs.map Record.ticket).Nodup) {x y : Record} (hx : x ∈ rs)
    (hy : y ∈ rs) (same : x.ticket = y.ticket) : x = y := List.inj_on_of_nodup_map distinct hx hy same

theorem sameIdentity_lossReport {a : Report} (c : ReportClass) :
    sameIdentity { a with cls := c } lossReport = sameIdentity a lossReport := rfl

/-- A report that is not the LOSS report's namesake joins no LOSS record, and makes none of another record. -/
theorem State.LossKept.join (h : s.LossKept) (distinct : (s.queue.records.map Record.ticket).Nodup)
    (mem : r ∈ s.queue.records) (same : sameIdentity r.report rep = true) (other : sameIdentity rep lossReport = false) :
    (s.join r rep).LossKept := by
  have named : sameIdentity r.report lossReport = false := by
    rw [sameIdentity_iff] at same
    rw [← same] at other; exact other
  have ordinary : r.reserved = false := by
    rw [Bool.eq_false_iff]; intro reserved
    rw [(h r mem).1 reserved] at named; revert named; decide
  rw [lossKept_iff, State.join_roster]; split
  · intro y hy
    obtain ⟨z, hz, rfl⟩ := List.mem_map.1 hy
    obtain ⟨x, hx, rfl⟩ := List.mem_map.1 hz
    unfold reclassed; split
    · next ticket =>
      obtain rfl := record_eq_of_ticket distinct hx mem ticket
      refine ⟨fun e => absurd (ordinary.symm.trans e) (by decide), fun e => ?_⟩
      have : sameIdentity { x.report with cls := rep.cls } lossReport = true := by
        rw [show ({ x.report with cls := rep.cls } : Report) = lossReport from e]; decide
      rw [sameIdentity_lossReport, named] at this; cases this
    · exact h x hx
  · exact (lossKept_iff s).1 h

end join

/-! ### Admission (R60 to R64) -/

section admission
variable {s : State} {rep : Report}

theorem mem_of_evictable {r : Record} {c : ReportClass} (h : s.evictable c = some r) :
    r ∈ s.queue.records ∧ r.reserved = false ∧ r.isFree = true ∧ c.rank < r.report.cls.rank := by
  have mem := List.mem_of_getLast? h
  rw [List.mem_filter, State.inOrder_eq, mem_inRank] at mem
  simpa [and_assoc] using mem

theorem State.countLoss_roster (k : Nat) (rep : Report) :
    (s.countLoss k rep).roster = { s.roster with lostTally := min 65535 (s.queue.lostTally + 1) } := by
  unfold State.countLoss; dsimp only; rw [State.notice_roster]; rfl

theorem State.QueueKept.countLoss (h : s.QueueKept) (k : Nat) (rep : Report) : (s.countLoss k rep).QueueKept := by
  rw [queueKept_iff] at h ⊢; rw [State.countLoss_roster]; exact h

theorem State.LossKept.countLoss (h : s.LossKept) (k : Nat) (rep : Report) : (s.countLoss k rep).LossKept := by
  rw [lossKept_iff] at h ⊢; rw [State.countLoss_roster]; exact h

/-- A loss told by a LOSS record that is there leaves the roster. -/
theorem State.accountLoss_roster :
    s.accountLoss.roster = if s.lossRecord = none then (s.enter lossReport true 0).roster else s.roster := by
  unfold State.accountLoss; split
  · next none => rw [if_pos none, State.faultActive_roster]
  · next r some =>
    rw [if_neg (c := s.lossRecord = none) (by simp [some])]; split
    · exact State.modRecord_roster _ _ _ fun _ => rfl
    · rfl

theorem State.QueueKept.accountLoss (h : s.QueueKept) : s.accountLoss.QueueKept := by
  by_cases none : s.lossRecord = none
  · exact (h.enter lossReport (b := true) 0 nofun fun _ => none).of_roster
      (State.accountLoss_roster.trans (if_pos none))
  · exact h.of_roster (State.accountLoss_roster.trans (if_neg none))

theorem State.LossKept.accountLoss (h : s.LossKept) : s.accountLoss.LossKept := by
  by_cases none : s.lossRecord = none
  · exact (h.enter (b := true) 0 (by simp)).of_roster (State.accountLoss_roster.trans (if_pos none))
  · exact h.of_roster (State.accountLoss_roster.trans (if_neg none))

/-- Another count of losses, and no other record, leaves the tickets to give. -/
theorem State.ordinaryCount_countLoss (k : Nat) (rep : Report) : (s.countLoss k rep).ordinaryCount = s.ordinaryCount := by
  rw [State.ordinaryCount_eq, State.countLoss_roster, State.ordinaryCount_eq]

theorem State.QueueKept.admission (h : s.QueueKept) (rep : Report) : (s.admission rep).1.QueueKept := by
  unfold State.admission; split
  · exact h.join
  · split
    · next room => exact h.enter rep 0 (fun _ => room) nofun
    · split
      · next r evicted =>
        obtain ⟨mem, ordinary, _⟩ := mem_of_evictable evicted
        have less := State.without_ordinary mem ordinary
        refine State.QueueKept.accountLoss (((h.removeRecord fun e => ?_).countLoss _ _).enter rep 0 (fun _ => ?_)
          nofun)
        · rw [ordinary] at e; cases e
        · rw [State.ordinaryCount_countLoss, State.ordinaryCount_eq, State.removeRecord_roster_ordinary ordinary,
            ← State.ordinaryCount_eq]
          exact less.trans_le h.1
      · exact (h.countLoss _ _).accountLoss

theorem State.LossKept.admission (h : s.LossKept) (kept : s.QueueKept) (other : sameIdentity rep lossReport = false) :
    (s.admission rep).1.LossKept := by
  have named : rep ≠ lossReport := by rintro rfl; revert other; decide
  have own : ∀ t : State, t.LossKept → (t.enter rep false 0).LossKept := fun t ht => ht.enter 0 (by simpa using named)
  obtain ⟨_, _, distinct, _⟩ := kept
  unfold State.admission; split
  · next joins =>
    obtain ⟨mem, same, _⟩ := mem_of_joinable joins
    exact h.join distinct mem same other
  · split
    · exact own s h
    · split
      · exact (own _ ((h.removeRecord _).countLoss _ _)).accountLoss
      · exact (h.countLoss _ _).accountLoss

end admission

end Sys2Proof.Machine
end

section
/-! The deferred count and the pressure through the queue's operations (R73): each one that changes what is counted settles the pressure last. -/

namespace Sys2Proof.Machine

/-- The low mark lies below the high mark (R165). -/
def State.Marked (s : State) : Prop := s.t1.lowMark < s.t1.highMark

/-- The marks are in order, and count and pressure stand as they ask (R73). -/
def State.Balanced (s : State) : Prop := s.Marked ∧ s.PressureKept

theorem deferredCount_eq (rs : List Record) :
    deferredCount rs = rs.countP fun r => decide (2 < r.report.cls.rank) && (r.state == .waiting || r.state == .stranded) := by
  have group : ∀ c : ReportClass, c.deferred = decide (2 < c.rank) := fun c => by cases c <;> rfl
  simp only [deferredCount, group, Record.isFree]

theorem pressureKept_iff (s : State) :
    s.PressureKept ↔ s.queue.deferred = deferredCount s.queue.records ∧
      (s.queue.pressure = true → s.t1.lowMark < s.queue.deferred) ∧
      (s.queue.pressure = false → s.queue.deferred < s.t1.highMark) := by
  rw [deferredCount_eq]; rfl

theorem t1_of_base {s t : State} (h : t.base = s.base) : t.t1 = s.t1 := congrArg (fun b => b.tables.t1) h

theorem t1_of_calm {s t : State} (h : t.calm = s.calm) : t.t1 = s.t1 := t1_of_base (base_of_still (still_of_calm h))

section balance
variable {s t : State}

theorem State.Marked.of_t1 (h : s.Marked) (e : t.t1 = s.t1) : t.Marked := by
  unfold State.Marked; rw [e]; exact h

theorem State.Marked.setQueue (h : s.Marked) (q : Queue) : (s.setQueue q).Marked := h

theorem State.Marked.setStates (h : s.Marked) (ks : List Nat) (x : RecordState) : (s.setStates ks x).Marked := h

theorem State.Marked.of_calm (h : s.Marked) (e : t.calm = s.calm) : t.Marked := h.of_t1 (t1_of_calm e)

/-- A queue with the same count and pressure, and as many records to count. -/
theorem State.Balanced.of_count (h : s.Balanced) (marks : t.t1 = s.t1)
    (count : deferredCount t.queue.records = deferredCount s.queue.records)
    (deferred : t.queue.deferred = s.queue.deferred) (pressure : t.queue.pressure = s.queue.pressure) : t.Balanced := by
  obtain ⟨marked, kept⟩ := h
  refine ⟨marked.of_t1 marks, ?_⟩
  rw [pressureKept_iff] at kept ⊢
  rwa [count, deferred, pressure, marks]

theorem State.Balanced.of_queue (h : s.Balanced) (queue : t.queue = s.queue) (marks : t.t1 = s.t1) : t.Balanced :=
  h.of_count marks (by rw [queue]) (by rw [queue]) (by rw [queue])

/-- A queue changed in its counter, losses, timer or gate. -/
theorem State.Balanced.setQueue_losses (h : s.Balanced) {q : Queue} (records : q.records = s.queue.records)
    (deferred : q.deferred = s.queue.deferred) (pressure : q.pressure = s.queue.pressure) : (s.setQueue q).Balanced :=
  h.of_count rfl (congrArg deferredCount records) deferred pressure

theorem State.Balanced.notice (h : s.Balanced) (n : Notice) : (s.notice n).Balanced :=
  h.of_queue (by simp) (t1_of_calm (by simp))

/-- A record changed in nothing that is counted. -/
theorem State.Balanced.modRecord (h : s.Balanced) (k : Nat) (f : Record → Record)
    (same : ∀ r, (f r).report.cls = r.report.cls ∧ (f r).state = r.state) : (s.modRecord k f).Balanced := by
  refine h.of_count rfl ?_ rfl rfl
  unfold deferredCount State.modRecord
  simp only [State.setQueue_queue, List.countP_map]
  refine List.countP_congr fun r _ => ?_
  simp only [Function.comp_apply]; split
  · simp only [(same r).1, (same r).2, Record.isFree]
  · rfl

/-- The pressure once settled stands as the marks ask, whatever it was (R73). -/
theorem State.Marked.settlePressure (h : s.Marked) : s.settlePressure.Balanced := by
  have settled : ∀ q : Queue, q.records = s.queue.records → q.deferred = deferredCount s.queue.records →
      q.pressure = pressureAfter s.t1 s.queue.pressure (deferredCount s.queue.records) → (s.setQueue q).Balanced := by
    intro q records deferred pressure
    refine ⟨h, (pressureKept_iff _).2 ⟨?_, ?_, ?_⟩⟩
    · rw [State.setQueue_queue, deferred, records]
    · unfold State.Marked State.t1 at *
      simp only [State.setQueue_queue, State.setQueue_tables, deferred, pressure, pressureAfter]
      split
      · simp
      · simp; omega
    · unfold State.Marked State.t1 at *
      simp only [State.setQueue_queue, State.setQueue_tables, deferred, pressure, pressureAfter]
      split
      · simp; omega
      · simp
  unfold State.settlePressure; dsimp only; split
  · exact settled _ rfl rfl rfl
  · exact settled _ rfl rfl rfl

theorem State.Balanced.setSlots (h : s.Balanced) (l : LineNo) (x y : Slot) : (s.setSlots l x y).Balanced :=
  h.of_queue rfl rfl

theorem State.Balanced.setFaults (h : s.Balanced) (fs : List FaultEntry) : (s.setFaults fs).Balanced :=
  h.of_queue rfl rfl

theorem State.Balanced.setWork (h : s.Balanced) (w : Work) : (s.setWork w).Balanced := h.of_queue rfl rfl

theorem State.Balanced.faultActive (h : s.Balanced) (k : FaultKind) (i : Nat) : (s.faultActive k i).Balanced := by
  unfold State.faultActive; split
  · exact (h.setFaults _).notice _
  · split
    · exact h
    · exact (h.setFaults _).notice _

theorem State.Balanced.faultCleared (h : s.Balanced) (k : FaultKind) (i : Nat) : (s.faultCleared k i).Balanced :=
  h.of_queue (congrArg Steady.queue (s.faultCleared_steady k i)) (t1_of_calm (by simp))

/-! ### Claims and returns (R67, R68, R138) -/

theorem State.Marked.claimSending (h : s.Marked) (l : LineNo) (e : RxNo) (n : Nat) : (s.claimSending l e n).Balanced := by
  unfold State.claimSending
  exact (h.setStates _ _).settlePressure.setSlots l _ _

theorem State.Marked.claimNext (h : s.Marked) (l : LineNo) (e : RxNo) (n : Nat) : (s.claimNext l e n).Balanced := by
  unfold State.claimNext
  exact (h.setStates _ _).settlePressure.setSlots l _ _

theorem State.Balanced.returnRecord (h : s.Balanced) (k : Nat) : (s.returnRecord k).Balanced := by
  unfold State.returnRecord; split
  · exact h
  · split
    · dsimp only; split <;> exact State.Marked.settlePressure (h.1.of_calm (by simp))
    · exact h

theorem State.Balanced.returnAll (h : s.Balanced) (ks : List Nat) : (s.returnAll ks).Balanced := by
  induction ks generalizing s with
  | nil => exact h
  | cons k ks ih => exact ih (h.returnRecord k)

theorem State.Balanced.recompose (h : s.Balanced) (l : LineNo) (e : RxNo) (k : Nat) : (s.recompose l e k).Balanced := by
  unfold State.recompose; dsimp only; split
  · exact h.1.claimNext l e _
  · split
    · split
      · exact ((h.returnRecord _).setSlots l _ _).1.claimNext l e 1
      · exact h
    · exact h

theorem State.Balanced.takeHandOn (h : s.Balanced) (k : Nat) : (s.takeHandOn k).Balanced := by
  unfold State.takeHandOn; split
  · exact h
  · split
    · split
      · exact h
      · split
        · exact h
        · exact h.recompose _ _ k
    · exact h

theorem State.Balanced.drainFuel (n : Nat) : ∀ {s : State}, s.Balanced → (State.drainFuel n s).Balanced := by
  induction n with
  | zero => exact id
  | succ n ih =>
    intro s h; unfold State.drainFuel; split
    · exact h
    · exact ih ((h.setWork _).takeHandOn _)

theorem State.Balanced.drain (h : s.Balanced) : s.drain.Balanced := by
  unfold State.drain; split
  · exact h
  · exact State.Balanced.drainFuel 128 h

/-! ### Admission and removal (R60 to R65, R69 to R71) -/

theorem State.Marked.tellNeighbours (h : s.Marked) (k : Nat) (c : ReportClass) (x : RecordState) :
    (s.tellNeighbours k c x).Balanced := by
  unfold State.tellNeighbours; dsimp only
  split <;> split <;> split <;> exact State.Marked.settlePressure (h.of_calm (by simp))

theorem State.Marked.enter (h : s.Marked) (rep : Report) (b : Bool) (n : Nat) : (s.enter rep b n).Balanced := by
  unfold State.enter
  exact (h.setQueue _).tellNeighbours _ _ _

theorem State.Balanced.accountLoss (h : s.Balanced) : s.accountLoss.Balanced := by
  unfold State.accountLoss; split
  · exact (h.1.enter _ _ _).faultActive _ _
  · split
    · refine h.modRecord _ _ fun _ => ?_
      exact ⟨rfl, rfl⟩
    · exact h.setQueue_losses rfl rfl rfl

theorem State.Balanced.countLoss (h : s.Balanced) (k : Nat) (rep : Report) : (s.countLoss k rep).Balanced := by
  unfold State.countLoss
  refine (h.setQueue_losses ?_ ?_ ?_).notice _ <;> rfl

theorem State.Balanced.tell (h : s.Balanced) : s.tell.Balanced := h

theorem State.Marked.removeRecord (h : s.Marked) (r : Record) : (s.removeRecord r).Balanced := by
  unfold State.removeRecord; dsimp only
  split <;> split <;> (try split) <;> exact State.Balanced.tell (State.Marked.settlePressure (h.of_calm (by simp)))

theorem State.Balanced.join (h : s.Balanced) (r : Record) (rep : Report) : (s.join r rep).Balanced := by
  unfold State.join; dsimp only; split
  · split <;> split <;> (try split) <;> split <;>
      exact State.Balanced.tell (State.Marked.settlePressure (h.1.of_calm (by simp)))
  · exact h.modRecord _ _ fun _ => ⟨rfl, rfl⟩

theorem State.Balanced.admission (h : s.Balanced) (rep : Report) : (s.admission rep).1.Balanced := by
  unfold State.admission; split
  · exact h.join _ _
  · split
    · exact h.1.enter _ _ _
    · split
      · exact (((h.1.removeRecord _).countLoss _ _).1.enter _ _ _).accountLoss
      · exact (h.countLoss _ _).accountLoss

theorem State.Balanced.acceptRecord (h : s.Balanced) (e : RxNo) (k : Nat) : (State.acceptRecord e s k).Balanced := by
  unfold State.acceptRecord; split
  · exact h
  · split
    · split
      · exact (h.notice _).1.removeRecord _
      · split
        · dsimp only; split
          · refine ((h.modRecord k _ fun _ => ?_).notice _).1.removeRecord _
            exact ⟨rfl, rfl⟩
          · refine ((h.modRecord k _ fun _ => ?_).notice _).returnRecord k
            exact ⟨rfl, rfl⟩
        · exact h.returnRecord k
    · exact h

theorem State.Balanced.reexamineOne (h : s.Balanced) (k : Nat) : (s.reexamineOne k).Balanced := by
  unfold State.reexamineOne; split
  · exact h
  · split
    · exact State.Marked.settlePressure (h.1.of_calm (by simp))
    · exact State.Marked.settlePressure (h.1.of_calm (by simp))
    · exact h

theorem State.Balanced.rebuild (h : s.Balanced) : s.rebuild.Balanced := by
  refine h.of_count rfl ?_ rfl rfl
  unfold deferredCount State.rebuild
  simp only [State.setQueue_queue, List.countP_map]
  refine List.countP_congr fun r _ => ?_
  simp only [Function.comp_apply]; split <;> rfl

end balance

end Sys2Proof.Machine
end

section
/-! What the blocks' work keeps of the queue: its capacity, tickets and LOSS record, and the deferred count with the pressure. One relation between the states before and after that every operation meets, as `Works` is for the settings and pins. -/

namespace Sys2Proof.Machine

/-- The queue, and the settings of T1 that the pressure is judged by. -/
def State.filed (s : State) : Queue × T1 := (s.queue, s.t1)

/-- From `s` to `t` what the queue keeps is kept. -/
structure Files (s t : State) : Prop where
  queue : s.QueueKept → t.QueueKept
  loss : s.QueueKept → s.LossKept → t.LossKept
  balance : s.Balanced → t.Balanced

theorem filed_of_steady {s t : State} (h : t.steady = s.steady) : t.filed = s.filed :=
  Prod.ext (congrArg Steady.queue h) (t1_of_base (base_of_steady h))

section files
variable {s t u : State}

theorem Files.refl : Files s s := ⟨id, fun _ => id, id⟩

theorem Files.trans (h : Files s t) (g : Files t u) : Files s u :=
  ⟨fun k => g.queue (h.queue k), fun k x => g.loss (h.queue k) (h.loss k x), fun b => g.balance (h.balance b)⟩

theorem Files.same (h : Files s t) (g : u.filed = t.filed) : Files s u := by
  have queue : u.queue = t.queue := congrArg Prod.fst g
  exact h.trans ⟨fun k => k.of_roster (roster_of_queue queue), fun _ k => k.of_roster (roster_of_queue queue),
    fun b => b.of_queue queue (congrArg Prod.snd g)⟩

theorem Files.steady (h : Files s t) (g : u.steady = t.steady) : Files s u := h.same (filed_of_steady g)

/-- A change that the roster does not show. -/
theorem Files.roster (h : Files s t) (g : u.roster = t.roster) (balance : t.Balanced → u.Balanced) : Files s u :=
  h.trans ⟨fun k => k.of_roster g, fun _ k => k.of_roster g, balance⟩

theorem Files.ite {c : Prop} [Decidable c] (yes : Files s t) (no : Files s u) : Files s (if c then t else u) := by
  split
  · exact yes
  · exact no

theorem Files.foldl {α : Type} {f : State → α → State} (l : List α) (h : Files s t) (step : ∀ u a, Files u (f u a)) :
    Files s (l.foldl f t) := by
  induction l generalizing t with
  | nil => exact h
  | cons a l ih => exact ih (h.trans (step t a))

end files

/-! ### Plain updates -/

section plain
variable {s t : State}

theorem Files.setLine (h : Files s t) (l : LineNo) (x : Line) : Files s (t.setLine l x) := h.same rfl
theorem Files.setCtl (h : Files s t) (l : LineNo) (x : LineCtl) : Files s (t.setCtl l x) := h.same rfl
theorem Files.setSense (h : Files s t) (l : LineNo) (x : Sense) : Files s (t.setSense l x) := h.same rfl
theorem Files.setDetector (h : Files s t) (l : LineNo) (x : Detector) : Files s (t.setDetector l x) := h.same rfl
theorem Files.setIface (h : Files s t) (l : LineNo) (x : Iface) : Files s (t.setIface l x) := h.same rfl
theorem Files.setSender (h : Files s t) (l : LineNo) (x : Option Nat) : Files s (t.setSender l x) := h.same rfl
theorem Files.setCall (h : Files s t) (l : LineNo) (x : Option Call) : Files s (t.setCall l x) := h.same rfl
theorem Files.modCall (h : Files s t) (l : LineNo) (f : Call → Call) : Files s (t.modCall l f) := h.same rfl
theorem Files.enterState (h : Files s t) (l : LineNo) (c : CallState) (ms : Nat) : Files s (t.enterState l c ms) :=
  h.same rfl
theorem Files.setSlots (h : Files s t) (l : LineNo) (x y : Slot) : Files s (t.setSlots l x y) := h.same rfl
theorem Files.setChannel (h : Files s t) (c : ChannelNo) (x : InputChannel) : Files s (t.setChannel c x) := h.same rfl
theorem Files.setRx (h : Files s t) (e : RxNo) (x : RxStatus) : Files s (t.setRx e x) := h.same rfl
theorem Files.setDispatcher (h : Files s t) (d : Dispatcher) : Files s (t.setDispatcher d) := h.same rfl
theorem Files.setWork (h : Files s t) (x : Work) : Files s (t.setWork x) := h.same rfl
theorem Files.tell (h : Files s t) : Files s t.tell := h.same rfl
theorem Files.setBusy (h : Files s t) (b : Bool) : Files s (t.setBusy b) := h.same rfl
theorem Files.setMode (h : Files s t) (m : Mode) : Files s (t.setMode m) := h.same rfl
theorem Files.setHold (h : Files s t) (x : Hold) : Files s (t.setHold x) := h.same rfl
theorem Files.setHoldTimer (h : Files s t) (x : Option Nat) : Files s (t.setHoldTimer x) := h.same rfl
theorem Files.setSave (h : Files s t) (x : Option Save) : Files s (t.setSave x) := h.same rfl
theorem Files.setWaitList (h : Files s t) (x : List LineNo) : Files s (t.setWaitList x) := h.same rfl
theorem Files.setLoading (h : Files s t) (b : Bool) : Files s (t.setLoading b) := h.same rfl
theorem Files.setLink (h : Files s t) (k : Link) : Files s (t.setLink k) := h.same rfl
theorem Files.setFaults (h : Files s t) (fs : List FaultEntry) : Files s (t.setFaults fs) := h.same rfl
theorem Files.respond (h : Files s t) (kind : Byte) (a : Answer) : Files s (t.respond kind a) := h.same rfl
theorem Files.notice (h : Files s t) (n : Notice) : Files s (t.notice n) := h.steady (by simp)

/-- The start of the test timer and the note that the gate has opened. -/
theorem Files.setQueue_timer (h : Files s t) (opened : Bool) (due : Option Nat) :
    Files s (t.setQueue { t.queue with gateOpened := opened, testTimer := due }) :=
  h.trans ⟨id, fun _ => id, fun b => b.setQueue_losses rfl rfl rfl⟩

theorem Files.faultCleared (h : Files s t) (k : FaultKind) (i : Nat) : Files s (t.faultCleared k i) := h.steady (by simp)

theorem Files.faultActive (h : Files s t) (k : FaultKind) (i : Nat) : Files s (t.faultActive k i) :=
  h.roster (by simp) fun b => b.faultActive k i

theorem Files.startHoldLimit (h : Files s t) : Files s t.startHoldLimit := by
  unfold State.startHoldLimit; split
  · exact h.setHoldTimer _
  · exact h

theorem Files.settleFireTimer (h : Files s t) : Files s t.settleFireTimer := h.steady (by simp)

end plain

/-! ### The Report Queue -/

section queue
variable {s t : State}

theorem Files.settlePressure (h : Files s t) : Files s t.settlePressure :=
  h.roster (by simp) fun b => b.1.settlePressure

theorem Files.claimSending (h : Files s t) (l : LineNo) (e : RxNo) (n : Nat) : Files s (t.claimSending l e n) :=
  h.roster (by simp) fun b => b.1.claimSending l e n

theorem Files.claimNext (h : Files s t) (l : LineNo) (e : RxNo) (n : Nat) : Files s (t.claimNext l e n) :=
  h.roster (by simp) fun b => b.1.claimNext l e n

/-- NEXT moves to SENDING and is filled again, which settles the count (R68). -/
theorem Files.moveNext_claimNext (h : Files s t) (l : LineNo) (e : RxNo) (n : Nat) :
    Files s ((t.moveNext l).claimNext l e n) :=
  h.roster (by simp) fun b => State.Marked.claimNext (b.1.of_calm (by simp)) l e n

theorem Files.returnAll (h : Files s t) (ks : List Nat) : Files s (t.returnAll ks) :=
  h.roster (by simp) fun b => b.returnAll ks

theorem Files.drain (h : Files s t) : Files s t.drain := h.roster (by simp) fun b => b.drain

theorem Files.reexamine (h : Files s t) : Files s t.reexamine :=
  h.foldl _ fun u k => Files.refl.roster (by simp) fun b => b.reexamineOne k

theorem Files.rebuild (h : Files s t) : Files s t.rebuild := h.roster (by simp) fun b => b.rebuild

/-- A record that the queue holds leaves it (R64, R71). -/
theorem Files.removeRecord (h : Files s t) {r : Record} (held : r.entry ∈ t.roster.held) : Files s (t.removeRecord r) := by
  obtain ⟨x, hx, entry⟩ := List.mem_map.1 held
  simp only [Record.entry, Prod.mk.injEq] at entry
  obtain ⟨ticket, _, reserved⟩ := entry
  exact h.trans ⟨fun k => k.removeRecord fun e => ⟨x, hx, ticket, reserved.trans e⟩, fun _ k => k.removeRecord r,
    fun b => b.1.removeRecord r⟩

/-- A report handed to the queue, that is not the LOSS report's namesake (R60 to R65, R77). -/
theorem Files.admission (h : Files s t) {rep : Report} (other : sameIdentity rep lossReport = false) :
    Files s (t.admission rep).1 :=
  h.trans ⟨fun k => k.admission rep, fun k x => x.admission k other, fun b => b.admission rep⟩

theorem Files.report (h : Files s t) {rep : Report} (other : sameIdentity rep lossReport = false) :
    Files s (t.report rep) := h.admission other

theorem Files.reports (h : Files s t) {rs : List Report} (other : ∀ r ∈ rs, sameIdentity r lossReport = false) :
    Files s (rs.foldl State.report t) := by
  induction rs generalizing t with
  | nil => exact h
  | cons r rs ih =>
    exact ih (h.report (other r List.mem_cons_self)) fun x hx => other x (List.mem_cons_of_mem r hx)

theorem State.entry_of_find {r : Record} {k : Nat} (h : s.find k = some r) : r.entry ∈ s.roster.held :=
  List.mem_map.2 ⟨r, List.mem_of_find?_eq_some h, rfl⟩

theorem Files.acceptRecord (h : Files s t) (e : RxNo) (k : Nat) : Files s (State.acceptRecord e t k) := by
  unfold State.acceptRecord; split
  · exact h
  · next r found =>
    have held := State.entry_of_find found
    have taken : ∀ f : Record → Record, (∀ x, (f x).entry = x.entry ∧ (f x).state = x.state) → Files s (t.modRecord k f) ∧
        r.entry ∈ (t.modRecord k f).roster.held := fun f same => by
      have roster := t.modRecord_roster k f fun x => (same x).1
      refine ⟨h.roster roster fun b => b.modRecord k f fun x => ⟨?_, (same x).2⟩, roster ▸ held⟩
      exact congrArg (fun y : Nat × Report × Bool => y.2.1.cls) (same x).1
    split
    · split
      · exact (h.notice _).removeRecord (by simpa using held)
      · split
        · dsimp only
          obtain ⟨files, there⟩ := taken (fun x =>
            { x with pendingList := r.pendingList.erase e, acceptedList := x.acceptedList ++ [e] }) fun _ => ⟨rfl, rfl⟩
          split
          · exact (files.notice _).removeRecord (by simpa using there)
          · exact (files.notice _).roster (by simp) fun b => b.returnRecord k
        · exact h.roster (by simp) fun b => b.returnRecord k
    · exact h

theorem Files.applyAccept (h : Files s t) (e : RxNo) (ks : List Nat) : Files s (t.applyAccept e ks) :=
  h.foldl ks fun _ k => Files.refl.acceptRecord e k

theorem Files.receiverResult (h : Files s t) (e : RxNo) (x : Option CallResult) : Files s (t.receiverResult e x) := by
  unfold State.receiverResult; split
  · split
    · dsimp only; split
      · exact (h.setRx e _).reexamine.tell
      · exact h.setRx e _
    · exact (h.setRx e _).tell
  · exact (h.setRx e _).tell

end queue

/-! ### Routes and channels -/

section inputs
variable {s t : State}

theorem Files.reportRoutes (h : Files s t) : Files s t.reportRoutes := by
  refine h.foldl _ fun u r => ?_
  unfold State.reportRoute; split
  · exact Files.refl.faultActive _ _
  · exact Files.refl.faultCleared _ _

theorem Files.evaluateRoutes (h : Files s t) : Files s t.evaluateRoutes :=
  Files.reportRoutes (h.same (u := t.setRoutes _) rfl)

/-- No channel gives the LOSS report: its reports come from the input. -/
theorem sameIdentity_of_input {r : Report} (h : r.source = .input) : sameIdentity r lossReport = false := by
  simp [sameIdentity, h, lossReport]

theorem Files.reconcileWiring (h : Files s t) (c : ChannelNo) : Files s (t.reconcileWiring c) := by
  rw [State.reconcileWiring_eq]
  have reported := (h.setChannel c { t.channel c with wiring := wiringOf (t.channel c).confirmed }).reports
    (rs := wiringReports (t.t6 c) (t.channel c).wiring (t.channel c).confirmed)
    fun r hr => sameIdentity_of_input (wiringReports_input _ _ _ r hr).1
  refine .ite h ?_
  unfold State.noteWiring; split
  · exact reported.faultActive _ _
  · exact reported.faultCleared _ _

theorem Files.reconcileAlarm (h : Files s t) (c : ChannelNo) : Files s (t.reconcileAlarm c) := by
  rw [State.reconcileAlarm_eq]
  exact (h.setChannel c _).reports fun r hr => sameIdentity_of_input (alarmReports_input _ _ _ r hr).1

theorem Files.reconcile (h : Files s t) (c : ChannelNo) : Files s (t.reconcile c) :=
  (h.reconcileWiring c).reconcileAlarm c

theorem Files.setForce (h : Files s t) (c : ChannelNo) (f : Force) : Files s (t.setForce c f) := by
  have tested : Files s (t.tested c f) := by
    unfold State.tested; dsimp only
    exact .ite ((h.setChannel c _).report rfl) (.ite ((h.setChannel c _).report rfl) (h.setChannel c _))
  rw [State.setForce_eq]
  exact .ite h (.ite (tested.reconcile c) tested)

theorem Files.releaseAll (h : Files s t) : Files s t.releaseAll := h.foldl _ fun _ c => Files.refl.setForce c .none

theorem Files.interlock (h : Files s t) (c : ChannelNo) : Files s (t.interlock c) := by
  unfold State.interlock; split
  · exact h.setForce c _
  · exact h

theorem Files.inputReading (h : Files s t) (c : ChannelNo) (n : Nat) : Files s (t.inputReading c n) := by
  unfold State.inputReading; dsimp only; split
  · split
    · exact ((h.setChannel c _).notice _).reconcile c
    · exact ((h.setChannel c _).notice _).interlock c
  · exact h.setChannel c _

theorem Files.isolateChannel (h : Files s t) (c : ChannelNo) : Files s (t.isolateChannel c) := by
  unfold State.isolateChannel; dsimp only; split
  · exact ((h.report rfl).setChannel c _).report rfl
  · exact (h.setChannel c _).report rfl

theorem Files.deIsolateChannel (h : Files s t) (c : ChannelNo) : Files s (t.deIsolateChannel c) := by
  unfold State.deIsolateChannel
  exact ((h.setChannel c _).report rfl).reconcile c

theorem Files.unlatchChannel (h : Files s t) (c : ChannelNo) : Files s (t.unlatchChannel c) := by
  unfold State.unlatchChannel; dsimp only; split
  · exact (h.setChannel c _).reconcile c
  · exact h.setChannel c _

end inputs

end Sys2Proof.Machine
end

section
/-! The work of the Line Controllers, the Call Controllers and the Dispatcher, and the end of a command's work, as far as the queue's conditions go. -/

namespace Sys2Proof.Machine

/-! ### Line Controllers -/

section lines
variable {s t : State}

theorem Files.lineNotice (h : Files s t) (l : LineNo) : Files s (t.lineNotice l) := h.notice _
theorem Files.recompute (h : Files s t) (l : LineNo) : Files s (t.recompute l) := h.steady (by simp)
theorem Files.startPromotion (h : Files s t) (l : LineNo) : Files s (t.startPromotion l) := h.setCtl l _
theorem Files.startNext (h : Files s t) : Files s t.startNext := h.steady (by simp)
theorem Files.needReady (h : Files s t) (l : LineNo) : Files s (t.needReady l) := h.steady (by simp)
theorem Files.stepDown (h : Files s t) (l : LineNo) : Files s (t.stepDown l) := h.steady (by simp)
theorem Files.yieldPower (h : Files s t) (l : LineNo) : Files s (t.yieldPower l) := h.steady (by simp)
theorem Files.beginLend (h : Files s t) (l : LineNo) : Files s (t.beginLend l) := h.steady (by simp)
theorem Files.endLend (h : Files s t) (l : LineNo) : Files s (t.endLend l) := h.steady (by simp)
theorem Files.lineOff (h : Files s t) (l : LineNo) : Files s (t.lineOff l) := h.steady (by simp)

theorem Files.reserveLine (h : Files s t) (l : LineNo) : Files s (t.reserveLine l) := by
  unfold State.reserveLine; split
  · exact h.stepDown l
  · exact .ite ((h.setCtl l _).setWaitList _) h

theorem Files.normalLine (h : Files s t) (l : LineNo) : Files s (t.normalLine l) := .ite (h.startPromotion l) h

theorem Files.setClassOcc (h : Files s t) (l : LineNo) (o : ClassOcc) : Files s (t.setClassOcc l o) :=
  .ite h ((h.setCtl l _).recompute l)

theorem Files.lineDownReports (h : Files s t) (l : LineNo) (r : ClassReport) : Files s (t.lineDownReports l r) :=
  .ite ((h.report rfl).faultActive _ _) (.ite ((h.report rfl).faultCleared _ _) h)

theorem Files.toneHeard (h : Files s t) (l : LineNo) : Files s (t.toneHeard l) := h.setCtl l _

theorem Files.countNoTone (h : Files s t) (l : LineNo) : Files s (t.countNoTone l) :=
  .ite h (.ite (h.setCtl l _) ((((h.setCtl l _).lineNotice l).tell.report rfl).faultActive _ _))

theorem Files.probeResult (h : Files s t) (l : LineNo) (x : Option CallResult) : Files s (t.probeResult l x) :=
  .ite ((((h.setCtl l _).lineNotice l).tell.report rfl).faultCleared _ _) (h.setCtl l _)

theorem Files.lineResult (h : Files s t) (l : LineNo) (p : Purpose) (x : Option CallResult) :
    Files s (t.lineResult l p x) := by
  cases p with
  | probe => exact h.probeResult l x
  | report => exact .ite (h.countNoTone l) h

theorem Files.lineOn (h : Files s t) (l : LineNo) : Files s (t.lineOn l) := by
  have on := fun x => Files.ite (c := t.supply = .normal) ((h.setCtl l x).startPromotion l) (h.setCtl l x)
  exact (on _).recompute l

theorem Files.enabledChanged (h : Files s t) (l : LineNo) (b : Bool) : Files s (t.enabledChanged l b) :=
  .ite (.ite (h.setCtl l _) (h.lineOn l)) (.ite (h.setCtl l _) (.ite ((h.endLend l).lineOff l) (h.lineOff l)))

theorem Files.handBack (h : Files s t) (l : LineNo) (p : Purpose) (x : Option CallResult) :
    Files s (t.handBack l p x) := by
  have back := fun y => (((h.lineResult l p x).setCall l none).setCtl l y).yieldPower l
  exact .ite ((back _).lineOff l).tell (.ite ((back _).beginLend l).tell ((back _).recompute l).tell)

end lines

/-! ### Call Controllers -/

section calls
variable {s t : State}

theorem Files.endContext (h : Files s t) (l : LineNo) (c : Call) (x : Option CallResult) :
    Files s (t.endContext l c x) := by
  unfold State.endContext; dsimp only
  split <;> split
  · exact ((h.notice _).handBack l c.purpose _).receiverResult _ _
  · exact (h.handBack l c.purpose _).receiverResult _ _
  · exact (h.notice _).handBack l c.purpose _
  · exact h.handBack l c.purpose _

theorem Files.releaseCall (h : Files s t) (l : LineNo) (c : Call) (x : CallResult) : Files s (t.releaseCall l c x) := by
  unfold State.releaseCall
  exact (((((((((h.setBusy true).setSender l none).returnAll _).returnAll _).setSlots l _ _).setIface l _).setDetector
    l _).setCall l _).setBusy false).drain

theorem Files.giveResult (h : Files s t) (l : LineNo) (x : CallResult) : Files s (t.giveResult l x) := by
  unfold State.giveResult; split
  · exact h
  · split
    · exact h.endContext l _ _
    · exact h
    · exact h.releaseCall l _ _

theorem Files.dropCall (h : Files s t) (l : LineNo) : Files s (t.dropCall l) := by
  unfold State.dropCall; split
  · exact h.endContext l _ _
  · exact h

theorem Files.enterDialtone (h : Files s t) (l : LineNo) : Files s (t.enterDialtone l) := h.steady (by simp)
theorem Files.takeLine (h : Files s t) (l : LineNo) : Files s (t.takeLine l) := h.steady (by simp)

theorem Files.startCall (h : Files s t) (l : LineNo) (c : Call) : Files s (t.startCall l c) :=
  .ite ((h.setCall l _).giveResult l _) (.ite ((h.setCall l _).takeLine l) ((h.setCall l _).needReady l))

theorem Files.sendFailed (h : Files s t) (l : LineNo) (c : Call) : Files s (t.sendFailed l c) :=
  .ite (h.enterState l _ _) (h.giveResult l _)

theorem Files.acceptBlock (h : Files s t) (l : LineNo) (c : Call) (e : RxNo) : Files s (t.acceptBlock l c e) := by
  unfold State.acceptBlock; dsimp only
  have gone := fun f ks x y => ((((h.setBusy true).modCall l f).applyAccept e ks).setRx e x).setSlots l Slot.empty y
  exact Files.drain (Files.setBusy (.ite ((gone _ _ _ _).giveResult l _)
    (.ite ((gone _ _ _ _).giveResult l _) ((gone _ _ _ _).enterState l _ _))) false)

theorem Files.replyEnd (h : Files s t) (l : LineNo) (c : Call) (o : Nat) (b : Band) (ms onset : Nat) :
    Files s (t.replyEnd l c o b ms onset) := by
  unfold State.replyEnd; split
  · split
    · exact h.acceptBlock l c _
    · exact h
  · exact .ite (h.sendFailed l c) (.ite (h.sendFailed l c) h)

theorem Files.toneReport (h : Files s t) (l : LineNo) (r : ToneReport) : Files s (t.toneReport l r) := by
  unfold State.toneReport; split
  · exact h
  · split
    · exact .ite (.ite ((h.setCall l _).giveResult l _) (h.setCall l _)) (h.setCall l _)
    · dsimp only; split
      · exact h.setCall l _
      · exact .ite ((h.setCall l _).enterState l _ _) (h.setCall l _)
      · exact (h.setCall l _).replyEnd l _ _ _ _ _
      · exact h.setCall l _

theorem Files.mute (h : Files s t) (l : LineNo) : Files s (t.mute l) := by
  unfold State.mute; dsimp only; split
  · exact (h.setDetector l _).toneReport l _
  · exact h.setDetector l _

theorem Files.unmute (h : Files s t) (l : LineNo) : Files s (t.unmute l) := h.setDetector l _

theorem Files.enterRingWait (h : Files s t) (l : LineNo) : Files s (t.enterRingWait l) :=
  (h.modCall l _).enterState l _ _

theorem Files.beginSymbols (l : LineNo) (ds : List Nat) :
    ∀ {t : State}, Files s t → Files s (State.beginSymbols l ds t) := by
  induction ds with
  | nil => intro t h; exact (h.unmute l).enterRingWait l
  | cons d ds ih =>
    intro t h; unfold State.beginSymbols
    exact .ite (.ite (ih (((h.unmute l).toneHeard l).modCall l _)) ((h.unmute l).enterState l _ _))
      (.ite ((h.unmute l).enterState l _ _) (((h.setSender l _).enterState l _ _).mute l))

theorem Files.advanceDial (h : Files s t) (l : LineNo) : Files s (t.advanceDial l) := by
  unfold State.advanceDial; split
  · exact Files.beginSymbols l _ (h.modCall l _)
  · exact h

theorem Files.beginDialling (h : Files s t) (l : LineNo) (e : RxNo) : Files s (t.beginDialling l e) :=
  .ite ((h.modCall l _).giveResult l _) (Files.beginSymbols l _ (h.modCall l _))

theorem Files.beginSend (h : Files s t) (l : LineNo) (n : Nat) : Files s (t.beginSend l n) :=
  (((h.setSender l _).modCall l _).enterState l _ _).mute l

theorem Files.nextBlockSymbol (h : Files s t) (l : LineNo) (n : Nat) : Files s (t.nextBlockSymbol l n) := by
  unfold State.nextBlockSymbol; split
  · exact (h.setSender l _).enterState l _ _
  · exact (h.unmute l).enterState l _ _

theorem Files.flagSet (h : Files s t) (l : LineNo) : Files s (t.flagSet l) := by
  unfold State.flagSet; split
  · exact h
  · split
    · exact h.giveResult l _
    · exact h.giveResult l _
    · exact h
    · exact h
    · exact h.giveResult l _

theorem Files.callClass (h : Files s t) (l : LineNo) (x : LoopClass) : Files s (t.callClass l x) := by
  obtain same | ended := t.callClass_cases l x
  · rw [same]; exact h
  · rw [ended]; exact h.giveResult l _

theorem Files.callPolarity (h : Files s t) (l : LineNo) : Files s (t.callPolarity l) := by
  unfold State.callPolarity; split
  · exact h
  · exact .ite (h.enterState l _ _) h

theorem Files.prepareChange (h : Files s t) (l : LineNo) : Files s (t.prepareChange l) := by
  obtain same | dropped := t.prepareChange_cases l
  · rw [same]; exact h
  · rw [dropped]; exact h.dropCall l

theorem Files.classReport (h : Files s t) (l : LineNo) (r : ClassReport) : Files s (t.classReport l r) := by
  have told := (h.setClassOcc l (classOccAfter (t.ctl l).classOcc r)).lineDownReports l r
  exact Files.callClass (.ite told (told.prepareChange l)) l r.new

theorem Files.ringOffReport (h : Files s t) (l : LineNo) (x : LoopClass) : Files s (t.ringOffReport l x) :=
  .ite ((h.setClassOcc l _).prepareChange l) h

theorem Files.dialToneRecognised (h : Files s t) (l : LineNo) (c : Call) : Files s (t.dialToneRecognised l c) := by
  unfold State.dialToneRecognised; dsimp only
  have heard := fun f => (h.toneHeard l).modCall l f
  split
  · exact (heard _).giveResult l _
  · exact (heard _).beginDialling l _
  · exact heard _

theorem Files.limitReached (h : Files s t) (l : LineNo) (c : Call) : Files s (t.limitReached l c) := by
  unfold State.limitReached; split
  · exact (h.modCall l _).flagSet l
  · exact h.giveResult l _

theorem Files.firstClaim (h : Files s t) (l : LineNo) (c : Call) : Files s (t.firstClaim l c) := by
  unfold State.firstClaim; split
  · exact h
  · have claimed := fun e => h.claimSending l e 4
    exact .ite ((claimed _).giveResult l _) (((claimed _).claimNext l _ 4).beginSend l 1)

theorem Files.replyExpired (h : Files s t) (l : LineNo) (c : Call) : Files s (t.replyExpired l c) := by
  unfold State.replyExpired; dsimp only; split
  · exact .ite (h.setCall l _) ((h.setCall l _).sendFailed l _)
  · exact (h.setCall l _).sendFailed l _

theorem Files.gapOver (h : Files s t) (l : LineNo) (c : Call) : Files s (t.gapOver l c) := by
  unfold State.gapOver; split
  · exact h
  · exact .ite (h.giveResult l _) ((h.moveNext_claimNext l _ 4).beginSend l 1)

theorem Files.loopSample (h : Files s t) (l : LineNo) (volts : Int) : Files s (t.loopSample l volts) := by
  unfold State.loopSample; dsimp only
  split <;> split
  · exact ((h.setSense l _).classReport l _).callPolarity l
  · exact (h.setSense l _).callPolarity l
  · exact (h.setSense l _).classReport l _
  · exact h.setSense l _

theorem Files.followingOnset (h : Files s t) (l : LineNo) (r : Option ToneReport) : Files s (t.followingOnset l r) := by
  unfold State.followingOnset; split
  · exact .ite (h.toneReport l _) h
  · exact h

theorem Files.enterReserve (h : Files s t) : Files s t.enterReserve := by
  unfold State.enterReserve
  have stepped := Files.foldl allLines (h.same (u := t.setSupply .reserve) rfl) fun _ l => Files.refl.reserveLine l
  exact (stepped.startNext.report rfl).faultActive _ _

theorem Files.returnToNormal (h : Files s t) : Files s t.returnToNormal := by
  unfold State.returnToNormal
  have waiting : Files s ((t.setSupply .normal).setWaitList []) := h.same rfl
  exact ((waiting.foldl allLines fun _ l => Files.refl.normalLine l).report rfl).faultCleared _ _

theorem Files.promoted (h : Files s t) (l : LineNo) : Files s (t.promoted l) := by
  have ready := h.setCtl l { t.ctl l with power := .ready, promotion := .none }
  exact (Files.ite (ready.takeLine l) ready).tell

theorem Files.startProbe (h : Files s t) (l : LineNo) : Files s (t.startProbe l) := by
  unfold State.startProbe
  exact ((h.setCtl l _).recompute l).startCall l _

end calls

/-! ### Dispatcher, gate and exit from SERVICE -/

section acts
variable {s t : State}

theorem Files.openGate (h : Files s t) : Files s t.openGate := by
  unfold State.openGate
  exact Files.tell (.ite (h.setDispatcher _) ((h.setDispatcher _).setQueue_timer _ _))

theorem Files.settleGate (h : Files s t) : Files s t.settleGate := .ite h (.ite h.openGate (h.setDispatcher _))

theorem Files.serviceExit (h : Files s t) (c : ModeCause) : Files s (t.serviceExit c) := by
  unfold State.serviceExit
  exact ((h.setMode _).notice _).evaluateRoutes.rebuild.reexamine.releaseAll.settleGate

theorem Files.settleExit (h : Files s t) : Files s t.settleExit :=
  .ite ((h.setWork _).serviceExit _) (h.setWork _)

/-- The end of a command's work. -/
theorem Files.settle (h : Files s t) : Files s t.settle := by
  have acted := h.settleExit.drain.steady (State.actFuel_steady 64 t.settleExit.drain)
  exact acted.setWork _

end acts

/-! ### Start hold, age and save -/

section others
variable {s t : State}

theorem Files.ageRecord (h : Files s t) (r : Record) : Files s (t.ageRecord r) := by
  have aged : ∀ n : Record → Nat, Files s (t.modRecord r.ticket fun x => { x with age := n x }) := fun n =>
    h.roster (State.modRecord_roster _ _ _ fun _ => rfl) fun b => b.modRecord _ _ fun _ => ⟨rfl, rfl⟩
  exact .ite (aged _).tell (aged _)

theorem Files.releaseHold (h : Files s t) (c : ModeCause) : Files s (t.releaseHold c) :=
  (((h.setHold _).setHoldTimer _).notice _).settleGate

theorem Files.removeStoreCorrupt (h : Files s t) : Files s t.removeStoreCorrupt := by
  unfold State.removeStoreCorrupt; split
  · exact (h.setFaults _).notice _
  · exact h

theorem Files.saveDone (h : Files s t) (m : Mode) : Files s (t.saveDone m) := by
  have cleared : Files s (allTables.foldl (fun s k => s.faultCleared .storeSection k) (t.setSave none)) :=
    (h.setSave none).foldl _ fun _ k => Files.refl.faultCleared _ k
  exact .ite (.ite cleared.removeStoreCorrupt.startHoldLimit cleared.removeStoreCorrupt) cleared

theorem Files.saveFailed (h : Files s t) : Files s t.saveFailed := ((h.setSave none).setHoldTimer none).faultActive _ _

theorem Files.pageWritten (h : Files s t) (w : Save) (differ : List Byte) : Files s (t.pageWritten w differ) := by
  have stored : Files s (t.pageStored w differ) := h.same rfl
  exact .ite (.ite (stored.setSave _) (stored.saveDone _)) stored.saveFailed

end others

/-! ### Requests -/

section requests
variable (p : List Byte) (u : State)

theorem Files.statusRequest : Files u u.statusRequest.1 := Files.refl.setLink _

theorem Files.queueListRequest : Files u (u.queueListRequest p).1 := by
  unfold State.queueListRequest; split <;> exact .refl

theorem Files.faultClearRequest : Files u u.faultClearRequest.1 := Files.refl.setFaults _

/-- The host names no part source, so a raised report is not the LOSS report's namesake (R77). -/
theorem raisedReport_other {rep : Report} (h : raisedReport p = some rep) : sameIdentity rep lossReport = false := by
  unfold raisedReport at h; dsimp only at h; split at h
  · split at h
    · cases h; simp [sameIdentity, lossReport]
    · cases h
  · cases h

theorem Files.raiseRequest : Files u (u.raiseRequest p).1 := by
  unfold State.raiseRequest; split
  · next rep raised => exact Files.refl.admission (raisedReport_other p raised)
  · exact .refl

theorem Files.withdrawRecord {s t : State} (h : Files s t) {r : Record} (held : r.entry ∈ t.roster.held) :
    Files s (t.withdrawRecord r) := by
  have refilled : ∀ (v : State) (l : LineNo), Files v (v.refillNext l) := fun v l => by
    unfold State.refillNext; split
    · split
      · exact .ite (Files.refl.setSlots l _ _) (Files.refl.claimNext l _ _)
      · exact .refl
    · exact .refl
  unfold State.withdrawRecord; split
  · exact (Files.removeRecord (h.setSlots _ _ _) held).trans (refilled _ _)
  · exact h.removeRecord held

theorem Files.withdrawRequest : Files u (u.withdrawRequest p).1 := by
  unfold State.withdrawRequest; split
  · exact .refl
  · split
    · exact .refl
    · next r found =>
      split
      · exact .refl
      · split
        · exact .refl
        · exact Files.refl.withdrawRecord (State.entry_of_find found)

theorem Files.testCallRequest : Files u (u.testCallRequest p).1 := by
  unfold State.testCallRequest; split
  · exact .refl
  · exact Files.refl.admission rfl

theorem Files.lendRequest : Files u (u.lendRequest p).1 := by
  unfold State.lendRequest; split
  · exact .refl
  · split
    · unfold State.lendLine; split
      · exact (((Files.refl.setCtl _ _).modCall _ _).flagSet _).tell
      · exact .refl
      · exact .refl
      · exact Files.refl.beginLend _
    · exact .refl

theorem Files.reclaimRequest : Files u (u.reclaimRequest p).1 := by
  unfold State.reclaimRequest; split
  · exact .refl
  · split
    · split
      · exact .refl
      · exact Files.refl.endLend _
      · exact ((Files.refl.setCtl _ _).modCall _ _).tell
    · exact .refl

theorem Files.abortRequest : Files u (u.abortRequest p).1 := by
  unfold State.abortRequest; split
  · exact .refl
  · split
    · exact .refl
    · split
      · exact .refl
      · split
        · exact .refl
        · exact Files.refl.giveResult _ _

theorem Files.forceRequest : Files u (u.forceRequest p).1 := by
  unfold State.forceRequest; split
  · exact .refl
  · split
    · exact .refl
    · split
      · exact .refl
      · refine Files.refl.foldl _ fun v x => ?_
        split
        · exact Files.refl.setForce _ _
        · exact .refl

theorem Files.forceCancelRequest : Files u u.forceCancelRequest.1 := by
  unfold State.forceCancelRequest; dsimp only
  exact Files.refl.foldl allChannels fun v c => (Files.refl.setForce c .none).settleExit

theorem Files.channelRequest {act : ChannelNo → State → State × Answer} (work : ∀ c u, Files u (act c u).1) :
    Files u (u.channelRequest p act).1 := by
  unfold State.channelRequest; split
  · exact .refl
  · exact work _ u

theorem Files.startSave : Files u u.startSave.1 := by
  unfold State.startSave; split
  · exact .refl
  · exact Files.refl.setSave _

theorem Files.enterService : Files u u.enterService := by
  unfold State.enterService
  exact ((Files.refl.setMode _).notice _).settleGate

theorem Files.modeRequest : Files u (u.modeRequest p).1 := by
  have operate : Files u (u.serviceExit .request) := Files.refl.serviceExit .request
  have service : Files u u.enterService := Files.enterService u
  unfold State.modeRequest
  cases Mode.ofCode (argument p 0) with
  | none => exact .refl
  | some m =>
    dsimp only; split
    · exact .refl
    · cases m with
      | operate => simpa only using operate
      | service =>
        dsimp only; split
        · exact .refl
        · exact service

theorem Files.releaseRequest : Files u u.releaseRequest.1 := by
  unfold State.releaseRequest; split
  · exact .refl
  · split
    · exact .refl
    · exact Files.refl.releaseHold _

end requests

end Sys2Proof.Machine
end

section
/-! The commands that write the tables, every command in turn, and what each step keeps of the queue (O9, O10). -/

namespace Sys2Proof.Machine

/-! ### Tables written (R165, R167, R170) -/

section tables
variable {s t : State}

theorem clamp_bounds {lo hi : Nat} (h : lo ≤ hi) (n : Nat) : lo ≤ clamp lo hi n ∧ clamp lo hi n ≤ hi := by
  unfold clamp; split
  · omega
  · split <;> omega

/-- The low mark is clamped below the high mark (R165). -/
theorem T1.clamped_marks (e : T1) : e.clamped.lowMark < e.clamped.highMark := by
  have high := clamp_bounds (show 4 ≤ 32 by decide) e.highMark
  have low := clamp_bounds (Nat.zero_le (clamp 4 32 e.highMark - 1)) e.lowMark
  unfold T1.clamped; dsimp only
  omega

theorem T1.decode_marks {image : List Byte} {e : T1} {f : Bool} (h : T1.decode image = some (e, f)) :
    e.lowMark < e.highMark := by
  unfold T1.decode at h; split at h
  · split at h
    · cases h
    · simp only [Option.some.injEq, Prod.mk.injEq] at h
      obtain ⟨rfl, -⟩ := h
      exact T1.clamped_marks _
  · cases h

/-- One entry written: the marks of T1 stay in order, and of another table T1 stays. -/
theorem Tables.write_t1 {x y : Tables} {table i : Nat} {image : List Byte} {f : Bool}
    (h : x.write table i image = some (y, f)) :
    (table ≠ 1 → y.t1 = x.t1) ∧ (x.t1.lowMark < x.t1.highMark → y.t1.lowMark < y.t1.highMark) := by
  unfold Tables.write at h; split at h
  · obtain ⟨⟨e, g⟩, decoded, made⟩ := Option.map_eq_some_iff.1 h
    cases made
    exact ⟨fun other => absurd rfl other, fun _ => T1.decode_marks decoded⟩
  case _ | _ | _ | _ | _ =>
    obtain ⟨_, _, made⟩ := Option.map_eq_some_iff.1 h
    cases made
    exact ⟨fun _ => rfl, id⟩
  case _ => cases h

theorem Tables.writeAll_t1 {table : Nat} {skip : Nat → Bool} {i : Nat} {images : List (List Byte)} {x y : Tables}
    {f : Bool} (h : Tables.writeAll table skip i images x = some (y, f)) :
    (table ≠ 1 → y.t1 = x.t1) ∧ (x.t1.lowMark < x.t1.highMark → y.t1.lowMark < y.t1.highMark) := by
  induction images generalizing i x y f with
  | nil => cases h; exact ⟨fun _ => rfl, id⟩
  | cons image rest ih =>
    unfold Tables.writeAll at h; split at h
    · cases h
    · next t1 g wrote =>
      obtain ⟨⟨z, b⟩, tail, made⟩ := Option.map_eq_some_iff.1 h
      cases made
      obtain ⟨kept, marks⟩ := ih tail
      split at kept
      · next skipped => rw [if_pos skipped] at marks; exact ⟨kept, marks⟩
      · next taken =>
        obtain ⟨same, ordered⟩ := Tables.write_t1 wrote
        rw [if_neg taken] at marks
        exact ⟨fun other => (kept other).trans (same other), marks ∘ ordered⟩

/-- New tables that leave T1. -/
theorem Files.setTables (h : Files s t) {x : Tables} (e : x.t1 = t.t1) : Files s (t.setTables x) :=
  h.same (Prod.ext rfl e)

/-- A SET of T1: the pressure is settled against changed marks (R73). -/
theorem Files.afterT1 {x : Tables} (ordered : s.Marked → (s.setTables x).Marked) :
    Files s ((s.setTables x).afterT1 s.t1) := by
  unfold State.afterT1
  extract_lets _ before changed told marks _ tests grace
  have queue : told.queue = s.queue := by dsimp only [told]; split <;> rfl
  have t1 : told.t1 = x.t1 := by dsimp only [told]; split <;> rfl
  have marked : s.Marked → told.Marked := fun m => (ordered m).of_t1 t1
  have roster : marks.roster = s.roster := by
    dsimp only [marks]; split
    · exact told.settlePressure_roster.trans (roster_of_queue queue)
    · exact roster_of_queue queue
  have settled : Files s marks := by
    refine Files.refl.roster roster fun b => ?_
    dsimp only [marks]; split
    · exact (marked b.1).settlePressure
    · next same =>
      have high : told.t1.highMark = s.t1.highMark := t1 ▸ not_not.1 fun n => same (.inl n)
      have low : told.t1.lowMark = s.t1.lowMark := t1 ▸ not_not.1 fun n => same (.inr n)
      refine ⟨marked b.1, ?_⟩
      have kept := b.2
      rw [pressureKept_iff] at kept ⊢
      rwa [queue, high, low]
  have tests_files : Files s tests := .ite (settled.setQueue_timer _ _) settled
  have grace_files : Files s grace := .ite tests_files.settleFireTimer tests_files
  exact .ite grace_files.startHoldLimit grace_files

theorem Files.afterT2 (h : Files s t) (old : Tables) : Files s (t.afterT2 old) :=
  h.foldl allLines fun _ l => .ite (Files.refl.enabledChanged l _) .refl

theorem Files.afterT3 (h : Files s t) (old : Tables) : Files s (t.afterT3 old) :=
  Files.evaluateRoutes (h.foldl allReceivers fun _ e => .ite (Files.refl.setRx e _) .refl)

/-- A SET of another table. -/
theorem Files.afterSet (h : Files s t) {table : Nat} (other : table ≠ 1) (old : Tables) :
    Files s (t.afterSet table old) := by
  unfold State.afterSet; split
  · exact absurd rfl other
  · exact h.afterT2 _
  · exact h.afterT3 _
  · exact h.evaluateRoutes
  · exact h.reportRoutes
  · exact h

theorem Files.writeTables (table first count : Nat) (bs : List Byte) (u : State) :
    Files u (u.writeTables table first count bs).1 := by
  unfold State.writeTables; split
  · exact .refl
  · split
    · exact .refl
    · split
      · exact .refl
      · dsimp only; split
        · exact .refl
        · next new clamped wrote =>
          obtain ⟨same, ordered⟩ := Tables.writeAll_t1 wrote
          split
          · exact .refl
          · by_cases one : table = 1
            · subst one; exact Files.afterT1 ordered
            · exact (Files.refl.setTables (same one)).afterSet one _

/-! ### The load (R170) -/

theorem State.loadTable_queue (k : Nat) : (s.loadTable k).queue = s.queue := by
  unfold State.loadTable; split
  · rfl
  · unfold State.faultActive; split
    · simp
    · split <;> simp

theorem loadSection_marks {m : List Host.Cell} {k : Nat} {x y : Tables} (h : loadSection m k x = some y)
    (marks : x.t1.lowMark < x.t1.highMark) : y.t1.lowMark < y.t1.highMark := by
  unfold loadSection at h; dsimp only at h
  split at h
  · cases h; exact marks
  · split at h
    · cases h
    · split at h
      · cases h
      · obtain ⟨⟨z, f⟩, wrote, made⟩ := Option.map_eq_some_iff.1 h
        cases made
        exact (Tables.writeAll_t1 wrote).2 marks

theorem State.Marked.loadTable (h : s.Marked) (k : Nat) : (s.loadTable k).Marked := by
  unfold State.loadTable; split
  · next loaded => exact loadSection_marks loaded h
  · exact h.of_calm (by simp)

/-- The load takes tables from the store and leaves the queue, and the marks stay in order. -/
theorem State.loadTables_queue_marked (s : State) :
    s.loadTables.queue = s.queue ∧ (s.Marked → s.loadTables.Marked) := by
  have loaded : ∀ ks : List Nat, ∀ u : State, (ks.foldl State.loadTable u).queue = u.queue ∧
      (u.Marked → (ks.foldl State.loadTable u).Marked) := by
    intro ks
    induction ks with
    | nil => exact fun _ => ⟨rfl, id⟩
    | cons k ks ih =>
      intro u
      obtain ⟨queue, marked⟩ := ih (u.loadTable k)
      exact ⟨queue.trans (u.loadTable_queue k), fun m => marked (m.loadTable k)⟩
  unfold State.loadTables; split
  · refine ⟨?_, fun m => m.of_calm (by simp)⟩
    unfold State.faultActive; split
    · simp
    · split <;> simp
  · exact loaded allTables s

/-- From the loaded tables on start-up keeps what the queue keeps (R174). -/
theorem finishLoad_files (s : State) : Files s.loadTables s.finishLoad := by
  unfold State.finishLoad
  extract_lets evaluated supplied started powered
  have occupied : Files s.loadTables s.loadTables.settleOccupancies :=
    Files.refl.foldl allLines fun _ l => Files.refl.setCtl l _
  have evaluated_files : Files s.loadTables evaluated := (occupied.setHold _).evaluateRoutes
  have supplied_files : Files s.loadTables supplied := .ite (evaluated_files.faultActive _ _) evaluated_files
  have started_files : Files s.loadTables started := ((supplied_files.setLink _).notice _).settleGate
  have powered_files : Files s.loadTables powered :=
    (started_files.setLoading false).foldl allLines fun _ l => .ite (Files.refl.lineOn l) .refl
  exact .ite (powered_files.report rfl) powered_files

end tables

/-! ### Every command -/

/-- The command completes, and from `u` on what the queue keeps is kept. -/
def Filing (u : State) (o : Host.Outcome State Fault Refusal) : Prop := ∃ t, o = .next t ∧ Files u t

section commands
variable (s : State) (n : Nat)

theorem Files.advance {s t : State} (h : Files s t) : Files s (t.advance n) := h.same rfl

theorem serve_filing {kind : Byte} {ok : Bool} {bad p : List Byte} {owner : State → State × Answer}
    (work : ∀ u, Files u (owner u).1) : Filing s (.next ((s.advance n).serve kind p ok bad owner)) := by
  have advanced : Files s (s.advance n) := Files.refl.advance n
  refine ⟨_, rfl, .ite (.ite ?_ (advanced.respond _ _)) advanced⟩
  exact Files.respond (Files.settle (advanced.trans (work _))) _ _

theorem supplyChange_filing : Filing s (execSupplyChange n s) := by
  have advanced : Files s (s.advance n) := Files.refl.advance n
  unfold execSupplyChange; dsimp only; split
  · cases (s.advance n).supply with
    | normal => exact ⟨_, rfl, advanced.enterReserve.settle⟩
    | reserve => exact ⟨_, rfl, advanced.returnToNormal.settle⟩
  · exact ⟨_, rfl, advanced⟩

theorem savePageWritten_filing (differ : List Byte) : Filing s (execSavePageWritten n differ s) := by
  have advanced : Files s (s.advance n) := Files.refl.advance n
  unfold execSavePageWritten; dsimp only; split
  · split
    · exact ⟨_, rfl, (advanced.pageWritten _ _).settle⟩
    · exact ⟨_, rfl, advanced⟩
  · exact ⟨_, rfl, advanced⟩

/-- Every command but RESET and LOADER_DONE. -/
theorem exec_filing (c : Instr) (reset : ∀ a b k, c ≠ .reset a b k) (load : ∀ n, c ≠ .loaderDone n) :
    Filing s (exec c s) := by
  have adv : ∀ n, Files s (s.advance n) := fun n => Files.refl.advance n
  cases c with
  | reset a b k => exact absurd rfl (reset a b k)
  | loaderDone n => exact absurd rfl (load n)
  | loopSample n l v => exact ⟨_, rfl, .ite (adv n) ((adv n).loopSample l v).settle⟩
  | ringOffTimerExpiry n l => exact ⟨_, rfl, .ite (((adv n).setSense l _).ringOffReport l _).settle (adv n)⟩
  | toneQualified n l =>
    refine ⟨_, rfl, ?_⟩; split
    · exact (((adv n).setDetector l _).toneReport l _).settle
    · exact adv n
  | toneEnded n l =>
    refine ⟨_, rfl, ?_⟩; split
    · exact ((((adv n).setDetector l _).toneReport l _).followingOnset l _).settle
    · exact adv n
  | mainsFailInput n f => exact ⟨_, rfl, .ite (adv n) ((adv n).same rfl)⟩
  | supplyChange n => exact supplyChange_filing s n
  | promotionComplete n l => exact ⟨_, rfl, .ite ((adv n).promoted l).settle (adv n)⟩
  | probeTimerExpiry n l =>
    exact ⟨_, rfl, .ite (Files.ite ((adv n).startProbe l) ((adv n).setCtl l _)).settle (adv n)⟩
  | lendIdleExpiry n l => exact ⟨_, rfl, .ite ((adv n).endLend l).settle (adv n)⟩
  | inputReading n c x => exact ⟨_, rfl, .ite (adv n) ((adv n).inputReading c _).settle⟩
  | ageTick n k =>
    refine ⟨_, rfl, ?_⟩; split
    · exact .ite ((adv n).ageRecord _).settle (adv n)
    · exact adv n
  | periodicTestExpiry n => exact ⟨_, rfl, .ite (((adv n).report rfl).setQueue_timer _ _).settle (adv n)⟩
  | backoffEnd n e => exact ⟨_, rfl, .ite ((adv n).setRx e _).tell.settle (adv n)⟩
  | restEnd n e => exact ⟨_, rfl, .ite ((adv n).setRx e _).reexamine.tell.settle (adv n)⟩
  | fireWaitExpiry n => exact ⟨_, rfl, .ite ((adv n).setWork _).settle (adv n)⟩
  | cleardownEnd n l =>
    refine ⟨_, rfl, ?_⟩; split
    · exact ((adv n).enterDialtone l).settle
    · exact adv n
  | dialToneRecognised n l =>
    refine ⟨_, rfl, ?_⟩; split
    · exact .ite ((adv n).dialToneRecognised l _).settle (adv n)
    · exact adv n
  | dialtoneTimeout n l =>
    refine ⟨_, rfl, ?_⟩; split
    · exact ((adv n).giveResult l _).settle
    · exact adv n
  | dialSymbolToneEnd n l =>
    refine ⟨_, rfl, ?_⟩; split
    · exact .ite (((adv n).setSender l _).enterState l _ _).settle (adv n)
    · exact adv n
  | dialSymbolEnd n l =>
    refine ⟨_, rfl, ?_⟩; split
    · exact .ite ((adv n).advanceDial l).settle (adv n)
    · exact adv n
  | secondToneRecognised n l =>
    refine ⟨_, rfl, ?_⟩; split
    · exact .ite ((((adv n).toneHeard l).modCall l _).advanceDial l).settle (adv n)
    · exact adv n
  | secondToneTimeout n l =>
    refine ⟨_, rfl, ?_⟩; split
    · exact ((adv n).giveResult l _).settle
    · exact adv n
  | ringWaitTimeout n l =>
    refine ⟨_, rfl, ?_⟩; split
    · exact ((adv n).giveResult l _).settle
    · exact adv n
  | handshakeTimeout n l =>
    refine ⟨_, rfl, ?_⟩; split
    · exact ((adv n).giveResult l _).settle
    · exact adv n
  | callLimitExpiry n l =>
    refine ⟨_, rfl, ?_⟩; split
    · exact .ite ((adv n).limitReached l _).settle (adv n)
    · exact adv n
  | releaseGuardEnd n l =>
    refine ⟨_, rfl, ?_⟩; split
    · exact ((adv n).endContext l _ _).settle
    · exact adv n
  | delayEnd n l =>
    refine ⟨_, rfl, ?_⟩; split
    · exact ((adv n).firstClaim l _).settle
    · exact adv n
  | blockSymbolToneEnd n l =>
    refine ⟨_, rfl, ?_⟩; split
    · exact .ite (((adv n).setSender l _).enterState l _ _).settle (adv n)
    · exact adv n
  | blockSymbolEnd n l =>
    refine ⟨_, rfl, ?_⟩; split
    · exact .ite ((adv n).nextBlockSymbol l _).settle (adv n)
    · exact adv n
  | replyTimeout n l =>
    refine ⟨_, rfl, ?_⟩; split
    · exact ((adv n).replyExpired l _).settle
    · exact adv n
  | retryEnd n l =>
    refine ⟨_, rfl, ?_⟩; split
    · exact ((adv n).beginSend l _).settle
    · exact adv n
  | gapEnd n l =>
    refine ⟨_, rfl, ?_⟩; split
    · exact ((adv n).gapOver l _).settle
    · exact adv n
  | frameReceived n b => exact ⟨_, rfl, .ite ((adv n).setLink _) (adv n)⟩
  | interByteTimeout n => exact ⟨_, rfl, .ite ((adv n).setLink _) (adv n)⟩
  | frameSent n b =>
    refine ⟨_, rfl, ?_⟩; split
    · exact adv n
    · exact (adv n).setLink _
    · exact (adv n).setLink _
  | unknownKind n k p => exact ⟨_, rfl, .ite ((adv n).respond _ _) (adv n)⟩
  | echo n p => exact serve_filing s n fun _ => .refl
  | ident n p => exact serve_filing s n fun _ => .refl
  | status n p => exact serve_filing s n Files.statusRequest
  | queueList n p => exact serve_filing s n (Files.queueListRequest p)
  | receiverList n p => exact serve_filing s n fun _ => .refl
  | lineList n p => exact serve_filing s n fun _ => .refl
  | channelList n p => exact serve_filing s n fun _ => .refl
  | faultRead n p => exact serve_filing s n fun _ => .refl
  | faultClear n p => exact serve_filing s n Files.faultClearRequest
  | raise n p => exact serve_filing s n (Files.raiseRequest p)
  | withdraw n p => exact serve_filing s n (Files.withdrawRequest p)
  | testCall n p => exact serve_filing s n (Files.testCallRequest p)
  | lend n p => exact serve_filing s n (Files.lendRequest p)
  | reclaim n p => exact serve_filing s n (Files.reclaimRequest p)
  | force n p => exact serve_filing s n (Files.forceRequest p)
  | forceCancelAll n p => exact serve_filing s n Files.forceCancelRequest
  | isolate n p =>
    exact serve_filing s n fun u => Files.channelRequest p u fun c v => by
      split
      · exact .refl
      · exact Files.refl.isolateChannel c
  | deIsolate n p =>
    exact serve_filing s n fun u => Files.channelRequest p u fun c v => by
      split
      · exact Files.refl.deIsolateChannel c
      · exact .refl
  | unlatch n p =>
    exact serve_filing s n fun u => Files.channelRequest p u fun c v => by
      split
      · exact .refl
      · split
        · exact .refl
        · exact Files.refl.unlatchChannel c
  | abortCall n p => exact serve_filing s n (Files.abortRequest p)
  | get n p => exact serve_filing s n fun _ => .refl
  | set n p => exact serve_filing s n fun u => Files.writeTables _ _ _ _ u
  | save n p => exact serve_filing s n Files.startSave
  | savePageWritten n d => exact savePageWritten_filing s n d
  | mode n p => exact serve_filing s n (Files.modeRequest p)
  | release n p => exact serve_filing s n Files.releaseRequest
  | holdLimitExpiry n => exact ⟨_, rfl, .ite ((adv n).releaseHold _).settle (adv n)⟩
  | incomingByte n b => exact ⟨_, rfl, (adv n).setLink _⟩
  | toneAppears n l b => exact ⟨_, rfl, .ite (adv n) ((adv n).setLine l _)⟩
  | toneStops n l b => exact ⟨_, rfl, .ite ((adv n).setLine l _) (adv n)⟩
  | countingSegmentOverrun n l =>
    refine ⟨_, rfl, ?_⟩; split
    · split
      · exact .ite ((adv n).sendFailed l _).settle (adv n)
      · exact adv n
    · exact adv n

theorem exec_loaderDone (s : State) (n : Nat) :
    exec (.loaderDone n) s = .next (if s.loading then (s.advance n).finishLoad.settle else s.advance n) := rfl

/-- The load and start-up keep capacity, tickets and LOSS record, and the count where it stands as the marks after the load ask. -/
theorem Files.finishLoad (s : State) :
    (s.QueueKept → s.finishLoad.settle.QueueKept) ∧
      (s.QueueKept → s.LossKept → s.finishLoad.settle.LossKept) ∧
      (s.loadTables.Balanced → s.finishLoad.settle.Balanced) := by
  have roster := roster_of_queue s.loadTables_queue_marked.1
  obtain ⟨queue, loss, balance⟩ := (finishLoad_files s).settle
  exact ⟨fun k => queue (k.of_roster roster), fun k x => loss (k.of_roster roster) (x.of_roster roster), balance⟩

end commands

/-! ### What every step keeps -/

/-- A step does nothing, resets, loads, or keeps what the queue keeps. -/
theorem step_files {s t : State} (h : step s = .next t) :
    t = s ∨ ∃ rest, (∃ a b k, t = State.resetTo a b k { s with pending := rest }) ∨
      (∃ n, exec (.loaderDone n) { s with pending := rest } = .next t) ∨ Files { s with pending := rest } t := by
  unfold step at h; split at h
  · cases h; exact .inl rfl
  · next c rest _ =>
    refine .inr ⟨rest, ?_⟩
    by_cases r : ∃ a b k, c = .reset a b k
    · obtain ⟨a, b, k, rfl⟩ := r
      cases h; exact .inl ⟨a, b, k, rfl⟩
    · by_cases l : ∃ n, c = .loaderDone n
      · obtain ⟨n, rfl⟩ := l
        exact .inr (.inl ⟨n, h⟩)
      · obtain ⟨u, answer, files⟩ := exec_filing { s with pending := rest } c (fun a b k e => r ⟨a, b, k, e⟩)
          fun n e => l ⟨n, e⟩
        cases answer.symm.trans h
        exact .inr (.inr files)

/-- An empty queue is in balance: its count is 0, and the high mark is above the low one. -/
theorem balanced_of_empty {s : State} (marked : s.Marked) (records : s.queue.records = [])
    (deferred : s.queue.deferred = 0) (pressure : s.queue.pressure = false) : s.Balanced := by
  refine ⟨marked, (pressureKept_iff s).2 ⟨?_, ?_, ?_⟩⟩
  · rw [records, deferred]; rfl
  · rw [pressure]; nofun
  · intro _; rw [deferred]; exact Nat.zero_lt_of_lt marked

section reset
variable (fitted free : Nat) (strap mains : Bool) (tone : LineNo → PerBand Bool) (store : List Host.Cell)
  (pending : List Instr)

/-- After a reset the queue is empty, and the marks are the built-in ones. -/
theorem afterReset_filed :
    (State.afterReset fitted strap mains tone store pending free).filed = State.reset.filed := rfl

theorem afterReset_kept : (State.afterReset fitted strap mains tone store pending free).QueueKept ∧
    (State.afterReset fitted strap mains tone store pending free).LossKept :=
  ⟨resetMeetsTheInvariants.2.2.2.2.2.2.1.of_roster rfl, fun _ hr => nomatch hr⟩

theorem afterReset_marked : (State.afterReset fitted strap mains tone store pending free).Marked :=
  show T1.default.lowMark < T1.default.highMark by decide

theorem afterReset_balanced : (State.afterReset fitted strap mains tone store pending free).Balanced :=
  balanced_of_empty (afterReset_marked ..) rfl rfl rfl

end reset

/-- Settles O9: the work of every command keeps the conditions (`exec_filing`), and so does the load. -/
theorem stepKeepsQueue : Obligations.StepKeepsQueue := by
  have loads : ∀ n (s t : State), exec (.loaderDone n) s = .next t →
      (s.QueueKept → t.QueueKept) ∧ (s.QueueKept → s.LossKept → t.LossKept) := by
    intro n s t h
    rw [exec_loaderDone] at h
    injection h with h
    subst h; split
    · obtain ⟨queue, loss, _⟩ := Files.finishLoad (s.advance n)
      exact ⟨queue, loss⟩
    · exact ⟨id, fun _ => id⟩
  constructor
  · intro s t kept h
    obtain rfl | ⟨rest, ⟨a, b, k, rfl⟩ | ⟨n, load⟩ | files⟩ := step_files h
    · exact kept
    · exact (afterReset_kept ..).1
    · exact (loads n _ t load).1 kept
    · exact files.queue kept
  · intro s t kept loss h
    obtain rfl | ⟨rest, ⟨a, b, k, rfl⟩ | ⟨n, load⟩ | files⟩ := step_files h
    · exact loss
    · exact (afterReset_kept ..).2
    · exact (loads n _ t load).2 kept loss
    · exact files.loss kept loss

/-- Settles O10: the work of every command keeps the balance (`exec_filing`), and the load of an empty queue gives it. -/
theorem stepKeepsPressure : Obligations.StepKeepsPressure := by
  constructor
  · intro s t loading ranges kept h
    obtain ⟨⟨_, _, _, _, _, _, marked, _⟩, _⟩ := ranges
    have balanced : s.Balanced := ⟨marked, kept⟩
    obtain rfl | ⟨rest, ⟨a, b, k, rfl⟩ | ⟨n, load⟩ | files⟩ := step_files h
    · exact kept
    · exact (afterReset_balanced ..).2
    · rw [exec_loaderDone, if_neg (by simp [loading])] at load
      cases load; exact kept
    · exact (files.balance balanced).2
  · intro t fitted free strap mains tone store pending u low high h
    have marked := afterReset_marked fitted free strap mains tone store pending
    have loading : (State.afterReset fitted strap mains tone store pending free).loading = true := rfl
    have empty : (State.afterReset fitted strap mains tone store pending free).queue = State.reset.queue := rfl
    generalize State.afterReset fitted strap mains tone store pending free = s at marked loading empty h
    rw [exec_loaderDone, loading] at h
    obtain rfl : (s.advance t).finishLoad.settle = u := Host.Outcome.next.inj h
    obtain ⟨queue, marks⟩ := (s.advance t).loadTables_queue_marked
    have still : (s.advance t).loadTables.queue = State.reset.queue := queue.trans empty
    obtain ⟨_, _, balance⟩ := Files.finishLoad (s.advance t)
    refine (balance (balanced_of_empty (marks marked) ?_ ?_ ?_)).2 <;> rw [still] <;> rfl

end Sys2Proof.Machine
end

section
/-! Requests that admit and remove records: what a command's end leaves of the roster, and the reports, tickets and losses of WITHDRAW, TEST-CALL and RAISE (R60 to R64, R71, R76 to R78). -/

namespace Sys2Proof.Machine

/-! ### The end of a command's work, and the response -/

section settled
variable {s v : State}

/-- The end of a command's work shows in the queue as the Call Controllers leave it: the acts leave the queue. -/
theorem State.settle_queue (exit : s.work.exitDue = false) : s.settle.queue = s.drain.queue := by
  have acted : s.settle.steady = s.settleExit.drain.steady := by rw [State.settle, State.setWork_steady, State.actFuel_steady]
  rw [s.settleExit_idle exit] at acted
  exact congrArg Steady.queue acted

/-- With no exit due the end of a command's work leaves the roster. -/
theorem State.settle_roster (exit : s.work.exitDue = false) : s.settle.roster = s.roster :=
  (roster_of_queue (State.settle_queue exit)).trans s.drain_roster

/-- The response after work that leaves the base. -/
theorem answered_of_base {kind : Byte} {a : Answer} (base : v.base = s.base) :
    Answered s (v.settle.respond kind a) kind a.status.code (a.clamped.toNat + 2 * a.evicted.toNat + 4 * a.coalesced.toNat)
      a.fields :=
  .of_base (congrArg Base.requestsLost (v.settle_base.trans base)) rfl rfl rfl

theorem base_of_calm {t : State} (h : t.calm = s.calm) : t.base = s.base := base_of_still (still_of_calm h)

theorem Rested.exitDue (h : s.Rested) : s.work.exitDue = false := congrArg Work.exitDue h

/-- A roster gives tickets with reports. -/
def Roster.reports (x : Roster) : List (Nat × Report) := x.held.map fun y => (y.1, y.2.1)

theorem State.reports_eq (s : State) : s.reports = s.roster.reports := by
  simp [State.reports, Roster.reports, State.roster, List.map_map, Function.comp_def, Record.entry]

theorem State.reports_without (k : Nat) : (s.without k).reports = s.reports.filter fun x => x.1 != k := by
  simp [State.reports, State.without, List.filter_map, Function.comp_def]

end settled

/-! ### WITHDRAW (R71, R78) -/

section withdraw
variable (t : Nat) {hi lo : Byte} {s : State}

/-- The two bytes of a ticket or a zone. -/
theorem argument16_pair : argument16 [hi, lo] 0 = hi.toNat * 256 + lo.toNat := rfl

theorem exec_withdraw :
    exec (.withdraw t [hi, lo]) s = .next ((s.advance t).serve 0x11 [hi, lo] true [] (State.withdrawRequest [hi, lo])) := rfl

theorem State.withdrawRecord_calm (r : Record) : (s.withdrawRecord r).calm = s.calm := by
  have refilled : ∀ (u : State) (l : LineNo), (u.refillNext l).calm = u.calm := fun u l => by
    unfold State.refillNext; split
    · split
      · split <;> simp
      · rfl
    · rfl
  unfold State.withdrawRecord; split
  · rw [refilled]; simp [State.dropNext]
  · simp

/-- An ordinary record leaves, and the others keep their entries (R71, R139). -/
theorem State.withdrawRecord_roster {r : Record} (ordinary : r.reserved = false) :
    (s.withdrawRecord r).roster = (s.without r.ticket).roster ∧
      (s.withdrawRecord r).work.exitDue = s.work.exitDue := by
  have refilled : ∀ (u : State) (l : LineNo),
      (u.refillNext l).roster = u.roster ∧ (u.refillNext l).work.exitDue = u.work.exitDue := fun u l => by
    unfold State.refillNext; split
    · split
      · split <;> exact ⟨by simp, by simp⟩
      · exact ⟨rfl, rfl⟩
    · exact ⟨rfl, rfl⟩
  unfold State.withdrawRecord; split
  · obtain ⟨roster, exit⟩ := refilled (State.removeRecord (s.dropNext _ r.ticket) r) _
    exact ⟨roster.trans (State.removeRecord_roster_ordinary ordinary), exit.trans (State.removeRecord_exitDue _ _)⟩
  · exact ⟨State.removeRecord_roster_ordinary ordinary, State.removeRecord_exitDue _ _⟩

/-- The checks of WITHDRAW in their order (R78). -/
theorem State.withdrawRequest_none {p : List Byte} (some : argument16 p 0 ≠ 0) (none : s.find (argument16 p 0) = none) :
    s.withdrawRequest p = (s, .plain .notFound) := by
  unfold State.withdrawRequest; rw [if_neg some, none]

theorem State.withdrawRequest_held {p : List Byte} {r : Record} (some : argument16 p 0 ≠ 0)
    (held : s.find (argument16 p 0) = Option.some r) :
    s.withdrawRequest p =
      if r.report.cls = .fire then (s, .plain .guarded)
      else if r.state = .inFlight then (s, .plain .inFlight)
      else (s.withdrawRecord r, .plain .ok) := by
  unfold State.withdrawRequest; rw [if_neg some, held]

/-- Settles O30: the checks answer a state that is as it was, and the removal takes its entry from the roster. -/
theorem withdrawRemovesTheRecord : Obligations.WithdrawRemovesTheRecord := by
  intro t hi lo s rested asked ticket
  have refused : ∀ a, State.withdrawRequest [hi, lo] (s.advance t) = (s.advance t, a) →
      exec (.withdraw t [hi, lo]) s = .next ((s.advance t).answered 0x11 a.status.code
        (a.clamped.toNat + 2 * a.evicted.toNat + 4 * a.coalesced.toNat) a.fields) := fun a answer => by
    rw [exec_withdraw, State.serve_unchanged (s.advance t) asked rested rfl answer]
  refine ⟨fun zero => refused (.plain .range) (if_pos zero),
    fun some none => refused (.plain .notFound) (State.withdrawRequest_none some none), fun r some held => ?_⟩
  have answer := State.withdrawRequest_held (s := s.advance t) (p := [hi, lo]) some held
  refine ⟨fun fire => refused (.plain .guarded) (answer.trans (if_pos fire)), fun other flight =>
    refused (.plain .inFlight) (answer.trans ((if_neg other).trans (if_pos flight))), fun other flight ordinary => ?_⟩
  have work := answer.trans ((if_neg other).trans (if_neg flight))
  refine ⟨_, (exec_withdraw t).trans (congrArg Host.Outcome.next (State.serve_effect (s.advance t) asked rfl work)),
    answered_of_base (s := s.advance t) (base_of_calm (State.withdrawRecord_calm r)), ?_⟩
  obtain ⟨roster, exit⟩ := State.withdrawRecord_roster (s := s.advance t) ordinary
  have number : r.ticket = ticket := by simpa using List.find?_some held
  have settled := State.settle_roster (exit.trans (Rested.exitDue rested))
  rw [State.respond_reports, reports_of_roster (settled.trans roster), State.reports_without, number]
  rfl

end withdraw

end Sys2Proof.Machine
end

section
/-! What stands in the records through claims, returns and the Call Controllers' work: all but their states, and the repeat count of the LOSS record (R64, R67, R68, R138). -/

namespace Sys2Proof.Machine

/-- A record without its state, and without the repeat count of a LOSS record, which held losses join (R64). -/
def Record.dossier (r : Record) : Record :=
  { r with state := .waiting, repeats := if r.reserved then 0 else r.repeats }

/-- The queue of `t` holds the records of `s` in order, each with its dossier, and none has come to be IN-FLIGHT. -/
def Shelved (s t : State) : Prop :=
  ∃ f : Record → Record, t.queue.records = s.queue.records.map f ∧
    ∀ r ∈ s.queue.records, (f r).dossier = r.dossier ∧ (r.state ≠ .inFlight → (f r).state ≠ .inFlight)

/-- Each record has a ticket of its own (R58). -/
def State.Distinct (s : State) : Prop := (s.queue.records.map Record.ticket).Nodup

theorem ticket_of_dossier {x y : Record} (h : x.dossier = y.dossier) : x.ticket = y.ticket :=
  show x.dossier.ticket = y.dossier.ticket by rw [h]

section shelved
variable {s t u : State}

theorem Shelved.refl : Shelved s s := ⟨id, by simp, fun _ _ => ⟨rfl, id⟩⟩

theorem Shelved.trans (h : Shelved s t) (g : Shelved t u) : Shelved s u := by
  obtain ⟨f, hf, kf⟩ := h
  obtain ⟨k, hk, kk⟩ := g
  refine ⟨k ∘ f, by rw [hk, hf, List.map_map], fun r hr => ?_⟩
  obtain ⟨same, landed⟩ := kf r hr
  obtain ⟨same', landed'⟩ := kk (f r) (by rw [hf]; exact List.mem_map_of_mem hr)
  exact ⟨same'.trans same, landed' ∘ landed⟩

theorem Shelved.same (h : Shelved s t) (g : u.queue.records = t.queue.records) : Shelved s u := by
  obtain ⟨f, hf, kf⟩ := h
  exact ⟨f, g.trans hf, kf⟩

theorem Shelved.distinct (h : Shelved s t) (d : s.Distinct) : t.Distinct := by
  obtain ⟨f, hf, kf⟩ := h
  have tickets : t.queue.records.map Record.ticket = s.queue.records.map Record.ticket := by
    rw [hf, List.map_map]
    exact List.map_congr_left fun r hr => ticket_of_dossier (kf r hr).1
  unfold State.Distinct; rw [tickets]; exact d

/-- Of two states of one ticket each record has its counterpart. -/
theorem Shelved.forward (h : Shelved s t) {r : Record} (mem : r ∈ s.queue.records) :
    ∃ y ∈ t.queue.records, y.dossier = r.dossier ∧ (r.state ≠ .inFlight → y.state ≠ .inFlight) := by
  obtain ⟨f, hf, kf⟩ := h
  exact ⟨f r, by rw [hf]; exact List.mem_map_of_mem mem, kf r mem⟩

theorem Shelved.back (h : Shelved s t) {y : Record} (mem : y ∈ t.queue.records) :
    ∃ r ∈ s.queue.records, y.dossier = r.dossier ∧ (r.state ≠ .inFlight → y.state ≠ .inFlight) := by
  obtain ⟨f, hf, kf⟩ := h
  rw [hf] at mem
  obtain ⟨r, hr, rfl⟩ := List.mem_map.1 mem
  exact ⟨r, hr, kf r hr⟩

/-- A record changed keeps its ticket. -/
theorem State.Distinct.modRecord (h : s.Distinct) (k : Nat) {f : Record → Record} (ticket : ∀ x, (f x).ticket = x.ticket) :
    (s.modRecord k f).Distinct := by
  have each : ∀ x : Record, (if x.ticket = k then f x else x).ticket = x.ticket := fun x => by
    split
    · exact ticket x
    · rfl
  unfold State.Distinct State.modRecord at *
  rw [State.setQueue_queue, List.map_map]
  exact (List.map_congr_left fun x _ => each x) ▸ h

theorem Shelved.setStates (h : Shelved s t) (ks : List Nat) {x : RecordState} (landed : x ≠ .inFlight) :
    Shelved s (t.setStates ks x) := by
  refine h.trans ⟨_, rfl, fun r _ => ?_⟩
  split
  · exact ⟨rfl, fun _ => landed⟩
  · exact ⟨rfl, id⟩

theorem Shelved.settlePressure (h : Shelved s t) : Shelved s t.settlePressure := by
  unfold State.settlePressure; dsimp only; split
  · exact h.same rfl
  · exact h.same rfl

theorem Shelved.setSlots (h : Shelved s t) (l : LineNo) (x y : Slot) : Shelved s (t.setSlots l x y) := h.same rfl

theorem Shelved.setWork (h : Shelved s t) (w : Work) : Shelved s (t.setWork w) := h.same rfl

theorem Shelved.tell (h : Shelved s t) : Shelved s t.tell := h.same rfl

theorem Shelved.ite {c : Prop} [Decidable c] (yes : Shelved s t) (no : Shelved s u) : Shelved s (if c then t else u) := by
  split
  · exact yes
  · exact no

theorem Shelved.notice (h : Shelved s t) (n : Notice) : Shelved s (t.notice n) := h.same (by simp)

theorem Shelved.settleComm (h : Shelved s t) : Shelved s t.settleComm := by
  unfold State.settleComm State.faultActive State.faultCleared; split <;> split <;> (try split) <;>
    exact h.same (by simp)

theorem Shelved.claimNext (h : Shelved s t) (l : LineNo) (e : RxNo) (n : Nat) : Shelved s (t.claimNext l e n) := by
  unfold State.claimNext
  exact ((h.setStates _ (x := .staged) (by decide)).settlePressure).same rfl

/-- A record returned keeps its dossier: held losses join a LOSS record alone (R64, R68). -/
theorem Shelved.returnRecord (h : Shelved s t) (d : s.Distinct) (k : Nat) : Shelved s (t.returnRecord k) := by
  have distinct := h.distinct d
  unfold State.returnRecord; split
  · exact h
  · next r found =>
    have number : r.ticket = k := by simpa using List.find?_some found
    have mem := List.mem_of_find?_eq_some found
    split
    · dsimp only
      generalize hx : (if (t.target r).isSome then RecordState.waiting else .stranded) = x
      have landed : x ≠ .inFlight := by rw [← hx]; split <;> decide
      have freed : Shelved s (t.modRecord k fun y => { y with state := x }) := by
        refine h.trans ⟨_, rfl, fun y _ => ?_⟩
        split
        · exact ⟨rfl, fun _ => landed⟩
        · exact ⟨rfl, id⟩
      have joined : Shelved s ((t.modRecord k fun y => { y with state := x }).releaseHeld r) := by
        unfold State.releaseHeld; split
        · next reserved =>
          refine freed.trans ⟨_, rfl, fun y hy => ?_⟩
          split
          · next same =>
            obtain ⟨z, hz, rfl⟩ := List.mem_map.1 hy
            have own : z = r := by
              refine record_eq_of_ticket distinct hz mem ?_
              rw [← same]; split <;> rfl
            subst own
            refine ⟨?_, fun n => n⟩
            rw [if_pos number]
            simp [Record.dossier, reserved]
          · exact ⟨rfl, id⟩
        · exact freed
      split
      · exact ((joined.notice _).settleComm).settlePressure
      · exact Shelved.settlePressure (joined.same rfl)
    · exact h

theorem Shelved.returnAll (h : Shelved s t) (d : s.Distinct) (ks : List Nat) : Shelved s (t.returnAll ks) := by
  induction ks generalizing t with
  | nil => exact h
  | cons k ks ih => exact ih (h.returnRecord d k)

theorem Shelved.recompose (h : Shelved s t) (d : s.Distinct) (l : LineNo) (e : RxNo) (k : Nat) :
    Shelved s (t.recompose l e k) := by
  unfold State.recompose; dsimp only; split
  · exact h.claimNext l e _
  · split
    · split
      · exact ((h.returnRecord d _).setSlots l _ _).claimNext l e 1
      · exact h
    · exact h

theorem Shelved.takeHandOn (h : Shelved s t) (d : s.Distinct) (k : Nat) : Shelved s (t.takeHandOn k) := by
  unfold State.takeHandOn; split
  · exact h
  · split
    · split
      · exact h
      · split
        · exact h
        · exact h.recompose d _ _ k
    · exact h

theorem Shelved.drainFuel (d : s.Distinct) (n : Nat) : ∀ {t : State}, Shelved s t → Shelved s (State.drainFuel n t) := by
  induction n with
  | zero => exact id
  | succ n ih =>
    intro t h; unfold State.drainFuel; split
    · exact h
    · exact ih ((h.setWork _).takeHandOn d _)

theorem Shelved.drain (h : Shelved s t) (d : s.Distinct) : Shelved s t.drain := by
  unfold State.drain; split
  · exact h
  · exact h.drainFuel d 128

theorem Shelved.settle (h : Shelved s t) (d : s.Distinct) (exit : t.work.exitDue = false) : Shelved s t.settle :=
  (h.drain d).same (congrArg Queue.records (State.settle_queue exit))

theorem Shelved.handOn (h : Shelved s t) (d : s.Distinct) (k : Nat) : Shelved s (t.handOn k) :=
  Shelved.drain (t := t.noteWaiting k) (h.same rfl) d

theorem Shelved.fireEntry (h : Shelved s t) : Shelved s t.fireEntry := by
  unfold State.fireEntry State.startHoldLimit
  split <;> split <;> exact h.same rfl

end shelved

end Sys2Proof.Machine
end

section
/-! RAISE and TEST-CALL: a report admitted, coalesced, or lost in a full queue, and the eviction by a better rank (R58 to R64, R76, R77). -/

namespace Sys2Proof.Machine

/-! ### A report that forces no exit -/

section exit
variable {s : State}

/-- In OPERATE, or for a report that is not FIRE, no exit from SERVICE is due (R65 step 2, R171). -/
def State.Stays (s : State) (rep : Report) : Prop := rep.cls = .fire → s.mode = .operate

theorem State.fireEntry_exitDue (h : s.mode = .operate) : s.fireEntry.work.exitDue = s.work.exitDue := by
  unfold State.fireEntry State.startHoldLimit
  rw [if_neg (c := s.mode = .service) (by rw [h]; decide)]; split <;> rfl

/-- The entry of a FIRE report, where it is one. -/
theorem State.fireEntry_exitDue_of {c : Prop} [Decidable c] (h : c → s.mode = .operate) :
    (if c then s.fireEntry else s).work.exitDue = s.work.exitDue := by
  split
  · next fire => exact State.fireEntry_exitDue (h fire)
  · rfl

theorem State.tellNeighbours_stays (k : Nat) {c : ReportClass} (h : c = .fire → s.mode = .operate) (x : RecordState) :
    (s.tellNeighbours k c x).work.exitDue = s.work.exitDue := by
  unfold State.tellNeighbours; dsimp only
  rw [State.settlePressure_exitDue]
  have noted : (if x = .stranded then (s.notice (.stranded k)).settleComm else s).mode = s.mode ∧
      (if x = .stranded then (s.notice (.stranded k)).settleComm else s).work.exitDue = s.work.exitDue := by
    split
    · exact ⟨mode_of_still (still_of_calm (by simp)), by simp⟩
    · exact ⟨rfl, rfl⟩
  obtain ⟨mode, exit⟩ := noted
  have entered := (State.fireEntry_exitDue_of fun fire => mode.trans (h fire)).trans exit
  split
  · rw [State.handOn_exitDue]; exact entered
  · exact entered

theorem State.enter_stays {rep : Report} (h : s.Stays rep) (b : Bool) (n : Nat) :
    (s.enter rep b n).work.exitDue = s.work.exitDue := by
  unfold State.enter; dsimp only
  rw [State.tellNeighbours_stays]
  · rfl
  · exact h

end exit

/-! ### Serving RAISE and TEST-CALL -/

section serve
variable (t : Nat) {p : List Byte} {rep : Report} {s : State}

/-- RAISE is its report's admission and the end of its work (R77). -/
theorem exec_raise (len : p.length = 8) (asked : s.Asked 0x10 p) (raised : raisedReport p = some rep) :
    exec (.raise t p) s =
      .next (((s.advance t).admission rep).1.settle.respond 0x10 ((s.advance t).admission rep).2.answer) := by
  have owner : State.raiseRequest p (s.advance t) = (s.advance t).admitAnswer rep := by
    unfold State.raiseRequest; rw [raised]
  exact congrArg Host.Outcome.next (State.serve_effect (s.advance t) asked (beq_iff_eq.2 len) owner)

/-- The report of RAISE, its checks passed (R77). -/
theorem raisedReport_eq (cls : ReportClass.ofRank (p.getD 0 0).toNat = some rep.cls)
    (qualifier : Qualifier.ofCode (p.getD 1 0).toNat = some rep.qualifier) (source : rep.source = .host)
    (number : rep.sourceNumber = (p.getD 2 0).toNat * 256 + (p.getD 3 0).toNat)
    (event : rep.event = (p.getD 4 0).toNat * 256 + (p.getD 5 0).toNat)
    (zone : rep.zone = (p.getD 6 0).toNat * 256 + (p.getD 7 0).toNat)
    (ranges : rep.sourceNumber ≤ 999 ∧ rep.event ≤ 999 ∧ rep.zone ≤ 999 ∧ ¬(901 ≤ rep.event ∧ rep.event ≤ 921)) :
    raisedReport p = some rep := by
  have arguments : argument16 p 2 = rep.sourceNumber ∧ argument16 p 4 = rep.event ∧ argument16 p 6 = rep.zone :=
    ⟨number.symm, event.symm, zone.symm⟩
  obtain ⟨number, event, zone⟩ := arguments
  unfold raisedReport argument
  rw [cls, qualifier, number, event, zone]
  dsimp only
  rw [if_pos ranges, ← source]

/-- The report of a TEST-CALL of a zone (R76). -/
theorem exec_testCall {hi lo : Byte} (asked : s.Asked 0x12 [hi, lo]) (range : hi.toNat * 256 + lo.toNat ≤ 999) :
    exec (.testCall t [hi, lo]) s =
      .next (((s.advance t).admission (testReport 911 (hi.toNat * 256 + lo.toNat))).1.settle.respond 0x12
        ((s.advance t).admission (testReport 911 (hi.toNat * 256 + lo.toNat))).2.answer) := by
  have owner : State.testCallRequest [hi, lo] (s.advance t) =
      (s.advance t).admitAnswer (testReport 911 (hi.toNat * 256 + lo.toNat)) :=
    if_neg (Nat.not_lt.2 range)
  exact congrArg Host.Outcome.next (State.serve_effect (s.advance t) asked rfl owner)

theorem exec_testCall_range {hi lo : Byte} (rested : s.Rested) (asked : s.Asked 0x12 [hi, lo])
    (range : 999 < hi.toNat * 256 + lo.toNat) :
    exec (.testCall t [hi, lo]) s = .next ((s.advance t).answered 0x12 4 0 [0, 0]) := by
  have owner : State.testCallRequest [hi, lo] (s.advance t) = (s.advance t, noTicket .range) := if_pos range
  exact congrArg Host.Outcome.next (State.serve_unchanged (s.advance t) asked rested rfl owner)

theorem answered_admission (kind : Byte) :
    Answered s (((s.advance t).admission rep).1.settle.respond kind ((s.advance t).admission rep).2.answer) kind
      ((s.advance t).admission rep).2.answer.status.code
      (((s.advance t).admission rep).2.answer.clamped.toNat + 2 * ((s.advance t).admission rep).2.answer.evicted.toNat +
        4 * ((s.advance t).admission rep).2.answer.coalesced.toNat)
      ((s.advance t).admission rep).2.answer.fields :=
  answered_of_base (s := s.advance t) (base_of_calm (State.admit_calm _ rep))

end serve

/-! ### A report enters (R58, R60) -/

section enters
variable {s : State} {rep : Report}

/-- The counter's value is given where no record has it. -/
theorem State.ticketToGive_free (free : s.find s.queue.ticketCounter = none) : s.ticketToGive = s.queue.ticketCounter := by
  have none : ¬s.queue.records.any (fun r => r.ticket == s.queue.ticketCounter) = true := by
    simpa [State.find, List.find?_eq_none] using free
  unfold State.ticketToGive freeTicket
  rw [if_neg none]

/-- A new record once the command's work has ended. -/
theorem State.enter_settled (idle : s.work.exitDue = false) (stays : s.Stays rep) :
    (s.enter rep false 0).settle.reports = s.reports ++ [(s.ticketToGive, rep)] ∧
      (s.enter rep false 0).settle.queue.ticketCounter = if s.ticketToGive < 65535 then s.ticketToGive + 1 else 1 := by
  have roster := State.settle_roster ((State.enter_stays (b := false) (n := 0) stays).trans idle)
  refine ⟨(reports_of_roster roster).trans (State.reports_enter s rep false 0), ?_⟩
  have counter := congrArg Roster.ticketCounter (roster.trans (s.enter_roster rep false 0))
  refine counter.trans ?_
  show nextTicket s.ticketToGive = _
  unfold nextTicket
  split <;> split <;> omega

end enters

/-! ### A report joins a record (R61) -/

section joins
variable {s : State} {r : Record} {rep : Report}

theorem State.joinable_eq (host : rep.source = .host) :
    s.joinable rep =
      (inRank s).find? fun x => x.report.qualifier = rep.qualifier ∧ x.report.source = .host ∧
        x.report.sourceNumber = rep.sourceNumber ∧ x.report.event = rep.event ∧ x.report.zone = rep.zone ∧
        (x.state = .waiting ∨ x.state = .stranded) := by
  unfold State.joinable
  rw [State.inOrder_eq]
  congr 1; funext x
  rw [Bool.eq_iff_iff]
  simp [sameIdentity, Record.isFree, host, and_assoc]

/-- One repeat more, at most 255. -/
def repeated (r : Record) : Record := { r with repeats := min 255 (r.repeats + 1) }

theorem State.join_equal (rank : r.report.cls.rank ≤ rep.cls.rank) : s.join r rep = s.modRecord r.ticket repeated := by
  unfold State.join; rw [if_neg (Nat.not_lt.2 rank)]; rfl

/-- A record that a better class takes to its own route (R61). -/
def State.rerouted (s : State) (r : Record) (c : ReportClass) (x : Record) : Record :=
  { repeated x with
    report := { x.report with cls := c }
    route := s.classRoute c
    pendingList := s.buildPending (s.classRoute c) r.acceptedList
    state := if (s.targetOf (s.buildPending (s.classRoute c) r.acceptedList)).isSome then .waiting else .stranded }

theorem State.modRecord_modRecord (k : Nat) (f g : Record → Record) (ticket : ∀ x, (f x).ticket = x.ticket) :
    (s.modRecord k f).modRecord k g = s.modRecord k fun x => g (f x) := by
  have both : ∀ x : Record, (if (if x.ticket = k then f x else x).ticket = k then g (if x.ticket = k then f x else x)
      else (if x.ticket = k then f x else x)) = if x.ticket = k then g (f x) else x := fun x => by
    by_cases same : x.ticket = k
    · simp only [if_pos same, ticket]
    · simp only [if_neg same]
  simp only [State.modRecord, State.setQueue_queue, List.map_map, Function.comp_def, both]
  rfl

/-- A better class: the record changed, and then no record but in its state. -/
theorem State.join_shelved (distinct : s.Distinct) (rank : rep.cls.rank < r.report.cls.rank) :
    Shelved (s.modRecord r.ticket (s.rerouted r rep.cls)) (s.join r rep) := by
  have tickets := distinct.modRecord r.ticket (f := s.rerouted r rep.cls) fun _ => rfl
  unfold State.join
  extract_lets s1 route pendingList st s2 s3 s4 s5
  rw [if_pos rank]
  have changed : s2 = s.modRecord r.ticket (s.rerouted r rep.cls) := State.modRecord_modRecord _ _ _ fun _ => rfl
  rw [← changed] at tickets ⊢
  have noted : Shelved s2 s3 := .ite .refl (Shelved.refl.notice _).settleComm
  have entered : Shelved s2 s4 := .ite noted.fireEntry noted
  exact (Shelved.ite (entered.handOn tickets _) entered).settlePressure.tell

theorem State.join_stays (h : s.Stays rep) (r : Record) : (s.join r rep).work.exitDue = s.work.exitDue := by
  unfold State.join
  extract_lets s1 route pendingList st s2 s3 s4 s5
  split
  · have noted : s3.mode = s.mode ∧ s3.work.exitDue = s.work.exitDue := by
      dsimp only [s3]; split
      · exact ⟨rfl, rfl⟩
      · exact ⟨mode_of_still (still_of_calm (by simp [s2, s1])), by simp [s2, s1]⟩
    obtain ⟨mode, exit⟩ := noted
    have entered : s4.work.exitDue = s.work.exitDue :=
      (State.fireEntry_exitDue_of fun fire => mode.trans (h fire)).trans exit
    have handed : s5.work.exitDue = s.work.exitDue := by
      dsimp only [s5]; split
      · rw [State.handOn_exitDue]; exact entered
      · exact entered
    exact (State.settlePressure_exitDue s5).trans handed
  · rfl

/-- The record that a better class has taken, once the command's work has ended (R61). -/
theorem State.join_settled (idle : s.work.exitDue = false) (stays : s.Stays rep) (distinct : s.Distinct)
    (rank : rep.cls.rank < r.report.cls.rank) (mem : r ∈ s.queue.records) (ordinary : r.reserved = false) :
    (s.join r rep).settle.reports =
        (s.reports.map fun x => if x.1 = r.ticket then (x.1, { x.2 with cls := rep.cls }) else x) ∧
      ∀ x ∈ (s.join r rep).settle.queue.records, x.ticket = r.ticket →
        x.dossier = (s.rerouted r rep.cls r).dossier ∧ x.reserved = false := by
  have exit := (State.join_stays stays r).trans idle
  constructor
  · rw [reports_of_roster (State.settle_roster exit), State.reports_eq, State.join_roster, if_pos rank, State.reports_eq]
    unfold Roster.reports
    rw [List.map_map, List.map_map]
    refine List.map_congr_left fun y _ => ?_
    simp only [Function.comp_apply, reclassed]
    split <;> rfl
  · intro x hx ticket
    have changed := State.join_shelved distinct rank
    have tickets := distinct.modRecord r.ticket (f := s.rerouted r rep.cls) fun _ => rfl
    obtain ⟨y, hy, dossier, _⟩ := (changed.settle tickets exit).back hx
    obtain ⟨z, hz, rfl⟩ := List.mem_map.1 hy
    have number := (ticket_of_dossier dossier).symm.trans ticket
    have own : z.ticket = r.ticket := by rw [← number]; split <;> rfl
    obtain rfl := record_eq_of_ticket distinct hz mem own
    rw [if_pos rfl] at dossier
    exact ⟨dossier, (congrArg Record.reserved dossier).trans ordinary⟩

end joins

/-! ### A loss accounted for (R62 to R64) -/

section losses
variable {s : State} {rep : Report}

theorem State.countLoss_queue (k : Nat) :
    (s.countLoss k rep).queue = { s.queue with lostTally := min 65535 (s.queue.lostTally + 1) } := by
  simp [State.countLoss]

theorem State.countLoss_work (k : Nat) : (s.countLoss k rep).work = s.work := by simp [State.countLoss]

/-- What TEST-CALL finds to evict: nothing, for no class is behind ROUTINE. -/
theorem State.evictable_routine : s.evictable .routine = none := by
  have last : ∀ c : ReportClass, decide (ReportClass.routine.rank < c.rank) = false := fun c => by cases c <;> rfl
  simp [State.evictable, last]

theorem State.admission_lost (join : s.joinable rep = none) (full : s.ordinaryCount = 32)
    (evict : s.evictable rep.cls = none) : s.admission rep = ((s.countLoss 0 rep).accountLoss, .lost) := by
  unfold State.admission
  rw [join, evict]; dsimp only
  rw [if_neg (by omega)]

theorem State.admission_evicting {r : Record} (join : s.joinable rep = none) (full : s.ordinaryCount = 32)
    (evict : s.evictable rep.cls = some r) :
    s.admission rep =
      ((((s.removeRecord r).countLoss r.ticket r.report).enter rep false 0).accountLoss,
        .evicting ((s.removeRecord r).countLoss r.ticket r.report).ticketToGive) := by
  unfold State.admission
  rw [join, evict]; dsimp only
  rw [if_neg (by omega)]

/-- A LOSS record that no call holds takes the loss into its repeat count (R63). -/
theorem State.accountLoss_free {r : Record} (loss : s.lossRecord = some r) (free : r.isFree = true) :
    s.accountLoss = s.modRecord r.ticket repeated := by
  unfold State.accountLoss; rw [loss]; dsimp only; rw [if_pos free]; rfl

/-- A LOSS record in a slot leaves the loss held beside it (R64). -/
theorem State.accountLoss_held {r : Record} (loss : s.lossRecord = some r) (free : r.isFree = false) :
    s.accountLoss = s.setQueue { s.queue with heldLosses := min 255 (s.queue.heldLosses + 1) } := by
  unfold State.accountLoss; rw [loss]; dsimp only; rw [if_neg (by simp [free])]

/-- The first record of the reserved slot, changed. -/
theorem State.modRecord_lossRecord {r : Record} (loss : s.lossRecord = some r) {f : Record → Record}
    (same : ∀ x, (f x).reserved = x.reserved) : (s.modRecord r.ticket f).lossRecord = some (f r) := by
  have kept : ((fun x : Record => x.reserved) ∘ fun x => if x.ticket = r.ticket then f x else x) =
      fun x => x.reserved := by
    funext x; simp only [Function.comp_apply]; split
    · exact same x
    · rfl
  unfold State.lossRecord State.modRecord at *
  rw [State.setQueue_queue, List.find?_map, kept, loss]
  simp

theorem State.lossRecord_none_iff : s.lossRecord = none ↔ ∀ y ∈ s.roster.held, y.2.2 = false := by
  simp [State.lossRecord, State.roster, Record.entry, List.find?_eq_none]

/-- The roster after a loss is accounted for: the reports of the queue, and of a new LOSS record. -/
theorem State.accountLoss_reports :
    s.accountLoss.roster.reports =
        s.roster.reports ++ (if s.lossRecord = none then [(s.ticketToGive, lossReport)] else []) ∧
      s.accountLoss.roster.lostTally = s.roster.lostTally := by
  rw [State.accountLoss_roster]; split
  · next none => rw [State.enter_roster]; exact ⟨by simp [Roster.reports], rfl⟩
  · exact ⟨(List.append_nil _).symm, rfl⟩

end losses

/-! ### The obligations -/

/-- Settles O26: a new record by `State.enter_settled`, a repeat by `State.join_equal`, a better class by `State.join_settled`. -/
theorem raiseEntersTheQueue : Obligations.RaiseEntersTheQueue := by
  intro t p rep s rested len asked cls qualifier host number event zone rn re rz own stays
  have served := exec_raise t len asked (raisedReport_eq cls qualifier host number event zone ⟨rn, re, rz, own⟩)
  have answered := answered_admission t 0x10 (rep := rep) (s := s)
  have idle := Rested.exitDue rested
  refine ⟨fun none room => ?_, fun r found => ?_⟩
  · rw [State.admit_new (s.advance t) rep none room] at served answered
    obtain ⟨reports, counter⟩ := State.enter_settled (s := s.advance t) idle stays
    exact ⟨_, served, reports, State.ticketToGive_free, counter, answered⟩
  · have joins : s.joinable rep = some r := (State.joinable_eq host).trans found
    have joined : (s.advance t).admission rep = ((s.advance t).join r rep, .joined r.ticket) := by
      unfold State.admission; rw [show (s.advance t).joinable rep = some r from joins]
    rw [joined] at served answered
    refine ⟨fun rank => ?_, fun rank kept loss => ?_⟩
    · have same := State.settle_rested ((s.advance t).modRecord r.ticket repeated) rested
      rw [State.join_equal rank, same] at served answered
      exact ⟨_, served, answered, rfl, rfl⟩
    · obtain ⟨_, _, distinct, _⟩ := kept
      obtain ⟨mem, same, _⟩ := mem_of_joinable joins
      have named : r.report.source = .host := by rw [sameIdentity_iff] at same; rw [← host, ← same]
      have ordinary : r.reserved = false := Bool.eq_false_iff.2 fun reserved => by
        rw [(loss r mem).1 reserved] at named; cases named
      obtain ⟨reports, each⟩ := State.join_settled (s := s.advance t) idle stays distinct rank mem ordinary
      refine ⟨_, served, answered, reports, fun x hx ticket => ?_⟩
      obtain ⟨dossier, free⟩ := each x hx ticket
      simp only [Record.dossier, State.rerouted, repeated, free, ordinary, Bool.false_eq_true, if_false,
        Record.mk.injEq] at dossier
      obtain ⟨_, _, route, pending, accepted, _, age, repeats, entered, _⟩ := dossier
      exact ⟨repeats, route, route ▸ pending, accepted, age, entered⟩

/-- Settles O28: a zone out of range, a new record, and a full queue's loss in each state of the LOSS record. -/
theorem testCallEntersOrIsLost : Obligations.TestCallEntersOrIsLost := by
  constructor
  · intro t hi lo s rested asked zone rep
    refine ⟨fun range => exec_testCall_range t rested asked range, fun range none room => ?_⟩
    have served := exec_testCall t asked range
    have answered := answered_admission t 0x12 (rep := rep) (s := s)
    rw [show testReport 911 (hi.toNat * 256 + lo.toNat) = rep from rfl] at served
    rw [State.admit_new (s.advance t) rep none room] at served answered
    exact ⟨_, served, (State.enter_settled (s := s.advance t) (rep := rep) (Rested.exitDue rested) fun fire => nomatch fire).1, answered⟩
  · intro t hi lo s rested asked zone rep loss range none full
    have served := exec_testCall t asked range
    have answered := answered_admission t 0x12 (rep := rep) (s := s)
    rw [show testReport 911 (hi.toNat * 256 + lo.toNat) = rep from rfl] at served
    rw [State.admission_lost (s := s.advance t) none full State.evictable_routine] at served answered
    generalize hv : (s.advance t).countLoss 0 rep = v at served answered
    have queue : v.queue = { s.queue with lostTally := min 65535 (s.queue.lostTally + 1) } :=
      hv ▸ State.countLoss_queue 0
    have work : v.work = Work.idle := hv ▸ (State.countLoss_work 0).trans rested
    have lossRecord : v.lossRecord = s.lossRecord := by unfold State.lossRecord; rw [queue]
    have ticket : v.ticketToGive = s.ticketToGive := by unfold State.ticketToGive; rw [queue]
    have reports : v.reports = s.reports := by unfold State.reports; rw [queue]
    have settled := State.settle_roster (s := v.accountLoss) ((State.accountLoss_exitDue v).trans (congrArg Work.exitDue work))
    obtain ⟨entered, tally⟩ := State.accountLoss_reports (s := v)
    refine ⟨_, served, answered, ?_, fun empty => ?_, fun some => ?_, fun r held state => ?_, fun r held state => ?_⟩
    · exact (congrArg Roster.lostTally settled).trans (tally.trans (congrArg Queue.lostTally queue))
    · rw [State.respond_reports, reports_of_roster settled, State.reports_eq, entered, ← State.reports_eq, reports,
        lossRecord, if_pos empty, ticket]
      rfl
    · rw [State.respond_reports, reports_of_roster settled, State.reports_eq, entered, ← State.reports_eq, reports,
        lossRecord, if_neg some, List.append_nil]
    · have busy : r.isFree = false := by rcases state with e | e <;> simp [Record.isFree, e]
      have same := State.settle_rested (v.setQueue { v.queue with heldLosses := min 255 (v.queue.heldLosses + 1) }) work
      rw [State.respond_steady_queue, State.accountLoss_held (lossRecord.trans held) busy, same, State.setQueue_queue, queue]
    · have free : r.isFree = true := by rcases state with e | e <;> simp [Record.isFree, e]
      have same := State.settle_rested (v.modRecord r.ticket repeated) work
      rw [State.accountLoss_free (lossRecord.trans held) free, same]
      refine ⟨State.modRecord_lossRecord (lossRecord.trans held) (f := repeated) fun _ => rfl, ?_⟩
      rw [State.respond_steady_queue]
      unfold State.modRecord
      rw [State.setQueue_queue, queue]
      rfl

/-- Settles O29: the roster through removal, count, entry and LOSS record. -/
theorem betterRankEvicts : Obligations.BetterRankEvicts := by
  intro t p rep r s rested kept len asked raised supervisory none full last loss
  have evict : (s.advance t).evictable rep.cls = some r := by
    unfold State.evictable; rw [State.inOrder_eq, supervisory]; exact last
  obtain ⟨mem, ordinary, _⟩ := mem_of_evictable evict
  have served := exec_raise t len asked raised
  have answered := answered_admission t 0x10 (rep := rep) (s := s)
  have exit := (State.admit_exitDue (s.advance t) (rep := rep) (by rw [supervisory]; decide)).trans (Rested.exitDue rested)
  rw [State.admission_evicting (s := s.advance t) none full evict] at served answered exit
  generalize hv : ((s.advance t).removeRecord r).countLoss r.ticket r.report = v at served answered exit
  have roster : v.roster = { (s.without r.ticket).roster with lostTally := min 65535 (s.queue.lostTally + 1) } := by
    rw [← hv, State.countLoss_roster, State.removeRecord_roster_ordinary ordinary]
    have tally := congrArg Roster.lostTally (State.removeRecord_roster_ordinary (s := s.advance t) ordinary)
    exact congrArg (fun n => { (s.without r.ticket).roster with lostTally := min 65535 (n + 1) }) tally
  have slot : (v.enter rep false 0).lossRecord = Option.none ↔ s.lossRecord = Option.none := by
    rw [State.lossRecord_none_iff, State.lossRecord_none_iff, State.enter_roster, roster]
    obtain ⟨_, _, distinct, _⟩ := kept
    simp only [State.without_held, List.mem_append, List.mem_filter, List.mem_singleton, bne_iff_ne]
    constructor
    · intro h y hy
      by_cases own : y.1 = r.ticket
      · obtain ⟨x, hx, rfl⟩ := List.mem_map.1 hy
        obtain rfl := record_eq_of_ticket distinct hx mem own
        exact ordinary
      · exact h y (.inl ⟨hy, own⟩)
    · rintro h y (⟨hy, _⟩ | rfl)
      · exact h y hy
      · rfl
  obtain ⟨entered, tally⟩ := State.accountLoss_reports (s := v.enter rep false 0)
  have settled := State.settle_roster exit
  refine ⟨_, v.ticketToGive, (v.enter rep false 0).ticketToGive, served, answered, ?_, ?_⟩
  · refine (congrArg Roster.lostTally settled).trans (tally.trans ?_)
    rw [State.enter_roster, roster]
  · rw [State.respond_reports, reports_of_roster settled, State.reports_eq, entered]
    have first : (v.enter rep false 0).roster.reports =
        (s.reports.filter fun x => x.1 ≠ r.ticket) ++ [(v.ticketToGive, rep)] := by
      rw [← State.reports_eq, State.reports_enter, State.reports_eq, roster]
      exact congrArg (· ++ _) ((State.reports_eq (s.without r.ticket)).symm.trans ((State.reports_without r.ticket).trans
        (List.filter_congr fun x _ => by rw [Bool.eq_iff_iff]; simp)))
    rw [first]
    by_cases empty : s.lossRecord = Option.none
    · rw [if_pos (slot.2 empty), if_pos empty]; rfl
    · rw [if_neg (mt slot.1 empty), if_neg empty]

end Sys2Proof.Machine
end

section
/-! The whole minutes of a record, and the periodic test (R72, R75). -/

namespace Sys2Proof.Machine

section age
variable {s : State} {r : Record}

theorem State.ageRecord_queue_work (idle : s.work = Work.idle) :
    (s.ageRecord r).queue = (s.modRecord r.ticket fun x => { x with age := r.age + 1 }).queue ∧
      (s.ageRecord r).channels = s.channels ∧ (s.ageRecord r).work.exitDue = false ∧ (s.ageRecord r).work.handOns = [] := by
  have idle' : (s.modRecord r.ticket fun x => { x with age := r.age + 1 }).work = Work.idle := idle
  unfold State.ageRecord; dsimp only; split
  · refine ⟨rfl, rfl, ?_, ?_⟩
    · exact congrArg Work.exitDue idle'
    · exact congrArg Work.handOns idle'
  · exact ⟨rfl, rfl, congrArg Work.exitDue idle', congrArg Work.handOns idle'⟩

end age

/-- A test report is none that a channel or the host gives, and no exit is due for it. -/
theorem testReport_calm (event zone : Nat) : (testReport event zone).cls ≠ .fire := nofun

/-- The queue's timer set, nothing of the roster but the timer. -/
theorem State.setTestTimer_reports (s : State) (x : Option Nat) :
    (s.setQueue { s.queue with testTimer := x }).reports = s.reports := rfl

/-- Settles O31: the acts at a command's end leave queue and channels, and the admission of the test leaves the timer. -/
theorem agesAndTestsRecur : Obligations.AgesAndTestsRecur := by
  constructor
  · intro t ticket r s rested held young due
    have number : r.ticket = ticket := by simpa using List.find?_some held
    have answer : exec (.ageTick t ticket) s = .next ((s.advance t).ageRecord r).settle := by
      have found : (s.advance t).find ticket = some r := held
      have minute : r.minuteDue (s.advance t).clock = true :=
        Bool.and_eq_true_iff.2 ⟨decide_eq_true young, decide_eq_true due⟩
      simp [exec, execAgeTick, found, minute]
    obtain ⟨queue, channels, exit, handOns⟩ := State.ageRecord_queue_work (s := s.advance t) (r := r) rested
    have steady := State.settle_steady _ exit handOns
    refine ⟨_, answer, (congrArg Steady.channels steady).trans channels,
      (congrArg Steady.queue steady).trans (queue.trans ?_)⟩
    rw [number]; rfl
  · intro t e s rested timer due rep
    have answer : exec (.periodicTestExpiry t) s =
        .next (((s.advance t).report rep).setQueue
          { ((s.advance t).report rep).queue with testTimer := ((s.advance t).report rep).testExpiry }).settle := by
      have passed : expired s.queue.testTimer (s.advance t).now = true := by rw [timer]; exact decide_eq_true due
      exact congrArg Host.Outcome.next (if_pos passed)
    have base : ((s.advance t).report rep).base = (s.advance t).base := base_of_calm (State.report_calm _ rep)
    have exit := (State.report_exitDue (s.advance t) (rep := rep) (testReport_calm 910 0)).trans (Rested.exitDue rested)
    generalize hv : (s.advance t).report rep = v at answer base exit
    have settled := State.settle_roster (s := v.setQueue { v.queue with testTimer := v.testExpiry }) exit
    refine ⟨_, answer, (congrArg Roster.testTimer settled).trans ?_, fun none room => ?_, fun joins => ?_⟩
    · have now : v.now = max s.now t := congrArg Base.now base
      have t1 : v.t1 = s.t1 := t1_of_base (s := s.advance t) base
      show v.testExpiry = _
      unfold State.testExpiry
      rw [now, t1, Nat.mul_assoc]
    · rw [reports_of_roster settled, State.setTestTimer_reports, ← hv]
      unfold State.report
      rw [State.admit_new (s.advance t) rep none room]
      exact State.reports_enter _ rep false 0
    · obtain ⟨r, found⟩ := Option.ne_none_iff_exists'.1 joins
      have last : ¬rep.cls.rank < r.report.cls.rank := by cases r.report.cls <;> decide
      rw [reports_of_roster settled, State.setTestTimer_reports, ← hv]
      unfold State.report State.admission
      rw [show (s.advance t).joinable rep = some r from found]
      rw [State.reports_eq, State.join_roster, if_neg last, ← State.reports_eq]
      rfl

end Sys2Proof.Machine
end

section
/-! The images of the lists, in the manual's terms and in the model's (section 9.7, R157, R158), and FAULT-CLEAR (R163). -/

namespace Sys2Proof.Machine

/-! ### Codes, places and fields -/

section codes

theorem code_class (c : ReportClass) : code 1 ranked c = u8 c.rank := by cases c <;> rfl
theorem code_source (x : SourceKind) : code 1 [.input, .host, .part] x = u8 x.code := by cases x <;> rfl
theorem code_recordState (x : RecordState) : code 1 [.waiting, .staged, .inFlight, .stranded] x = u8 x.code := by
  cases x <;> rfl
theorem code_rxState (x : RxState) : code 1 [.ready, .calling, .backoff, .exhausted] x = u8 x.code := by cases x <;> rfl
theorem code_routeMode (x : RouteMode) : code 1 [.any, .each] x = u8 x.code := by cases x <;> rfl
theorem code_occupancy (x : Occupancy) :
    code 0 [.offline, .unknown, .free, .tenant, .ringing, .down, .lent, .call] x = u8 x.code := by cases x <;> rfl
theorem code_lineFault (x : LineFault) : code 0 [.none, .noTone] x = u8 x.code := by cases x <;> rfl
theorem code_power (x : Power) : code 0 [.off, .sense, .ready] x = u8 x.code := by cases x <;> rfl
theorem code_lend (x : Lend) : code 0 [.none, .pending, .lent] x = u8 x.code := by cases x <;> rfl
theorem code_loopClass (x : LoopClass) : code 0 [.unknown, .onHook, .offHook, .ring, .dead] x = u8 x.code := by
  cases x <;> rfl
theorem code_polarity (x : Option Polarity) :
    code 0 [none, some .positive, some .negative] x = u8 (polarityCode x) := by
  rcases x with - | x
  · rfl
  · cases x <;> rfl
theorem code_purpose (x : Purpose) : code 1 [.report, .probe] x = u8 x.code := by cases x <;> rfl
theorem code_inputClass (x : InputClass) :
    code 1 [InputClass.normal, .active, .openLoop, .shortLoop] x = u8 x.code := by cases x <;> rfl
theorem code_force (x : Force) : code 0 [.none, .normal, .active] x = u8 x.code := by cases x <;> rfl
theorem qualifierByte_eq (q : Qualifier) : qualifierByte q = u8 q.code := by cases q <;> rfl
theorem callStateByte_eq (x : CallState) : callStateByte x = u8 x.code := by cases x <;> rfl

/-- A list filled up is the list's places. -/
theorem padTo_eq_places (n : Nat) (bs : List Byte) : padTo n 0 bs = places n bs := by
  refine List.ext_getElem ?_ fun i low _ => ?_
  · simp [padTo, places]; omega
  · have bound : i < n := by simp [padTo] at low; omega
    simp only [padTo, places, List.getElem_map, List.getElem_range, List.getElem_append, List.length_take,
      List.getElem_take, List.getElem_replicate]
    split
    · next there => rw [List.getD_eq_getElem _ _ (by omega)]
    · next beyond => rw [List.getD_eq_default _ _ (by omega)]

theorem entriesImage_eq (es : List RxNo) : entriesImage es = [u8 es.length] ++ entries 4 es := by
  unfold entriesImage entries; rw [padTo_eq_places]; rfl

/-- A time that four bytes hold. -/
theorem be32_eq {n : Nat} (h : n < 4294967296) : be32 n = fourBytes n := if_pos h

theorem be32_length (n : Nat) : (be32 n).length = 4 := by unfold be32; split <;> rfl

theorem rxCode_eq (x : Option RxNo) :
    (match x with
      | some e => u8 (num e)
      | none => 0) = rxCode x := by cases x <;> rfl

end codes

/-! ### The images -/

section images
variable (s : State)

theorem State.recordImage_eq {r : Record} (time : r.enteredAt < 4294967296) : s.recordImage r = recordBytes s r := by
  unfold State.recordImage recordBytes
  rw [State.target, State.targetOf_eq, State.eligible_eq, be32_eq time, entriesImage_eq, entriesImage_eq, code_class, code_source,
    code_recordState, qualifierByte_eq]
  simp only [List.append_assoc]
  rfl

theorem State.receiverImage_eq (e : RxNo) : s.receiverImage e = receiverBytes s e := by
  unfold State.receiverImage receiverBytes
  rw [code_rxState]
  have empty : (s.t3 e).dialNumber.isEmpty = decide ((s.t3 e).dialNumber = []) := by
    cases (s.t3 e).dialNumber <;> rfl
  rw [empty]; rfl

theorem State.routeImage_eq (r : RouteNo) : s.routeImage r = routeBytes s r := by
  unfold State.routeImage routeBytes
  rw [entriesImage_eq, code_routeMode]
  simp only [← List.append_assoc]
  rfl

theorem State.channelImage_eq (c : ChannelNo) : s.channelImage c = channelBytes s c := by
  unfold State.channelImage channelBytes
  simp only [code_inputClass, code_force]
  have candidate : u8 (candidateCode (s.channel c).candidate) = match (s.channel c).candidate with
      | some m => u8 m.code
      | none => 0 := by cases (s.channel c).candidate <;> rfl
  have effective : u8 (s.channel c).effective.code = match (s.channel c).force with
      | .none => u8 (s.channel c).confirmed.code
      | .normal => 1
      | .active => 2 := by
    unfold InputChannel.effective
    cases (s.channel c).force <;> rfl
  have wiring : u8 (s.channel c).wiring.code = match (s.channel c).wiring with
      | .none => 0
      | .openLoop => 3
      | .shortLoop => 4 := by cases (s.channel c).wiring <;> rfl
  rw [candidate, effective, wiring]
  rfl

/-- Without a call three bytes are said (log 31). -/
theorem State.callImage_none {l : LineNo} (call : s.call l = none) :
    ∃ seized blocks, seized.length = 4 ∧ s.callImage l = [0, 0, 0] ++ seized ++ [blocks] := by
  unfold State.callImage
  rw [call]
  exact ⟨[Config.absentByte s.now (16 * l.val + 11), Config.absentByte s.now (16 * l.val + 12),
    Config.absentByte s.now (16 * l.val + 13), Config.absentByte s.now (16 * l.val + 14)], _, rfl, rfl⟩

/-- A call's part of the image; only what it has of seized at is said (log 31). -/
theorem State.callImage_some {l : LineNo} {c : Call} (call : s.call l = some c) :
    ∃ seized, seized.length = 4 ∧
      s.callImage l = [u8 c.state.code, u8 c.purpose.code, rxCode c.receiver] ++ seized ++ [u8 c.blocksAccepted] ∧
      ∀ k, c.seizedAt = some k → k < 4294967296 → seized = fourBytes k := by
  unfold State.callImage
  rw [call]; dsimp only
  cases c.seizedAt with
  | none => exact ⟨_, rfl, rfl, nofun⟩
  | some k => exact ⟨be32 k, be32_length k, rfl, fun j same bound => by cases same; exact be32_eq bound⟩

/-- The line's image, whatever the free values (log 19, log 31). -/
theorem State.lineImage_is (l : LineNo) : IsLineBytes s l (s.lineImage l) := by
  unfold IsLineBytes State.lineImage State.isFitted
  by_cases fitted : l.val < s.fitted
  · rw [if_pos fitted, if_pos (decide_eq_true fitted)]
    simp only [code_occupancy, code_lineFault, code_power, code_lend, code_loopClass, code_polarity, code_purpose,
      callStateByte_eq]
    cases call : s.call l with
    | none =>
      obtain ⟨seized, blocks, length, image⟩ := s.callImage_none call
      refine ⟨seized, blocks, length, ?_, fun c same => nomatch same⟩
      rw [image]
      simp only [List.append_assoc]
    | some c =>
      obtain ⟨seized, length, image, time⟩ := s.callImage_some call
      refine ⟨seized, u8 c.blocksAccepted, length, ?_, fun d same => ?_⟩
      · rw [image]
        simp only [List.append_assoc]
        rfl
      · cases same; exact ⟨rfl, time⟩
  · rw [if_neg fitted, if_neg (by simpa using fitted)]

end images

/-! ### The obligation -/

/-- A request that its owner answers with fields of the state as it is. -/
theorem answered_fields {s : State} {kind : Byte} {payload : List Byte} (asked : s.Asked kind payload) (rested : s.Rested)
    {bad fields : List Byte} {owner : State → State × Answer} (answer : owner s = (s, .withFields fields)) :
    s.serve kind payload true bad owner = s.answered kind 0 0 fields := by
  rw [State.serve_unchanged s asked rested rfl answer]; rfl

/-- What FAULT-CLEAR does not keep, it clears (R163). -/
theorem clearable_count (faults : List FaultEntry) :
    faults.countP clearable = faults.length - (faults.filter fun e => e.active || e.kind == .storeCorrupt).length := by
  have stays : ∀ e : FaultEntry, (!clearable e) = (e.active || e.kind == .storeCorrupt) := fun e => by
    unfold clearable; cases e.active <;> simp [bne]
  have split := List.length_eq_countP_add_countP clearable (l := faults)
  simp only [Bool.not_eq_true, Bool.decide_eq_false, stays, ← List.countP_eq_length_filter] at split ⊢
  omega

/-- Settles O51: each list's image is that of section 9.7, entry by entry, and the state is as it was. -/
theorem listsShowTheirImages : Obligations.ListsShowTheirImages := by
  constructor
  · intro t s rested s1
    have idle : s1.Rested := rested
    refine ⟨?_, fun asked => ?_, fun asked => ?_, fun asked => ?_, fun asked => ?_⟩
    · intro b asked some page times
      have there : argument [b] 0 ≠ 0 := fun zero => absurd (BitVec.eq_of_toNat_eq (x := b) (y := 0) zero) some
      have owner : State.queueListRequest [b] s1 = (s1, .withFields (s1.queueListFields b.toNat)) := if_neg there
      refine (congrArg Host.Outcome.next (answered_fields (s := s1) asked idle owner)).trans ?_
      have fields : s1.queueListFields b.toNat =
          [u8 s.queue.records.length, b, u8 page.length] ++ (page.map (recordBytes s)).flatten := by
        unfold State.queueListFields
        dsimp only
        rw [State.inOrder_eq, show u8 b.toNat = b from BitVec.ofNat_toNat .., List.flatMap_def]
        refine congrArg (_ ++ List.flatten ·) (List.map_congr_left fun r hr => ?_)
        exact State.recordImage_eq s1 (times r hr)
      rw [fields]
    · have owner : State.queueListRequest [0] s1 = (s1, .plain .range) := rfl
      exact congrArg Host.Outcome.next (State.serve_unchanged s1 asked idle rfl owner)
    · refine (congrArg Host.Outcome.next (answered_fields (s := s1) asked idle (owner := reading _) rfl)).trans ?_
      have receivers : allReceivers.flatMap s1.receiverImage = ((List.finRange 12).map (receiverBytes s1)).flatten := by
        rw [show allReceivers = List.finRange 12 by decide, List.flatMap_def, funext (State.receiverImage_eq s1)]
      have routes : allRoutes.flatMap s1.routeImage = ((List.finRange 8).map (routeBytes s)).flatten := by
        rw [show allRoutes = List.finRange 8 by decide, List.flatMap_def, funext (State.routeImage_eq s1)]; rfl
      unfold State.receiverListFields
      rw [receivers, routes]
    · refine ⟨s1.lineImage, fun l => State.lineImage_is s1 l, ?_⟩
      refine (congrArg Host.Outcome.next (answered_fields (s := s1) asked idle (owner := reading _) rfl)).trans ?_
      unfold State.lineListFields
      rw [show allLines = List.finRange 4 by decide, List.flatMap_def]
    · refine (congrArg Host.Outcome.next (answered_fields (s := s1) asked idle (owner := reading _) rfl)).trans ?_
      unfold State.channelListFields
      rw [show allChannels = List.finRange 8 by decide, List.flatMap_def, funext (State.channelImage_eq s1)]
      rfl
  · intro t s rested asked stays kept
    have owner : (s.advance t).faultClearRequest =
        ((s.advance t).setFaults kept, .withFields [u8 (s.link.faults.length - kept.length)]) := by
      unfold State.faultClearRequest
      rw [clearable_count]
      have same : (fun e => !clearable e) = stays := funext fun e => by
        show (!clearable e) = (e.active || e.kind == .storeCorrupt)
        unfold clearable; cases e.active <;> simp [bne]
      rw [same]; rfl
    exact congrArg Host.Outcome.next (State.serve_quiet (s.advance t) asked rfl owner rested)

end Sys2Proof.Machine
end

section
/-! Claims in queue order, the slots that they fill, and the first symbol of a send (R67, R68, R136, R137, R140, R145). -/

namespace Sys2Proof.Machine

/-! ### Queue order -/

section order
variable {s t : State}

theorem inRank_map {f : Record → Record} (records : t.queue.records = s.queue.records.map f)
    (cls : ∀ r, (f r).report.cls = r.report.cls) : inRank t = (inRank s).map f := by
  unfold inRank
  rw [records, List.map_flatten, List.map_map]
  refine congrArg List.flatten (List.map_congr_left fun c _ => ?_)
  simp only [Function.comp_apply, List.filter_map, Function.comp_def, cls]

theorem State.Distinct.order_nodup (h : s.Distinct) : ((inRank s).map Record.ticket).Nodup := by
  refine List.Nodup.map_on ?_ ?_
  · intro x hx y hy same
    exact record_eq_of_ticket h ((mem_inRank s x).1 hx) ((mem_inRank s y).1 hy) same
  · unfold inRank
    rw [List.nodup_flatten]
    constructor
    · intro l hl
      obtain ⟨c, -, rfl⟩ := List.mem_map.1 hl
      exact (List.Nodup.of_map _ h).filter _
    · refine List.Pairwise.map _ ?_ (show ranked.Nodup by decide)
      intro c d differ x hc hd
      have c' : x.report.cls = c := by simpa using (List.mem_filter.1 hc).2
      have d' : x.report.cls = d := by simpa using (List.mem_filter.1 hd).2
      exact differ (c'.symm.trans d')

/-- The records of a part's tickets are the part, where each record has a ticket of its own. -/
theorem filter_tickets {rs part : List Record} (h : part.Sublist rs) (distinct : (rs.map Record.ticket).Nodup) :
    rs.filter (fun r => r.ticket ∈ part.map Record.ticket) = part := by
  induction h with
  | slnil => rfl
  | @cons part rs r sub ih =>
    rw [List.map_cons, List.nodup_cons] at distinct
    have other : r.ticket ∉ part.map Record.ticket := fun mem => distinct.1 ((sub.map Record.ticket).subset mem)
    rw [List.filter_cons_of_neg (by simpa using other), ih distinct.2]
  | @cons_cons part rs r sub ih =>
    rw [List.map_cons, List.nodup_cons] at distinct
    rw [List.filter_cons_of_pos (by simp)]
    refine congrArg (r :: ·) (Eq.trans (List.filter_congr fun x hx => ?_) (ih distinct.2))
    have other : x.ticket ≠ r.ticket := fun same => distinct.1 (same ▸ List.mem_map_of_mem hx)
    simp [other]

/-- What is left of a list once the first records are taken, by their tickets. -/
theorem filter_untaken {rs : List Record} (distinct : (rs.map Record.ticket).Nodup) (n : Nat) :
    rs.filter (fun r => r.ticket ∉ (rs.take n).map Record.ticket) = rs.drop n := by
  induction n generalizing rs with
  | zero => simp
  | succ n ih =>
    cases rs with
    | nil => rfl
    | cons r rs =>
      rw [List.map_cons, List.nodup_cons] at distinct
      rw [List.take_succ_cons, List.drop_succ_cons, List.filter_cons_of_neg (by simp)]
      refine Eq.trans (List.filter_congr fun x hx => ?_) (ih distinct.2)
      have other : x.ticket ≠ r.ticket := fun same => distinct.1 (same ▸ List.mem_map_of_mem hx)
      simp [other]

end order

/-! ### Claims (R67) -/

section claims
variable {s t : State} {e : RxNo}

theorem State.claimable_eq (n : Nat) : s.claimable e n = (waitingFor s e).take n := by
  unfold State.claimable waitingFor State.target
  rw [State.inOrder_eq]
  refine congrArg (List.take n) (List.filter_congr fun r _ => ?_)
  rw [State.targetOf_eq, Bool.eq_iff_iff]
  simp

theorem waitingFor_sublist : (waitingFor s e).Sublist (inRank s) := List.filter_sublist

theorem State.Distinct.waiting_nodup (h : s.Distinct) : ((waitingFor s e).map Record.ticket).Nodup :=
  h.order_nodup.sublist (waitingFor_sublist.map _)

theorem firstUsable_congr (rx : t.receivers = s.receivers) (es : List RxNo) : firstUsable t es = firstUsable s es := by
  unfold firstUsable
  refine congrArg (List.find? · es) (funext fun k => ?_)
  rw [State.rx_congr rx]

/-- A record that takes a state, where a list of tickets names it. -/
def stateFor (ks : List Nat) (x : RecordState) (r : Record) : Record := if ks.contains r.ticket then { r with state := x } else r

theorem stateFor_entry (ks : List Nat) (x : RecordState) (r : Record) : (stateFor ks x r).entry = r.entry := by
  unfold stateFor; split <;> rfl

theorem stateFor_ticket (ks : List Nat) (x : RecordState) (r : Record) : (stateFor ks x r).ticket = r.ticket :=
  congrArg Prod.fst (stateFor_entry ks x r)

theorem stateFor_cls (ks : List Nat) (x : RecordState) (r : Record) :
    (stateFor ks x r).report.cls = r.report.cls := by unfold stateFor; split <;> rfl

theorem stateFor_mem {ks : List Nat} {x : RecordState} {r : Record} (h : r.ticket ∈ ks) :
    stateFor ks x r = { r with state := x } := if_pos (by simpa using h)

theorem stateFor_state {ks : List Nat} {x : RecordState} {r : Record} (h : r.ticket ∈ ks) : (stateFor ks x r).state = x := by
  rw [stateFor_mem h]

theorem stateFor_not_mem {ks : List Nat} {x : RecordState} {r : Record} (h : r.ticket ∉ ks) : stateFor ks x r = r :=
  if_neg (by simpa using h)

/-- Once the first records that wait are claimed, those behind them wait (R67). -/
theorem waitingFor_claimed (distinct : s.Distinct) {n : Nat} {x : RecordState} (taken : x ≠ .waiting)
    (records : t.queue.records = s.queue.records.map (stateFor (((waitingFor s e).take n).map Record.ticket) x))
    (rx : t.receivers = s.receivers) : waitingFor t e = (waitingFor s e).drop n := by
  have own := filter_untaken (State.Distinct.waiting_nodup (e := e) distinct) n
  generalize ((waitingFor s e).take n).map Record.ticket = ks at records own
  rw [← own]
  unfold waitingFor
  rw [inRank_map records (stateFor_cls ks x), List.filter_map, List.filter_filter]
  have free : ∀ r : Record, (decide ((stateFor ks x r).state = .waiting ∧
        firstUsable t (stateFor ks x r).pendingList = some e)) =
      (decide (r.ticket ∉ ks) && decide (r.state = .waiting ∧ firstUsable s r.pendingList = some e)) := fun r => by
    by_cases mem : r.ticket ∈ ks
    · rw [stateFor_mem mem]; simp [mem, taken]
    · rw [stateFor_not_mem mem, firstUsable_congr rx]; simp [mem]
  simp only [Function.comp_def, free]
  refine (List.map_congr_left fun r hr => ?_).trans (List.map_id _)
  rw [List.mem_filter, Bool.and_eq_true, decide_eq_true_eq] at hr
  exact stateFor_not_mem hr.2.1

/-- A change of states that takes none from WAITING and gives it to none leaves who waits. -/
theorem waitingFor_states {ks : List Nat} {x : RecordState} (taken : x ≠ .waiting)
    (busy : ∀ r ∈ s.queue.records, r.ticket ∈ ks → r.state ≠ .waiting)
    (records : t.queue.records = s.queue.records.map (stateFor ks x)) (rx : t.receivers = s.receivers) :
    waitingFor t e = waitingFor s e := by
  unfold waitingFor
  rw [inRank_map records (stateFor_cls ks x), List.filter_map]
  have free : ∀ r ∈ inRank s, (decide ((stateFor ks x r).state = .waiting ∧
        firstUsable t (stateFor ks x r).pendingList = some e)) =
      decide (r.state = .waiting ∧ firstUsable s r.pendingList = some e) := fun r hr => by
    by_cases mem : r.ticket ∈ ks
    · rw [stateFor_mem mem]; simp [taken, busy r ((mem_inRank s r).1 hr) mem]
    · rw [stateFor_not_mem mem, firstUsable_congr rx]
  simp only [Function.comp_def]
  rw [List.filter_congr free]
  refine (List.map_congr_left fun r hr => ?_).trans (List.map_id _)
  rw [List.mem_filter, decide_eq_true_eq] at hr
  exact stateFor_not_mem fun mem => busy r ((mem_inRank s r).1 hr.1) mem hr.2.1

/-- A slot made of some tickets holds them, whatever has become of the records' states (R137). -/
theorem State.makeSlot_holds {f : Record → Record} (records : t.queue.records = s.queue.records.map f)
    (entry : ∀ r, (f r).entry = r.entry) (l : LineNo) (ks : List Nat) :
    SlotHolds s (t.makeSlot l ks) (t.callAccount l) ks := by
  have ticket : ∀ r, (f r).ticket = r.ticket := fun r => congrArg Prod.fst (entry r)
  have report : ∀ r, (f r).report = r.report := fun r => congrArg (fun y => y.2.1) (entry r)
  unfold SlotHolds State.makeSlot
  dsimp only
  have held : t.inOrder.filter (fun r => ks.contains r.ticket) = ((inRank s).filter fun r => r.ticket ∈ ks).map f := by
    rw [State.inOrder_eq, inRank_map records fun r => congrArg Report.cls (report r), List.filter_map]
    refine congrArg (List.map f) (List.filter_congr fun r _ => ?_)
    simp [ticket]
  rw [held]
  simp only [List.map_map, Function.comp_def, ticket, report]

theorem tickets_of_holds {slot : Slot} {account ks : List Nat} (h : SlotHolds s slot account ks) :
    slot.tickets = ((inRank s).filter fun r => r.ticket ∈ ks).map Record.ticket := by rw [h]

theorem tickets_of_holds_sublist {slot : Slot} {account : List Nat} {part : List Record} (distinct : s.Distinct)
    (sub : part.Sublist (inRank s)) (h : SlotHolds s slot account (part.map Record.ticket)) :
    slot.tickets = part.map Record.ticket := by rw [tickets_of_holds h, filter_tickets sub distinct.order_nodup]

/-- The block of a slot that holds records begins with #. -/
theorem head_of_holds {slot : Slot} {account ks : List Nat} (h : SlotHolds s slot account ks)
    (some : slot.tickets ≠ []) : slot.block.head? = Option.some 11 := by
  have tickets := tickets_of_holds h
  unfold SlotHolds at h
  rw [h]
  unfold composeBlock
  rw [if_neg fun none => some (tickets.trans (by rw [List.map_eq_nil_iff] at none; rw [none]; rfl))]
  rfl

theorem State.settlePressure_records : s.settlePressure.queue.records = s.queue.records := by
  unfold State.settlePressure; dsimp only; split <;> rfl

theorem State.settlePressure_kept : s.settlePressure.lines = s.lines ∧ s.settlePressure.receivers = s.receivers ∧
    s.settlePressure.work.handOns = s.work.handOns ∧ s.settlePressure.tables = s.tables ∧ s.settlePressure.now = s.now := by
  unfold State.settlePressure; dsimp only; split <;> exact ⟨rfl, rfl, rfl, rfl, rfl⟩

end claims

end Sys2Proof.Machine
end

section
/-! The end of DELAY and of the gap: claims, move and the first symbol, or the call's end (O42). -/

namespace Sys2Proof.Machine

/-- What a claim, a move and the begin of a send leave alone beside lines and records. -/
structure Beside (s t : State) : Prop where
  receivers : t.receivers = s.receivers
  tables : t.tables = s.tables
  now : t.now = s.now
  exit : t.work.exitDue = s.work.exitDue
  handOns : t.work.handOns = s.work.handOns

section claims
variable {s t u : State} {l : LineNo} {e : RxNo}

theorem Beside.refl : Beside s s := ⟨rfl, rfl, rfl, rfl, rfl⟩

theorem Beside.trans (h : Beside s t) (g : Beside t u) : Beside s u :=
  ⟨g.receivers.trans h.receivers, g.tables.trans h.tables, g.now.trans h.now, g.exit.trans h.exit,
    g.handOns.trans h.handOns⟩

theorem Beside.settlePressure (h : Beside s t) : Beside s t.settlePressure := by
  unfold State.settlePressure; dsimp only; split
  · exact h.trans ⟨rfl, rfl, rfl, rfl, rfl⟩
  · exact h.trans ⟨rfl, rfl, rfl, rfl, rfl⟩

theorem Beside.setSlots (h : Beside s t) (k : LineNo) (x y : Slot) : Beside s (t.setSlots k x y) :=
  h.trans ⟨rfl, rfl, rfl, rfl, rfl⟩

theorem State.callAccount_of {c : Call} (call : s.call l = some c) (receiver : c.receiver = some e) :
    s.callAccount l = (s.t3 e).account := by
  unfold State.callAccount; rw [call]; dsimp only; rw [receiver]

theorem State.callAccount_congr (lines : t.lines = s.lines) (tables : t.tables = s.tables) :
    t.callAccount l = s.callAccount l := by
  unfold State.callAccount State.call State.t3
  rw [State.line_congr lines, tables]

/-- The records that a claim takes. -/
theorem State.setStates_records (ks : List Nat) (x : RecordState) :
    (s.setStates ks x).queue.records = s.queue.records.map (stateFor ks x) := rfl

/-- A claim before its slot is filled: the records' states alone. -/
theorem State.claimed_facts (ks : List Nat) (x : RecordState) :
    ((s.setStates ks x).settlePressure).queue.records = s.queue.records.map (stateFor ks x) ∧
      ((s.setStates ks x).settlePressure).lines = s.lines ∧ Beside s ((s.setStates ks x).settlePressure) :=
  ⟨State.settlePressure_records, State.settlePressure_kept.1,
    Beside.settlePressure ⟨rfl, rfl, rfl, rfl, rfl⟩⟩

/-- A claim into SENDING (R67, R136). -/
theorem State.claimSending_facts (n : Nat) :
    (s.claimSending l e n).queue.records =
        s.queue.records.map (stateFor (((waitingFor s e).take n).map Record.ticket) .inFlight) ∧
      Beside s (s.claimSending l e n) ∧
      ∃ slot, (s.claimSending l e n).line l = { s.line l with sending := slot } ∧
        SlotHolds s slot (s.callAccount l) (((waitingFor s e).take n).map Record.ticket) := by
  unfold State.claimSending
  rw [State.claimable_eq]
  obtain ⟨records, lines, beside⟩ := s.claimed_facts (((waitingFor s e).take n).map Record.ticket) .inFlight
  refine ⟨records, beside.setSlots _ _ _, _, ?_,
    State.callAccount_congr (l := l) lines beside.tables ▸ State.makeSlot_holds records (stateFor_entry _ _) l _⟩
  rw [State.setSlots_line, if_pos rfl, State.line_congr lines]

/-- A claim into NEXT, beside the tickets it holds (R67, R138). -/
theorem State.claimNext_facts (n : Nat) :
    (s.claimNext l e n).queue.records =
        s.queue.records.map (stateFor (((waitingFor s e).take n).map Record.ticket) .staged) ∧
      Beside s (s.claimNext l e n) ∧
      ∃ slot, (s.claimNext l e n).line l = { s.line l with next := slot } ∧
        SlotHolds s slot (s.callAccount l) ((s.line l).next.tickets ++ ((waitingFor s e).take n).map Record.ticket) := by
  unfold State.claimNext
  rw [State.claimable_eq]
  obtain ⟨records, lines, beside⟩ := s.claimed_facts (((waitingFor s e).take n).map Record.ticket) .staged
  dsimp only
  generalize (s.setStates (((waitingFor s e).take n).map Record.ticket) .staged).settlePressure = v at records lines beside
  refine ⟨records, beside.setSlots _ _ _,
    v.makeSlot l ((v.line l).next.tickets ++ ((waitingFor s e).take n).map Record.ticket), ?_, ?_⟩
  · rw [State.setSlots_line, if_pos rfl, State.line_congr lines]
  · have holds := State.makeSlot_holds records (stateFor_entry _ _) l
      ((s.line l).next.tickets ++ ((waitingFor s e).take n).map Record.ticket)
    rw [State.callAccount_congr lines beside.tables] at holds
    rw [State.line_congr lines]
    exact holds

end claims

/-! ### The first symbol of a send (R140) -/

/-- A line that begins to send, its detector muted and its call's tone record as it then is. -/
def Line.sends (x : Line) (c : Call) (d : Detector) (tone : ToneRecord) (count now : Nat) : Line :=
  { x with
    iface := { x.iface with sender := x.sending.block.head? }
    detector := d
    call := some { c with
      sendCount := some count, state := .exchange (.transmit 0), stateTimer := some (now + 50), tone } }

section send
variable {s : State} {l : LineNo} {c : Call}

/-- What the detector reports while a block is sent goes into the tone record alone. -/
theorem State.toneReport_transmit {k : Nat} (call : s.call l = some c) (state : c.state = .exchange (.transmit k))
    (r : ToneReport) : ∃ tone, s.toneReport l r = s.setCall l (some { c with tone }) := by
  unfold State.toneReport
  rw [call]; dsimp only
  cases r with
  | onset b onset => rw [state]; exact ⟨_, rfl⟩
  | ended b ms onset stop => rw [state]; exact ⟨_, rfl⟩

theorem State.mute_transmit {k : Nat} (call : s.call l = some c) (state : c.state = .exchange (.transmit k)) :
    ∃ d tone, (s.mute l).line l = { s.line l with detector := d, call := some { c with tone } } ∧
      (s.mute l).queue = s.queue ∧ Beside s (s.mute l) := by
  unfold State.mute; dsimp only
  generalize ((s.detector l).mute s.now).1 = d
  have call' : (s.setDetector l d).call l = some c := by
    unfold State.call at *; rw [State.setDetector_line, if_pos rfl]; exact call
  split
  · next r _ =>
    obtain ⟨tone, told⟩ := State.toneReport_transmit call' state r
    refine ⟨d, tone, ?_, by rw [told]; rfl, by rw [told]; exact ⟨rfl, rfl, rfl, rfl, rfl⟩⟩
    rw [told, State.setCall_line, if_pos rfl, State.setDetector_line, if_pos rfl]
  · refine ⟨d, c.tone, ?_, rfl, ⟨rfl, rfl, rfl, rfl, rfl⟩⟩
    rw [State.setDetector_line, if_pos rfl]
    unfold State.call at call
    rw [← call]

theorem State.beginSend_facts (call : s.call l = some c) (n : Nat) :
    ∃ d tone, (s.beginSend l n).line l = (s.line l).sends c d tone n s.now ∧
      (s.beginSend l n).queue = s.queue ∧ Beside s (s.beginSend l n) := by
  unfold State.beginSend; dsimp only
  generalize hv : ((s.setSender l (s.line l).sending.block.head?).modCall l fun c => { c with sendCount := some n }).enterState l
    (.exchange (.transmit 0)) blockToneTime = v
  have line : v.line l =
      { s.line l with
        iface := { (s.line l).iface with sender := (s.line l).sending.block.head? }
        call := some { c with
          sendCount := some n, state := .exchange (.transmit 0), stateTimer := some (s.now + 50) } } := by
    rw [← hv]
    unfold State.call at call
    simp only [State.enterState, State.modCall, State.setSender, State.setIface, State.setCall, State.call,
      State.setLine_line_same, call]
    rfl
  have beside : Beside s v ∧ v.queue = s.queue := by rw [← hv]; exact ⟨⟨rfl, rfl, rfl, rfl, rfl⟩, rfl⟩
  obtain ⟨d, tone, muted, queue, besides⟩ := State.mute_transmit (s := v) (l := l) (k := 0)
    (by unfold State.call; rw [line]) rfl
  refine ⟨d, tone, ?_, queue.trans beside.2, beside.1.trans besides⟩
  rw [muted, line]
  rfl

end send

/-! ### The end of a command's work on a line in CALL -/

section settled
variable {s : State} {l : LineNo}

/-- With nothing to hand on and no exit due, a line in CALL and the queue are as they were. -/
theorem State.settle_callKept (exit : s.work.exitDue = false) (handOns : s.work.handOns = [])
    (occupancy : (s.line l).ctl.occupancy = .call) (lend : (s.line l).ctl.lend ≠ .lent) :
    (s.settle.line l).call = (s.line l).call ∧ (s.settle.line l).iface = (s.line l).iface ∧
      (s.settle.line l).sending = (s.line l).sending ∧ (s.settle.line l).next = (s.line l).next ∧
      s.settle.queue = s.queue := by
  obtain ⟨call, iface, -, sending, next⟩ := parked_line ((State.settle_act s exit handOns).2.1 l occupancy lend)
  exact ⟨call, iface, sending, next, congrArg Steady.queue (State.settle_steady s exit handOns)⟩

theorem exec_delayEnd {t : Nat} {c : Call} (timer : s.TimerEnds l c t) (delay : c.state = .exchange .delay) :
    exec (.delayEnd t l) s = .next ((s.advance t).firstClaim l c).settle := by
  obtain ⟨call, e, due, past⟩ := timer
  have call' : (s.advance t).call l = some c := call
  have passed : expired (some e) (max s.now t) = true := decide_eq_true past
  simp [exec, execDelayEnd, State.timedCall, call', delay, due, passed]

theorem exec_gapEnd {t : Nat} {c : Call} (timer : s.TimerEnds l c t) (gap : c.state = .exchange .gap) :
    exec (.gapEnd t l) s = .next ((s.advance t).gapOver l c).settle := by
  obtain ⟨call, e, due, past⟩ := timer
  have call' : (s.advance t).call l = some c := call
  have passed : expired (some e) (max s.now t) = true := decide_eq_true past
  simp [exec, execGapEnd, State.timedCall, call', gap, due, passed]

theorem resultFor_eq (c : Call) (x : CallResult) : c.resultOf x = resultFor c.purpose x := by
  unfold Call.resultOf resultFor; cases c.purpose <;> rfl

theorem State.releaseCall_roster (c : Call) (x : CallResult) : (s.releaseCall l c x).roster = s.roster := by
  rw [State.releaseCall_eq, State.drain_roster]
  have returned : (s.recordsBack l).roster = s.roster := by
    unfold State.recordsBack
    rw [State.returnAll_roster, State.returnAll_roster]; rfl
  have begun : (s.releaseBegun l c x).queue = (s.recordsBack l).queue := by simp [State.releaseBegun, State.setBusy]
  exact (roster_of_queue begun).trans returned

end settled

/-! ### What the ends of DELAY and of the gap do -/

section ends
variable {s : State} {l : LineNo} {c : Call} {e : RxNo}

theorem State.firstClaim_eq (receiver : c.receiver = some e) :
    s.firstClaim l c =
      if ((s.claimSending l e 4).line l).sending.tickets = [] then (s.claimSending l e 4).giveResult l .cutShort
      else ((s.claimSending l e 4).claimNext l e 4).beginSend l 1 := by
  unfold State.firstClaim; rw [receiver]

theorem State.gapOver_eq (receiver : c.receiver = some e) :
    s.gapOver l c =
      if (s.line l).next.tickets = [] then s.giveResult l .complete
      else ((s.moveNext l).claimNext l e 4).beginSend l 1 := by
  unfold State.gapOver; rw [receiver]

/-- NEXT moved into SENDING: its STAGED records are IN-FLIGHT (R68, R145). -/
theorem State.moveNext_facts :
    (∃ ks, (s.moveNext l).queue.records = s.queue.records.map (stateFor ks .inFlight) ∧
      ∀ k, k ∈ ks ↔ ∃ r ∈ s.queue.records, r.ticket = k ∧ r.ticket ∈ (s.line l).next.tickets ∧ r.state = .staged) ∧
      (s.moveNext l).line l = { s.line l with sending := (s.line l).next, next := Slot.empty } ∧ Beside s (s.moveNext l) := by
  refine ⟨⟨_, rfl, fun k => ?_⟩, ?_, ⟨rfl, rfl, rfl, rfl, rfl⟩⟩
  · simp only [List.mem_map, List.mem_filter, Bool.and_eq_true, List.contains_iff_mem, beq_iff_eq]
    constructor
    · rintro ⟨r, ⟨mem, held, staged⟩, rfl⟩; exact ⟨r, mem, rfl, held, staged⟩
    · rintro ⟨r, mem, rfl, held, staged⟩; exact ⟨r, ⟨mem, held, staged⟩, rfl⟩
  · unfold State.moveNext; dsimp only
    rw [State.setSlots_line, if_pos rfl]; rfl

/-- A slot shows tickets and reports, which a change of states leaves. -/
theorem holds_of_map {t : State} {f : Record → Record} (records : t.queue.records = s.queue.records.map f)
    (entry : ∀ r, (f r).entry = r.entry) {slot : Slot} {account ks : List Nat} (h : SlotHolds t slot account ks) :
    SlotHolds s slot account ks := by
  have ticket : ∀ r, (f r).ticket = r.ticket := fun r => congrArg Prod.fst (entry r)
  have report : ∀ r, (f r).report = r.report := fun r => congrArg (fun y => y.2.1) (entry r)
  unfold SlotHolds at h ⊢
  dsimp only at h ⊢
  rw [inRank_map records fun r => congrArg Report.cls (report r), List.filter_map] at h
  simpa only [List.map_map, Function.comp_def, ticket, report] using h

/-- The first claim finds nothing: the call is released, and its line waits out the release guard (R127, R136). -/
theorem firstClaim_nothing (call : s.call l = some c) (delay : c.state = .exchange .delay) (receiver : c.receiver = some e)
    (distinct : s.Distinct) (none : (waitingFor s e).take 4 = []) (idle : s.work.exitDue = false)
    (occupancy : (s.ctl l).occupancy = .call) (lend : (s.ctl l).lend ≠ .lent) :
    ((s.firstClaim l c).settle.line l).parked =
        ((s.line l).released c (resultFor c.purpose .cutShort) s.now).parked ∧
      (s.firstClaim l c).settle.reports = s.reports := by
  obtain ⟨-, beside, slot, line, holds⟩ := s.claimSending_facts (l := l) (e := e) 4
  have tickets := tickets_of_holds_sublist distinct ((List.take_sublist ..).trans waitingFor_sublist) holds
  have empty : ((s.claimSending l e 4).line l).sending.tickets = [] := by rw [line]; exact tickets.trans (by rw [none]; rfl)
  have call' : (s.claimSending l e 4).call l = some c := by unfold State.call at *; rw [line]; exact call
  rw [State.firstClaim_eq receiver, if_pos empty,
    State.giveResult_releases call' (by rw [delay]; nofun) (by rw [delay]; nofun), resultFor_eq]
  have released : ((s.claimSending l e 4).releaseCall l c (resultFor c.purpose .cutShort)).line l =
      (s.line l).released c (resultFor c.purpose .cutShort) s.now := by
    rw [State.releaseCall_line, line, beside.now]; rfl
  have exit : ((s.claimSending l e 4).releaseCall l c (resultFor c.purpose .cutShort)).work.exitDue = false := by
    rw [State.releaseCall_exitDue, beside.exit]; exact idle
  constructor
  · rw [State.settle_parked exit (by rw [State.ctl, released]; exact congrArg Occupancy.searched occupancy)
      (by rw [State.ctl, released]; exact lend) (by rw [released]; exact Line.released_deaf _ _), released]
  · exact reports_of_roster ((State.settle_roster exit).trans ((State.releaseCall_roster c _).trans
      (State.claimSending_roster s l e 4)))

/-- The claim into NEXT and the first symbol, and the end of the command's work. -/
theorem claimNext_beginSend {x : Line} (call : s.call l = some c) (receiver : c.receiver = some e)
    (line : s.line l = x) (empty : x.next.tickets = []) (idle : s.work.exitDue = false) (handOns : s.work.handOns = [])
    (occupancy : x.ctl.occupancy = .call) (lend : x.ctl.lend ≠ .lent) :
    let u := ((s.claimNext l e 4).beginSend l 1).settle
    u.queue.records = s.queue.records.map (stateFor (((waitingFor s e).take 4).map Record.ticket) .staged) ∧
      (u.line l).sending = x.sending ∧
      SlotHolds s (u.line l).next (s.t3 e).account (((waitingFor s e).take 4).map Record.ticket) ∧
      (u.line l).iface.sender = x.sending.block.head? ∧
      (∃ c1, u.call l = some c1 ∧ c1.state = .exchange (.transmit 0) ∧ c1.sendCount = some 1 ∧
        c1.stateTimer = some (s.now + 50)) ∧
      u.reports = s.reports := by
  intro u
  obtain ⟨records, beside, slot, claimed, holds⟩ := s.claimNext_facts (l := l) (e := e) 4
  rw [line] at claimed holds
  rw [empty, List.nil_append, State.callAccount_of call receiver] at holds
  have call' : (s.claimNext l e 4).call l = some c := by
    unfold State.call at *; rw [claimed]; rw [line] at call; exact call
  obtain ⟨d, tone, sends, queue, besides⟩ := State.beginSend_facts call' 1
  rw [claimed, beside.now] at sends
  have all := beside.trans besides
  obtain ⟨own, iface, sending, next, settled⟩ := State.settle_callKept (l := l) (all.exit.trans idle)
    (all.handOns.trans handOns) (by rw [sends]; exact occupancy) (by rw [sends]; exact lend)
  rw [sends] at own iface sending next
  have after : u.queue = (s.claimNext l e 4).queue := settled.trans queue
  refine ⟨(congrArg Queue.records after).trans records, sending, by rw [next]; exact holds,
    congrArg Iface.sender iface, ⟨_, own, rfl, rfl, rfl⟩, ?_⟩
  exact reports_of_roster ((roster_of_queue after).trans (State.claimNext_roster s l e 4))

end ends

/-- Settles O42: DELAY's end by `firstClaim_nothing` and `claimNext_beginSend`, the gap's end by the move and the same. -/
theorem blocksAreClaimedAndMoved : Obligations.BlocksAreClaimedAndMoved := by
  constructor
  · intro t line c e s rested timer delay receiver occupancy lend empty distinct first
    have served := exec_delayEnd timer delay
    obtain ⟨call, -⟩ := timer
    have idle := Rested.exitDue rested
    constructor
    · intro none
      obtain ⟨parked, reports⟩ := firstClaim_nothing (s := s.advance t) call delay receiver distinct none idle occupancy lend
      obtain ⟨call', iface, -, sending, next⟩ := parked_line parked
      exact ⟨_, served, call', iface, congrArg Slot.tickets sending, congrArg Slot.tickets next, reports⟩
    · intro some
      obtain ⟨records, beside, slot, claimed, holds⟩ := (s.advance t).claimSending_facts (l := line) (e := e) 4
      have taken := tickets_of_holds_sublist (s := s.advance t) distinct ((List.take_sublist ..).trans waitingFor_sublist) holds
      have filled : ((((s.advance t).claimSending line e 4).line line)).sending.tickets ≠ [] := by
        rw [claimed]; exact fun none => some (List.map_eq_nil_iff.1 (taken.symm.trans none))
      rw [State.firstClaim_eq receiver, if_neg filled] at served
      have waits : waitingFor ((s.advance t).claimSending line e 4) e = (waitingFor s e).drop 4 :=
        waitingFor_claimed (s := s.advance t) distinct (by decide) records beside.receivers
      have call' : ((s.advance t).claimSending line e 4).call line = Option.some c := by
        unfold State.call; rw [claimed]; exact call
      obtain ⟨staged, sending, next, sender, begun, reports⟩ := claimNext_beginSend call' receiver claimed empty
        (beside.exit.trans idle) (beside.handOns.trans (congrArg Work.handOns rested)) occupancy lend
      rw [waits] at staged next
      have account : (((s.advance t).claimSending line e 4).t3 e).account = (s.t3 e).account := by
        unfold State.t3; rw [beside.tables]; rfl
      rw [account] at next
      have holds' : SlotHolds s slot (s.t3 e).account (first.map Record.ticket) :=
        State.callAccount_of (s := s.advance t) call receiver ▸ holds
      have next' := holds_of_map (s := s.advance t) records (stateFor_entry _ _) next
      have nextTickets := tickets_of_holds_sublist (s := s.advance t) distinct
        (((List.take_sublist ..).trans (List.drop_sublist ..)).trans waitingFor_sublist) next'
      have apart := List.disjoint_take_drop (State.Distinct.waiting_nodup (e := e) distinct) (Nat.le_refl 4)
      rw [← List.map_take, ← List.map_drop] at apart
      refine ⟨_, served, by rw [sending]; exact holds', by rw [sending]; exact taken, next', ?_, ?_, ?_, ?_, ?_⟩
      · rw [sender]
        exact head_of_holds holds' (by rw [taken]; exact fun none => some (List.map_eq_nil_iff.1 none))
      · rw [beside.now] at begun; exact begun
      · intro x hx mem
        rw [sending] at mem
        rw [staged, records, List.map_map] at hx
        obtain ⟨r, -, rfl⟩ := List.mem_map.1 hx
        simp only [Function.comp_apply, stateFor_ticket] at mem ⊢
        have first' : r.ticket ∈ first.map Record.ticket := taken ▸ mem
        have second : r.ticket ∉ (((waitingFor s e).drop 4).take 4).map Record.ticket := fun taken' =>
          apart first' (((List.take_sublist ..).map _).subset taken')
        rw [stateFor_not_mem (by rw [stateFor_ticket]; exact second)]
        exact stateFor_state first'
      · intro x hx mem
        rw [nextTickets] at mem
        rw [staged, List.mem_map] at hx
        obtain ⟨r, -, rfl⟩ := hx
        rw [stateFor_ticket] at mem
        exact stateFor_state mem
      · exact reports.trans (reports_of_roster (State.claimSending_roster (s.advance t) line e 4))
  · intro t line c e s rested timer gap receiver occupancy lend
    have served := exec_gapEnd timer gap
    obtain ⟨call, -⟩ := timer
    have call' : (s.advance t).call line = some c := call
    constructor
    · intro next sending
      have released := State.releaseCall_emptySlots (s.advance t) line c (c.resultOf .complete) rested sending next
      rw [State.gapOver_eq receiver, if_pos (show ((s.advance t).line line).next.tickets = [] from next),
        State.giveResult_releases call' (by rw [gap]; nofun) (by rw [gap]; nofun), released, resultFor_eq] at served
      exact served.trans (congrArg Host.Outcome.next (State.settle_rested _ rested))
    · intro filled distinct
      obtain ⟨⟨ks, moved, named⟩, line', beside⟩ := (s.advance t).moveNext_facts (l := line)
      rw [State.gapOver_eq receiver, if_neg (show ((s.advance t).line line).next.tickets ≠ [] from filled)] at served
      have staged : ∀ r ∈ s.queue.records, r.ticket ∈ ks → r.state = .staged := fun r hr mem => by
        obtain ⟨x, hx, same, -, state⟩ := (named r.ticket).1 mem
        obtain rfl := record_eq_of_ticket distinct hx hr same
        exact state
      have waits : waitingFor ((s.advance t).moveNext line) e = waitingFor s e :=
        waitingFor_states (s := s.advance t) (x := .inFlight) (by decide) (fun r hr mem => by rw [staged r hr mem]; decide) moved
          beside.receivers
      have call'' : ((s.advance t).moveNext line).call line = some c := by unfold State.call at *; rw [line']; exact call
      obtain ⟨claimed, sending, next, sender, begun, reports⟩ := claimNext_beginSend call'' receiver line' rfl
        (beside.exit.trans (Rested.exitDue rested)) (beside.handOns.trans (congrArg Work.handOns rested)) occupancy lend
      rw [waits] at claimed next
      rw [beside.now] at begun
      have account : (((s.advance t).moveNext line).t3 e).account = (s.t3 e).account := by
        unfold State.t3; rw [beside.tables]; rfl
      rw [account] at next
      refine ⟨_, served, sending, sender, holds_of_map (s := s.advance t) moved (stateFor_entry _ _) next, begun, ?_,
        reports.trans (reports_of_roster (State.moveNext_roster (s.advance t) line))⟩
      intro r hr mem state
      have free : r.ticket ∉ ((waitingFor s e).take 4).map Record.ticket := fun taken => by
        obtain ⟨x, hx, same⟩ := List.mem_map.1 taken
        have waiting := List.mem_of_mem_take hx
        rw [waitingFor, List.mem_filter, mem_inRank, decide_eq_true_eq] at waiting
        obtain rfl := record_eq_of_ticket distinct waiting.1 hr same
        rw [state] at waiting; nomatch waiting.2.1
      rw [claimed, moved, List.map_map]
      refine List.mem_map.2 ⟨r, hr, ?_⟩
      rw [Function.comp_apply, stateFor_not_mem (by rw [stateFor_ticket]; exact free),
        stateFor_mem ((named r.ticket).2 ⟨r, hr, rfl, mem, state⟩)]

end Sys2Proof.Machine
end

section
/-! What an ACCEPT does to one record of its block and leaves of the others, and what the Call Controllers' work after it leaves of a record's papers and of SENDING (R64, R69, R71, R138). -/

namespace Sys2Proof.Machine

/-- What claims and returns leave of a record: ticket, report, pending list and accepted list. -/
def Record.papers (r : Record) : Nat × Report × List RxNo × List RxNo :=
  (r.ticket, r.report, r.pendingList, r.acceptedList)

theorem ticket_of_papers {x y : Record} (h : x.papers = y.papers) : x.ticket = y.ticket := congrArg Prod.fst h

/-- The queue of `t` holds the records of `s` in order, each with its papers, and none has come to be IN-FLIGHT. -/
def Filed (s t : State) : Prop :=
  ∃ f : Record → Record, t.queue.records = s.queue.records.map f ∧
    ∀ r, (f r).papers = r.papers ∧ (r.state ≠ .inFlight → (f r).state ≠ .inFlight)

/-- A record that the block holds no longer: under ticket `k`, with these papers, and not IN-FLIGHT. -/
def State.Landed (s : State) (k : Nat) (p : Nat × Report × List RxNo × List RxNo) : Prop :=
  ∃ y, s.find k = some y ∧ y.papers = p ∧ y.state ≠ .inFlight

section find
variable {s t : State} {k : Nat} {r : Record}

/-- A ticket finds in a changed queue what the change makes of the record it found. -/
theorem State.find_map {f : Record → Record} (records : t.queue.records = s.queue.records.map f)
    (ticket : ∀ x, (f x).ticket = x.ticket) : t.find k = (s.find k).map f := by
  have same : ((fun r : Record => r.ticket == k) ∘ f) = fun r => r.ticket == k := funext fun x => by simp [ticket]
  unfold State.find
  rw [records, List.find?_map, same]

theorem State.find_ticket (found : s.find k = some r) : r.ticket = k := by simpa using List.find?_some found

end find

theorem State.faultActive_queue (s : State) (k : FaultKind) (i : Nat) : (s.faultActive k i).queue = s.queue := by
  unfold State.faultActive; split
  · simp
  · split <;> simp

theorem State.faultCleared_queue (s : State) (k : FaultKind) (i : Nat) : (s.faultCleared k i).queue = s.queue := by
  unfold State.faultCleared; split
  · rfl
  · split <;> simp

theorem State.settleComm_queue (s : State) : s.settleComm.queue = s.queue := by
  unfold State.settleComm; split
  · exact State.faultActive_queue _ _ _
  · exact State.faultCleared_queue _ _ _

/-! ### Papers and SENDING through claims and returns -/

section filed
variable {s t u : State} {p : Nat × Report × List RxNo × List RxNo}

theorem Filed.refl : Filed s s := ⟨id, by simp, fun _ => ⟨rfl, id⟩⟩

theorem Filed.trans (h : Filed s t) (g : Filed t u) : Filed s u := by
  obtain ⟨f, hf, kf⟩ := h
  obtain ⟨k, hk, kk⟩ := g
  refine ⟨k ∘ f, by rw [hk, hf, List.map_map], fun r => ?_⟩
  obtain ⟨same, landed⟩ := kf r
  obtain ⟨same', landed'⟩ := kk (f r)
  exact ⟨same'.trans same, landed' ∘ landed⟩

theorem Filed.same (h : Filed s t) (g : u.queue.records = t.queue.records) : Filed s u := by
  obtain ⟨f, hf, kf⟩ := h
  exact ⟨f, g.trans hf, kf⟩

theorem State.Landed.filed {k : Nat} (h : s.Landed k p) (g : Filed s t) : t.Landed k p := by
  obtain ⟨y, found, papers, landed⟩ := h
  obtain ⟨f, records, keeps⟩ := g
  refine ⟨f y, ?_, (keeps y).1.trans papers, (keeps y).2 landed⟩
  rw [State.find_map records fun x => ticket_of_papers (keeps x).1, found]; rfl

theorem Filed.settlePressure (h : Filed s t) : Filed s t.settlePressure := h.same State.settlePressure_records

theorem Filed.setSlots (h : Filed s t) (l : LineNo) (x y : Slot) : Filed s (t.setSlots l x y) := h.same rfl

theorem Filed.setWork (h : Filed s t) (w : Work) : Filed s (t.setWork w) := h.same rfl

theorem Filed.setStates (h : Filed s t) (ks : List Nat) {x : RecordState} (landed : x ≠ .inFlight) :
    Filed s (t.setStates ks x) := by
  refine h.trans ⟨_, rfl, fun r => ?_⟩
  split
  · exact ⟨rfl, fun _ => landed⟩
  · exact ⟨rfl, id⟩

theorem Filed.claimNext (h : Filed s t) (l : LineNo) (e : RxNo) (n : Nat) : Filed s (t.claimNext l e n) :=
  (h.setStates _ (x := .staged) (by decide)).settlePressure.same rfl

/-- The records of one ticket alone are changed by a return, and one that was held has landed (R64, R68). -/
theorem State.returnRecord_records {k : Nat} {r : Record} (found : s.find k = some r) :
    ∃ g : Record → Record,
      (s.returnRecord k).queue.records = s.queue.records.map (fun y => if y.ticket = k then g y else y) ∧
        ∀ y, (g y).papers = y.papers ∧ (y.state ≠ .inFlight ∨ r.state = .inFlight → (g y).state ≠ .inFlight) := by
  have number := State.find_ticket found
  unfold State.returnRecord
  rw [found]; dsimp only
  split
  · generalize hx : (if (s.target r).isSome then RecordState.waiting else .stranded) = x
    have landed : x ≠ .inFlight := by rw [← hx]; split <;> decide
    have freed : ∃ g : Record → Record,
        ((s.modRecord k fun y => { y with state := x }).releaseHeld r).queue.records =
          s.queue.records.map (fun y => if y.ticket = k then g y else y) ∧
        ∀ y, (g y).papers = y.papers ∧ (g y).state = x := by
      unfold State.releaseHeld; split
      · refine ⟨fun y => { y with state := x, repeats := min 255 (y.repeats + s.queue.heldLosses) }, ?_,
          fun _ => ⟨rfl, rfl⟩⟩
        simp only [State.modRecord, State.setQueue_queue, List.map_map, Function.comp_def, number]
        refine List.map_congr_left fun y _ => ?_
        by_cases own : y.ticket = k
        · simp [own]
        · simp [own]
      · exact ⟨fun y => { y with state := x }, rfl, fun _ => ⟨rfl, rfl⟩⟩
    obtain ⟨g, records, keeps⟩ := freed
    refine ⟨g, ?_, fun y => ⟨(keeps y).1, fun _ => by rw [(keeps y).2]; exact landed⟩⟩
    rw [State.settlePressure_records, ← records]
    split
    · rw [State.settleComm_queue, State.notice_queue]
    · rfl
  · next held =>
    refine ⟨id, by simp, fun y => ⟨rfl, ?_⟩⟩
    rintro (landed | flies)
    · exact landed
    · exact absurd (.inr flies) held

theorem Filed.returnRecord (h : Filed s t) (k : Nat) : Filed s (t.returnRecord k) := by
  cases found : t.find k with
  | none => unfold State.returnRecord; rw [found]; exact h
  | some r =>
    obtain ⟨g, records, keeps⟩ := State.returnRecord_records found
    refine h.trans ⟨_, records, fun y => ?_⟩
    split
    · exact ⟨(keeps y).1, fun landed => (keeps y).2 (.inl landed)⟩
    · exact ⟨rfl, id⟩

theorem Filed.returnAll (h : Filed s t) (ks : List Nat) : Filed s (t.returnAll ks) := by
  induction ks generalizing t with
  | nil => exact h
  | cons k ks ih => exact ih (h.returnRecord k)

theorem Filed.recompose (h : Filed s t) (l : LineNo) (e : RxNo) (k : Nat) : Filed s (t.recompose l e k) := by
  unfold State.recompose; dsimp only; split
  · exact h.claimNext l e _
  · split
    · split
      · exact ((h.returnRecord _).setSlots l _ _).claimNext l e 1
      · exact h
    · exact h

theorem Filed.takeHandOn (h : Filed s t) (k : Nat) : Filed s (t.takeHandOn k) := by
  unfold State.takeHandOn; split
  · exact h
  · split
    · split
      · exact h
      · split
        · exact h
        · exact h.recompose _ _ k
    · exact h

theorem Filed.drainFuel (n : Nat) : ∀ {t : State}, Filed s t → Filed s (State.drainFuel n t) := by
  induction n with
  | zero => exact id
  | succ n ih =>
    intro t h; unfold State.drainFuel; split
    · exact h
    · exact ih ((h.setWork _).takeHandOn _)

theorem Filed.drain (h : Filed s t) : Filed s t.drain := by
  unfold State.drain; split
  · exact h
  · exact h.drainFuel 128

theorem Filed.settle (h : Filed s t) (exit : t.work.exitDue = false) : Filed s t.settle :=
  h.drain.same (congrArg Queue.records (State.settle_queue exit))

theorem Filed.releaseCall (h : Filed s t) (l : LineNo) (c : Call) (x : CallResult) : Filed s (t.releaseCall l c x) := by
  have returned : Filed s (t.recordsBack l) :=
    Filed.returnAll (Filed.returnAll (t := (t.setBusy true).setSender l none) (h.same rfl) _) _
  rw [State.releaseCall_eq]
  exact Filed.drain (t := t.releaseBegun l c x) (returned.same rfl)

end filed

section sending
variable (s : State) (l : LineNo)

theorem State.setSlots_sending (m : LineNo) (y : Slot) : ((s.setSlots m (s.line m).sending y).line l).sending = (s.line l).sending := by
  rw [State.setSlots_line]; split
  · next same => subst same; rfl
  · rfl

theorem State.claimNext_sending (m : LineNo) (e : RxNo) (n : Nat) : ((s.claimNext m e n).line l).sending = (s.line l).sending := by
  unfold State.claimNext; dsimp only
  rw [State.setSlots_sending]
  exact congrArg Line.sending (State.line_congr (State.settlePressure_lines _) l)

/-- A recomposition changes NEXT alone of the slots (R138). -/
theorem State.recompose_sending (m : LineNo) (e : RxNo) (k : Nat) : ((s.recompose m e k).line l).sending = (s.line l).sending := by
  unfold State.recompose; dsimp only; split
  · exact s.claimNext_sending l m e _
  · split
    · split
      · rw [State.claimNext_sending, State.setSlots_sending]
        exact congrArg Line.sending (State.line_congr (s.returnRecord_lines _) l)
      · rfl
    · rfl

theorem State.takeHandOn_sending (k : Nat) : ((s.takeHandOn k).line l).sending = (s.line l).sending := by
  unfold State.takeHandOn; split
  · rfl
  · split
    · split
      · rfl
      · split
        · rfl
        · exact s.recompose_sending l _ _ k
    · rfl

theorem State.drainFuel_sending (n : Nat) : ∀ s : State, ((State.drainFuel n s).line l).sending = (s.line l).sending := by
  induction n with
  | zero => intro s; rfl
  | succ n ih =>
    intro s; unfold State.drainFuel; split
    · rfl
    · rw [ih, State.takeHandOn_sending]; rfl

theorem State.drain_sending : (s.drain.line l).sending = (s.line l).sending := by
  unfold State.drain; split
  · rfl
  · exact State.drainFuel_sending l 128 s

end sending

/-! ### ACCEPT, record by record (R69) -/

/-- What an ACCEPT leaves while the Call Controller is at work: the lines, that it is at work, and that no exit is due. -/
structure Alike (s t : State) : Prop where
  lines : t.lines = s.lines
  busy : t.work.busy = s.work.busy
  exit : t.work.exitDue = s.work.exitDue

section accept
variable {s t u : State} {e : RxNo} {k : Nat} {r : Record}

theorem Alike.trans (h : Alike s t) (g : Alike t u) : Alike s u :=
  ⟨g.lines.trans h.lines, g.busy.trans h.busy, g.exit.trans h.exit⟩

theorem Alike.of_work (lines : t.lines = s.lines) (work : t.work = s.work) : Alike s t :=
  ⟨lines, congrArg Work.busy work, congrArg Work.exitDue work⟩

theorem Alike.notice (s : State) (n : Notice) : Alike s (s.notice n) := .of_work (by simp) (by simp)

theorem Alike.settleComm (s : State) : Alike s s.settleComm := .of_work (by simp) (by simp)

theorem Alike.settlePressure (s : State) : Alike s s.settlePressure := by
  unfold State.settlePressure; dsimp only; split
  · exact ⟨rfl, rfl, rfl⟩
  · exact ⟨rfl, rfl, rfl⟩

/-- While a Call Controller is at work nothing that is handed on is taken (log 5). -/
theorem State.handOn_busy (busy : s.work.busy = true) (k : Nat) : s.handOn k = s.noteWaiting k := by
  unfold State.handOn State.drain
  exact if_pos busy

/-- What an entry tells its neighbours while a Call Controller is at work (R65). -/
theorem State.tellNeighbours_busy (busy : s.work.busy = true) (k : Nat) {c : ReportClass} (calm : c ≠ .fire)
    (x : RecordState) : Alike s (s.tellNeighbours k c x) ∧ (s.tellNeighbours k c x).queue.records = s.queue.records := by
  unfold State.tellNeighbours; dsimp only
  rw [if_neg calm, State.settlePressure_records]
  by_cases stranded : x = .stranded
  · subst stranded
    rw [if_pos rfl, if_neg (by decide), State.settleComm_queue, State.notice_queue]
    exact ⟨((Alike.notice s _).trans (.settleComm _)).trans (.settlePressure _), rfl⟩
  · rw [if_neg stranded]
    split
    · rw [State.handOn_busy busy]
      exact ⟨Alike.trans (t := s.noteWaiting k) ⟨rfl, rfl, rfl⟩ (.settlePressure _), rfl⟩
    · exact ⟨.settlePressure _, rfl⟩

/-- The entry of a LOSS record while a Call Controller is at work: one record more, at the end (R64). -/
theorem State.enter_loss (busy : s.work.busy = true) (n : Nat) :
    Alike s (s.enter lossReport true n) ∧
      ∃ x, (s.enter lossReport true n).queue.records = s.queue.records ++ [x] ∧ x.report = lossReport := by
  unfold State.enter; dsimp only
  generalize hq : s.setQueue _ = t
  have told := State.tellNeighbours_busy (s := t) (by rw [← hq]; exact busy)
    (freeTicket s.queue.records 34 s.queue.ticketCounter) (show lossReport.cls ≠ .fire by decide)
    (if (s.targetOf (s.buildPending (s.classRoute lossReport.cls) [])).isSome then .waiting else .stranded)
  refine ⟨Alike.trans (by rw [← hq]; exact ⟨rfl, rfl, rfl⟩) told.1, _, told.2.trans (by rw [← hq]; rfl), rfl⟩

/-- A record removed while a Call Controller is at work: its ticket is free but for a LOSS record that held losses make (R64, R71). -/
theorem State.removeRecord_busy (busy : s.work.busy = true) (r : Record) :
    Alike s (s.removeRecord r) ∧
      ∃ more, (s.removeRecord r).queue.records = (s.queue.records.filter fun x => x.ticket != r.ticket) ++ more ∧
        ∀ x ∈ more, x.report = lossReport := by
  have accounted : ∀ t, t = (if r.reserved then
        if s.queue.heldLosses = 0 then (s.without r.ticket).faultCleared .queueLoss 0
        else ((s.without r.ticket).setQueue { (s.without r.ticket).queue with heldLosses := 0 }).enter lossReport true
          (s.queue.heldLosses - 1)
      else s.without r.ticket) →
      Alike s t ∧ ∃ more, t.queue.records = (s.queue.records.filter fun x => x.ticket != r.ticket) ++ more ∧
        ∀ x ∈ more, x.report = lossReport := by
    rintro t rfl
    split
    · split
      · refine ⟨.of_work (by simp [State.without]) (by simp [State.without]), [], ?_, nofun⟩
        rw [State.faultCleared_queue, List.append_nil]; rfl
      · obtain ⟨entered, x, added, loss⟩ := State.enter_loss
          (s := (s.without r.ticket).setQueue { (s.without r.ticket).queue with heldLosses := 0 }) busy (s.queue.heldLosses - 1)
        exact ⟨⟨entered.lines, entered.busy, entered.exit⟩, [x], added, by simpa using loss⟩
    · exact ⟨⟨rfl, rfl, rfl⟩, [], by rw [List.append_nil]; rfl, nofun⟩
  obtain ⟨alike, more, records, loss⟩ := accounted _ rfl
  have comm (t : State) : Alike t (if r.state = .stranded then t.settleComm else t) ∧
      (if r.state = .stranded then t.settleComm else t).queue = t.queue := by
    split
    · exact ⟨.settleComm t, t.settleComm_queue⟩
    · exact ⟨⟨rfl, rfl, rfl⟩, rfl⟩
  have last (t : State) := (comm t).1.trans (.settlePressure _)
  exact ⟨(alike.trans (last _)).trans ⟨rfl, rfl, rfl⟩, more,
    (State.settlePressure_records.trans (congrArg Queue.records (comm _).2)).trans records, loss⟩

/-- A record returned while a Call Controller is at work. -/
theorem Alike.returnRecord (s : State) (k : Nat) : Alike s (s.returnRecord k) := by
  refine ⟨by simp, ?_, by simp⟩
  unfold State.returnRecord; split
  · rfl
  · split
    · dsimp only
      have busy (t : State) (x : RecordState) :
          (if x = .stranded then (t.notice (.stranded k)).settleComm else t.noteWaiting k).work.busy = t.work.busy := by
        split
        · simp
        · rfl
      rw [(Alike.settlePressure _).busy, busy, State.releaseHeld_work]; rfl
    · rfl

/-- A ticket's record that stands in the queue before what is added to it (R64). -/
theorem State.find_kept {j : Nat} {more : List Record} (found : s.find j = some r) (other : j ≠ k)
    (records : t.queue.records = (s.queue.records.filter fun x => x.ticket != k) ++ more) : t.find j = some r := by
  unfold State.find at *
  have stays : (fun x : Record => decide ((x.ticket != k) = true ∧ (x.ticket == j) = true)) = fun x => x.ticket == j := by
    funext x
    by_cases own : x.ticket = j
    · simp [own, other]
    · simp [own]
  rw [records, List.find?_append, List.find?_filter, stays, found]; rfl

theorem State.returnRecord_find {j : Nat} (found : s.find j = some r) (other : j ≠ k) : (s.returnRecord k).find j = some r := by
  cases own : s.find k with
  | none => unfold State.returnRecord; rw [own]; exact found
  | some y =>
    obtain ⟨g, records, keeps⟩ := State.returnRecord_records own
    rw [State.find_map records, found]
    · rw [Option.map_some, State.find_ticket found, if_neg other]
    · intro x; split
      · exact ticket_of_papers (keeps x).1
      · rfl

theorem State.modRecord_find {j : Nat} {f : Record → Record} (ticket : ∀ x, (f x).ticket = x.ticket) :
    (s.modRecord k f).find j = (s.find j).map fun x => if x.ticket = k then f x else x :=
  State.find_map rfl fun x => by
    split
    · exact ticket x
    · rfl


/-- The work on the record of ticket `k`: the records that other tickets find stay, and no report comes but the LOSS report. -/
structure Accepts (k : Nat) (s t : State) : Prop where
  alike : Alike s t
  others : ∀ j r, j ≠ k → s.find j = some r → t.find j = some r
  reports : ∀ x ∈ t.reports, x ∈ s.reports ∨ x.2 = lossReport

theorem Accepts.trans (h : Accepts k s t) (g : Accepts k t u) : Accepts k s u :=
  ⟨h.alike.trans g.alike, fun j r other found => g.others j r other (h.others j r other found), fun x hx =>
    (g.reports x hx).elim (h.reports x) .inr⟩

theorem Accepts.of_queue (alike : Alike s t) (queue : t.queue = s.queue) : Accepts k s t :=
  ⟨alike, fun j r _ found => by unfold State.find at *; rw [queue]; exact found,
    fun x hx => .inl (by unfold State.reports at *; rw [← queue]; exact hx)⟩

theorem Accepts.refl (s : State) : Accepts k s s := .of_queue ⟨rfl, rfl, rfl⟩ rfl

theorem Accepts.notice (s : State) (n : Notice) : Accepts k s (s.notice n) := .of_queue (.notice s n) (s.notice_queue n)

theorem Accepts.modRecord (s : State) {f : Record → Record} (entry : ∀ x, (f x).entry = x.entry) :
    Accepts k s (s.modRecord k f) := by
  refine ⟨⟨rfl, rfl, rfl⟩, fun j r other found => ?_, ?_⟩
  · rw [State.modRecord_find fun x => congrArg Prod.fst (entry x), found, Option.map_some,
      State.find_ticket found, if_neg other]
  · rw [State.reports_eq, State.modRecord_roster _ _ _ entry, ← State.reports_eq]
    exact fun _ => .inl

theorem Accepts.returnRecord (s : State) : Accepts k s (s.returnRecord k) := by
  refine ⟨.returnRecord s k, fun j r other found => State.returnRecord_find found other, ?_⟩
  rw [State.reports_eq, State.returnRecord_roster, ← State.reports_eq]
  exact fun _ => .inl

theorem Accepts.removeRecord (busy : s.work.busy = true) (number : r.ticket = k) : Accepts k s (s.removeRecord r) := by
  obtain ⟨gone, more, records, loss⟩ := State.removeRecord_busy busy r
  rw [number] at records
  refine ⟨gone, fun j y other found => State.find_kept found other records, fun x hx => ?_⟩
  rw [State.reports, records] at hx
  obtain ⟨y, hy, rfl⟩ := List.mem_map.1 hx
  rcases List.mem_append.1 hy with old | new
  · exact .inl (List.mem_map_of_mem (List.mem_of_mem_filter old))
  · exact .inr (loss y new)

/-- An EACH record that the receiver has accepted: the entry goes from the pending to the accepted list (R69). -/
def Record.acceptedBy (r : Record) (e : RxNo) (x : Record) : Record :=
  { x with pendingList := r.pendingList.erase e, acceptedList := x.acceptedList ++ [e] }

/-- The ACCEPT's mark on an EACH record, and its DELIVERED notice with the number of entries left (R69). -/
def State.acceptedBy (s : State) (r : Record) (e : RxNo) : State :=
  (s.modRecord r.ticket (r.acceptedBy e)).notice (.delivered r.ticket e (r.pendingList.erase e).length)

theorem State.acceptedBy_find (r : Record) (e : RxNo) (found : s.find r.ticket = some r) :
    (s.acceptedBy r e).find r.ticket = some (r.acceptedBy e r) := by
  have kept : (s.acceptedBy r e).find r.ticket = (s.modRecord r.ticket (r.acceptedBy e)).find r.ticket := by
    unfold State.find State.acceptedBy; rw [State.notice_queue]
  rw [kept, State.modRecord_find (f := r.acceptedBy e) fun _ => rfl, found, Option.map_some, if_pos rfl]

theorem Accepts.acceptedBy (s : State) (r : Record) (e : RxNo) : Accepts r.ticket s (s.acceptedBy r e) :=
  (Accepts.modRecord s (f := r.acceptedBy e) fun _ => rfl).trans (.notice _ _)

section found
variable (found : s.find k = some r)
include found

theorem State.acceptRecord_landed (landed : r.state ≠ .inFlight) : State.acceptRecord e s k = s := by
  unfold State.acceptRecord
  rw [found]; exact if_neg landed

variable (flies : r.state = .inFlight)
include flies

theorem State.acceptRecord_any (any : (s.t4 r.route).mode = .any) :
    State.acceptRecord e s k = (s.notice (.delivered k e 0)).removeRecord r := by
  unfold State.acceptRecord
  rw [found]; dsimp only
  rw [if_pos flies, any]

variable (each : (s.t4 r.route).mode = .each)
include each

theorem State.acceptRecord_last (last : e ∈ r.pendingList) (done : r.pendingList.erase e = []) :
    State.acceptRecord e s k = (s.acceptedBy r e).removeRecord r := by
  obtain rfl := State.find_ticket found
  unfold State.acceptRecord
  rw [found]; dsimp only
  rw [if_pos flies, each]; dsimp only
  rw [if_pos last, if_pos done, State.acceptedBy, done]
  unfold Record.acceptedBy; rw [done]; rfl

theorem State.acceptRecord_more (last : e ∈ r.pendingList) (more : r.pendingList.erase e ≠ []) :
    State.acceptRecord e s k = (s.acceptedBy r e).returnRecord k := by
  obtain rfl := State.find_ticket found
  unfold State.acceptRecord
  rw [found]; dsimp only
  rw [if_pos flies, each]; dsimp only
  rw [if_pos last, if_neg more]; rfl

theorem State.acceptRecord_other (other : e ∉ r.pendingList) : State.acceptRecord e s k = s.returnRecord k := by
  unfold State.acceptRecord
  rw [found]; dsimp only
  rw [if_pos flies, each]; exact if_neg other

end found

theorem State.acceptRecord_none (none : s.find k = none) : State.acceptRecord e s k = s := by
  unfold State.acceptRecord; rw [none]

/-- An ACCEPT of one record leaves the records that other tickets find, and adds no report but the LOSS report (R64, R69). -/
theorem Accepts.acceptRecord (busy : s.work.busy = true) (e : RxNo) (k : Nat) : Accepts k s (State.acceptRecord e s k) := by
  cases found : s.find k with
  | none => rw [State.acceptRecord_none found]; exact .refl s
  | some r =>
    obtain rfl := State.find_ticket found
    by_cases flies : r.state = .inFlight
    · cases mode : (s.t4 r.route).mode with
      | any =>
        rw [State.acceptRecord_any found flies mode]
        have told := Accepts.notice (k := r.ticket) s (.delivered r.ticket e 0)
        exact told.trans (.removeRecord (told.alike.busy.trans busy) rfl)
      | each =>
        by_cases last : e ∈ r.pendingList
        · have marked := Accepts.acceptedBy s r e
          by_cases done : r.pendingList.erase e = []
          · rw [State.acceptRecord_last found flies mode last done]
            exact marked.trans (.removeRecord (marked.alike.busy.trans busy) rfl)
          · rw [State.acceptRecord_more found flies mode last done]
            exact marked.trans (.returnRecord _)
        · rw [State.acceptRecord_other found flies mode last]
          exact .returnRecord s
    · rw [State.acceptRecord_landed found flies]; exact .refl s

/-- A record that the ACCEPT delivers leaves its ticket to no report but the LOSS report (R64, R69). -/
theorem State.acceptRecord_delivers (busy : s.work.busy = true) (found : s.find k = some r) (flies : r.state = .inFlight)
    (delivered : (s.t4 r.route).mode = .any ∨ (s.t4 r.route).mode = .each ∧ r.pendingList = [e]) :
    ∀ x ∈ (State.acceptRecord e s k).reports, x.1 = k → x.2 = lossReport := by
  obtain rfl := State.find_ticket found
  have gone (t : State) (busy : t.work.busy = true) : ∀ x ∈ (t.removeRecord r).reports, x.1 = r.ticket → x.2 = lossReport := by
    obtain ⟨-, more, records, loss⟩ := State.removeRecord_busy busy r
    intro x hx own
    rw [State.reports, records] at hx
    obtain ⟨y, hy, rfl⟩ := List.mem_map.1 hx
    rcases List.mem_append.1 hy with old | new
    · exact absurd own (by simpa using (List.mem_filter.1 old).2)
    · exact loss y new
  rcases delivered with any | ⟨each, last⟩
  · rw [State.acceptRecord_any found flies any]
    exact gone _ ((Alike.notice s _).busy.trans busy)
  · rw [State.acceptRecord_last found flies each (by simp [last]) (by simp [last])]
    exact gone _ ((Accepts.acceptedBy s r e).alike.busy.trans busy)

/-- An EACH record with other entries pending goes on to them (R69). -/
theorem State.acceptRecord_goesOn (found : s.find k = some r) (flies : r.state = .inFlight)
    (each : (s.t4 r.route).mode = .each) (pending : e ∈ r.pendingList) (others : r.pendingList ≠ [e]) :
    (State.acceptRecord e s k).Landed k (r.acceptedBy e r).papers := by
  obtain rfl := State.find_ticket found
  have more : r.pendingList.erase e ≠ [] := by
    intro none
    have length := List.length_erase_of_mem pending
    rw [none, List.length_nil] at length
    obtain ⟨x, one⟩ : ∃ x, r.pendingList = [x] := List.length_eq_one_iff.1 (by
      have := List.length_pos_of_mem pending; omega)
    rw [one, List.mem_singleton] at pending
    exact others (by rw [one, pending])
  rw [State.acceptRecord_more found flies each pending more]
  have marked := State.acceptedBy_find r e found
  obtain ⟨g, records, keeps⟩ := State.returnRecord_records marked
  refine ⟨g (r.acceptedBy e r), ?_, (keeps _).1, (keeps _).2 (.inr flies)⟩
  rw [State.find_map records, marked, Option.map_some]
  · exact congrArg some (if_pos rfl)
  · intro x; split
    · exact ticket_of_papers (keeps x).1
    · rfl

/-- What the ACCEPT of a ticket's record brings about, and the ACCEPT of every record keeps, holds once the block is worked through. -/
theorem State.applyAccept_reaches {Q : State → Prop} {tables : Tables} (ks : List Nat) (mem : k ∈ ks)
    (reaches : ∀ t : State, t.work.busy = true → t.tables = tables → t.find k = some r → Q (State.acceptRecord e t k))
    (keeps : ∀ (t : State) (j : Nat), t.work.busy = true → Q t → Q (State.acceptRecord e t j))
    (busy : s.work.busy = true) (own : s.tables = tables) (found : s.find k = some r) : Q (s.applyAccept e ks) := by
  have kept : ∀ (js : List Nat) (t : State), t.work.busy = true → Q t → Q (t.applyAccept e js) := by
    intro js
    induction js with
    | nil => exact fun _ _ => id
    | cons j js ih =>
      exact fun t busy q => ih _ ((Accepts.acceptRecord busy e j).alike.busy.trans busy) (keeps t j busy q)
  induction ks generalizing s with
  | nil => cases mem
  | cons j ks ih =>
    have next := Accepts.acceptRecord busy e j
    have busy' := next.alike.busy.trans busy
    by_cases first : k = j
    · subst first
      exact kept ks _ busy' (reaches s busy own found)
    · refine ih ((List.mem_cons.1 mem).resolve_left first) busy' ?_ (next.others k r first found)
      exact (congrArg Base.tables (base_of_calm (State.acceptRecord_calm s e j))).trans own

theorem Alike.applyAccept (busy : s.work.busy = true) (ks : List Nat) : Alike s (s.applyAccept e ks) := by
  induction ks generalizing s with
  | nil => exact ⟨rfl, rfl, rfl⟩
  | cons k ks ih =>
    have first := (Accepts.acceptRecord busy e k).alike
    exact first.trans (ih (first.busy.trans busy))

end accept

end Sys2Proof.Machine
end

section
/-! A block that an ACCEPT delivers: what it leaves of line, receiver and queue, and the end of the call or the gap after it (R69, R87, R127, R144, R146). -/

namespace Sys2Proof.Machine

/-- The call once its block is accepted (R144, log 41). -/
def Call.accepted (c : Call) : Call := { c with blocksAccepted := min 255 (c.blocksAccepted + 1), sendCount := none }

/-- The line once the block of its call `c` is accepted. -/
def Line.accepted (x : Line) (c : Call) : Line := { x with call := some c.accepted, sending := Slot.empty }

/-- The records of the block are worked through (R69, R144). -/
def State.blockHeard (s : State) (l : LineNo) (e : RxNo) : State :=
  ((s.setBusy true).modCall l Call.accepted).applyAccept e
    (((s.setBusy true).modCall l Call.accepted).line l).sending.tickets

/-- The block has been delivered: the failures are 0 and SENDING is empty (R87, R144). -/
def State.blockDelivered (s : State) (l : LineNo) (e : RxNo) : State :=
  ((s.blockHeard l e).resetFailures e).setSlots l Slot.empty ((s.blockHeard l e).line l).next

/-- How the call goes on from a block accepted, its context before being `c` (R144, R146). -/
def State.afterBlock (s : State) (l : LineNo) (c : Call) : State :=
  if c.lendPending || c.cutShort then s.giveResult l .cutShort
  else if (s.line l).next.tickets = [] then s.giveResult l .complete
  else s.enterState l (.exchange .gap) gapTime

theorem State.acceptBlock_eq (s : State) (l : LineNo) (c : Call) (e : RxNo) :
    s.acceptBlock l c e = (((s.blockDelivered l e).afterBlock l c).setBusy false).drain := rfl

section delivered
variable {s : State} {l : LineNo} {c : Call} {e : RxNo}

theorem State.modCall_line (f : Call → Call) (call : s.call l = some c) :
    (s.modCall l f).line l = { s.line l with call := some (f c) } := by
  rw [State.modCall, call, State.setCall, State.setLine_line_same]; rfl

/-- The block's work leaves the clock, asks for no exit, and ends with no failures and SENDING empty. -/
theorem State.blockDelivered_facts (call : s.call l = some c) :
    (s.blockDelivered l e).line l = (s.line l).accepted c ∧ (s.blockDelivered l e).now = s.now ∧
      (s.blockDelivered l e).work.exitDue = s.work.exitDue ∧ ((s.blockDelivered l e).rx e).failures = 0 := by
  have begun : ((s.setBusy true).modCall l Call.accepted).line l = { s.line l with call := some c.accepted } :=
    State.modCall_line (s := s.setBusy true) Call.accepted call
  have alike : Alike ((s.setBusy true).modCall l Call.accepted) (s.blockHeard l e) := Alike.applyAccept rfl _
  have heard := (State.line_congr alike.lines l).trans begun
  refine ⟨?_, congrArg Base.now (base_of_calm (State.applyAccept_calm _ e _)), alike.exit, ?_⟩
  · have kept : ((s.blockHeard l e).resetFailures e).line l = (s.blockHeard l e).line l := rfl
    rw [State.blockDelivered, State.setSlots_line, if_pos rfl, kept, heard]; rfl
  · exact congrArg RxStatus.failures (State.setRx_rx_same _ e _)

/-- What the end of the call, or the gap, keeps of a block delivered. -/
structure Carried (s t : State) : Prop where
  filed : Filed s t
  roster : t.roster = s.roster
  receivers : t.receivers = s.receivers
  exit : t.work.exitDue = s.work.exitDue

theorem Carried.releaseCall (s : State) (l : LineNo) (c : Call) (x : CallResult) : Carried s (s.releaseCall l c x) where
  filed := Filed.refl.releaseCall l c x
  roster := State.releaseCall_roster c x
  receivers := by
    have returned : (s.recordsBack l).calm = ((s.setBusy true).setSender l none).calm := by
      rw [State.recordsBack, State.returnAll_calm, State.returnAll_calm]
    have begun : (s.releaseBegun l c x).receivers = (s.recordsBack l).receivers := by
      simp [State.releaseBegun, State.setBusy]
    have drained : (s.releaseCall l c x).calm = (s.releaseBegun l c x).calm := State.drain_calm _
    have back : (s.recordsBack l).receivers = ((s.setBusy true).setSender l none).receivers := congrArg Calm.receivers returned
    have ended : (s.releaseCall l c x).receivers = (s.releaseBegun l c x).receivers := congrArg Calm.receivers drained
    rw [ended, begun, back]; rfl
  exit := State.releaseCall_exitDue

theorem Carried.enterState (s : State) (l : LineNo) (x : CallState) (ms : Nat) : Carried s (s.enterState l x ms) :=
  ⟨Filed.refl.same rfl, rfl, rfl, rfl⟩

/-- The end of a command's work keeps every receiver's failures. -/
theorem State.settle_failures (exit : s.work.exitDue = false) : (s.settle.rx e).failures = (s.rx e).failures := by
  have drained : s.drain.rx e = s.rx e := congrArg (fun v => Vector.get v e) (congrArg Calm.receivers s.drain_calm)
  rw [State.settle, s.settleExit_idle exit, ← drained]
  exact ((State.actFuel_act 64 s.drain).2.2 e).1

/-- The block's work comes to its end, and the command's. -/
def State.blockOver (s : State) : State := (s.setBusy false).drain.settle

section ends
variable {t : State} (h : Carried s t) (idle : s.work.exitDue = false)
include h idle

theorem Carried.exit_drained : (t.setBusy false).drain.work.exitDue = false :=
  (State.drain_exitDue (t.setBusy false)).trans (h.exit.trans idle)

theorem Carried.filed_over : Filed s t.blockOver :=
  Filed.settle (Filed.drain (t := t.setBusy false) (h.filed.same rfl)) (h.exit_drained idle)

theorem Carried.reports_over : t.blockOver.reports = s.reports :=
  reports_of_roster (((State.settle_roster (h.exit_drained idle)).trans (State.drain_roster _)).trans h.roster)

theorem Carried.failures_over : (t.blockOver.rx e).failures = (s.rx e).failures := by
  have drained : (t.setBusy false).drain.rx e = s.rx e := congrArg (fun v => Vector.get v e)
    ((congrArg Calm.receivers (State.drain_calm (t.setBusy false))).trans h.receivers)
  rw [State.blockOver, State.settle_failures (h.exit_drained idle), drained]

variable (occupancy : (t.ctl l).occupancy = .call) (lend : (t.ctl l).lend ≠ .lent)
include occupancy lend

/-- The line in CALL keeps its call and an empty SENDING through the recompositions and the acts. -/
theorem Carried.line_over : t.blockOver.call l = t.call l ∧ (t.blockOver.line l).sending = (t.line l).sending := by
  have drained (u : State) (c : (u.ctl l).occupancy = .call) (d : (u.ctl l).lend ≠ .lent) :
      (u.drain.ctl l).occupancy = .call ∧ (u.drain.ctl l).lend ≠ .lent := by
    rw [ctl_of_calm u.drain_calm l]; exact ⟨c, d⟩
  obtain ⟨o, d⟩ := drained (t.setBusy false) occupancy lend
  obtain ⟨o', d'⟩ := drained (t.setBusy false).drain o d
  have exit := h.exit_drained idle
  constructor
  · rw [State.blockOver, State.settle_call exit (congrArg Occupancy.searched o) d]
    exact call_of_calm (State.drain_calm _) l
  · obtain ⟨-, -, parked⟩ := (parked_kept _ _).settle_drained exit ⟨congrArg Occupancy.searched o', d', rfl⟩
    obtain ⟨-, -, -, sending, -⟩ := parked_line parked
    exact sending.trans ((State.drain_sending _ l).trans (State.drain_sending _ l))

end ends

/-! ### How the call goes on (R144, R146) -/

/-- How a call whose block is accepted stands once it has ended or waits for its gap. -/
structure GoesOn (s t : State) (l : LineNo) (c c1 : Call) (next : List Nat) : Prop where
  carried : Carried s t
  ctl : t.ctl l = s.ctl l
  sending : (t.line l).sending.tickets = []
  call : t.call l = some c1
  blocks : c1.blocksAccepted = c.blocksAccepted
  cut : c.lendPending = true ∨ c.cutShort = true → c1.state = .release ∧ c1.result = some .cutShort
  complete : c.lendPending = false → c.cutShort = false → next = [] → c1.state = .release ∧ c1.result = some .complete
  gap : c.lendPending = false → c.cutShort = false → next ≠ [] →
    c1.state = .exchange .gap ∧ c1.stateTimer = some (s.now + 250) ∧ c1.result = c.result

variable {k : Call} {p : Phase} (call : s.call l = some k) (state : k.state = .exchange p)
include call state

theorem State.giveResult_report (purpose : k.purpose = .report) (x : CallResult) :
    s.giveResult l x = s.releaseCall l k x := by
  rw [State.giveResult_releases call (by rw [state]; nofun) (by rw [state]; nofun)]
  unfold Call.resultOf; rw [purpose]

theorem State.afterBlock_goesOn (purpose : k.purpose = .report) (sending : (s.line l).sending.tickets = [])
    (flags : (c.lendPending, c.cutShort) = (k.lendPending, k.cutShort)) :
    ∃ c1, GoesOn s (s.afterBlock l c) l k c1 (s.line l).next.tickets := by
  obtain ⟨lendPending, cutShort⟩ := Prod.mk.injEq .. ▸ flags
  have released (x : CallResult) := State.releaseCall_line (s := s) (l := l) (c := k) (res := x)
  unfold State.afterBlock
  rw [lendPending, cutShort]
  by_cases flagged : (k.lendPending || k.cutShort) = true
  · rw [if_pos flagged, State.giveResult_report call state purpose]
    have line := released .cutShort
    have not : k.lendPending = false → k.cutShort = false → False := fun a b => by simp [a, b] at flagged
    exact ⟨_, .releaseCall s l k _, by rw [State.ctl, line]; rfl, congrArg (fun x => x.sending.tickets) line,
      congrArg Line.call line, rfl, fun _ => ⟨rfl, rfl⟩, fun a b => (not a b).elim, fun a b => (not a b).elim⟩
  · have clear : ¬(k.lendPending = true ∨ k.cutShort = true) := by simpa using flagged
    rw [if_neg flagged]
    by_cases none : (s.line l).next.tickets = []
    · rw [if_pos none, State.giveResult_report call state purpose]
      have line := released .complete
      exact ⟨_, .releaseCall s l k _, by rw [State.ctl, line]; rfl, congrArg (fun x => x.sending.tickets) line,
        congrArg Line.call line, rfl, fun h => (clear h).elim, fun _ _ _ => ⟨rfl, rfl⟩, fun _ _ some => (some none).elim⟩
    · rw [if_neg none]
      have line := State.modCall_line (fun c => { c with state := .exchange .gap, stateTimer := some (s.now + gapTime) }) call
      exact ⟨_, .enterState s l _ _, by rw [State.ctl, State.enterState, line]; rfl, (congrArg (fun x => x.sending.tickets) line).trans sending,
        congrArg Line.call line, rfl, fun h => (clear h).elim, fun _ _ h => (none h).elim, fun _ _ _ => ⟨rfl, rfl, rfl⟩⟩

end delivered

/-! ### The segment that is an ACCEPT -/

section heard
variable {t : Nat} {line : LineNo} {c : Call} {e : RxNo} {opened onset stop : Nat} {s : State}

/-- The call that has heard a segment end (R116). -/
def Call.heard (c : Call) (b : Band) (ms stop : Nat) : Call :=
  { c with tone := { c.tone with openSegment := none, lastEnd := some (b, ms, stop) } }

/-- The line when the counting segment has ended. -/
def Line.heard (x : Line) (c : Call) (ms stop : Nat) : Line :=
  { x with
    detector := { x.detector with segment := none }
    call := some (c.heard .t2 ms stop) }

theorem State.toneReport_reply {l : LineNo} (call : s.call l = some c) (state : c.state = .exchange (.reply opened))
    (b : Band) (ms : Nat) :
    s.toneReport l (.ended b ms onset stop) =
      (s.setCall l (some (c.heard b ms stop))).replyEnd l (c.heard b ms stop) opened b ms onset := by
  cases c
  cases state
  unfold State.toneReport
  rw [call]; rfl

/-- A segment of T2 begun in the reply window, 600 to 1100 ms long, is an ACCEPT (R141). -/
theorem State.replyEnd_accept {l : LineNo} {ms : Nat} (receiver : c.receiver = some e) (after : opened ≤ onset)
    (within : onset ≤ opened + 1500) (long : 600 ≤ ms) (short : ms ≤ 1100) :
    s.replyEnd l c opened .t2 ms onset = s.acceptBlock l c e := by
  have counts : counting opened .t2 onset = true := by simp [counting, replyWindow, after, within]
  unfold State.replyEnd
  rw [counts, decide_eq_true long, decide_eq_true short, if_pos (by rfl), receiver]

theorem exec_acceptEnded (call : s.call line = some c) (state : c.state = .exchange (.reply opened))
    (receiver : c.receiver = some e) (listening : (s.line line).detector.listening = true)
    (hears : (s.line line).detector.muted = false)
    (segment : (s.line line).detector.segment = some { band := .t2, onset, stopped := some stop })
    (since : (s.line line).detector.since = ⟨none, none, none⟩) (absent : stop + 20 ≤ max s.now t)
    (after : opened ≤ onset) (within : onset ≤ opened + 1500) (long : 600 ≤ stop - onset) (short : stop - onset ≤ 1100) :
    exec (.toneEnded t line) s = .next
      (((s.advance t).setLine line ((s.line line).heard c (stop - onset) stop)).acceptBlock line
        (c.heard .t2 (stop - onset) stop) e).settle := by
  have ended := Detector.ended_reports (now := max s.now t) listening hears segment rfl absent
  have none : successor (s.line line).detector.since stop = none := by rw [successor_eq, since]; rfl
  have ms : min (stop - onset) 65535 = stop - onset := by omega
  rw [none] at ended
  show execToneEnded t line s = _
  unfold execToneEnded; dsimp only
  rw [show ((s.advance t).detector line).ended (s.advance t).now = _ from ended]
  dsimp only [Option.map_none]
  rw [ms, show ∀ u : State, u.followingOnset line Option.none = u from fun _ => rfl]
  have heard : (((s.advance t).setDetector line { (s.line line).detector with segment := Option.none }).call line) = some c := by
    rw [State.setDetector, State.setLine_call]; exact call
  rw [State.toneReport_reply heard state, State.replyEnd_accept (c := c.heard .t2 (stop - onset) stop) receiver after within long short, State.setDetector,
    State.setLine_setCall]
  rfl

end heard

/-- Among distinct tickets a record is the one its ticket finds (R58). -/
theorem find_of_mem {rs : List Record} {r : Record} (distinct : (rs.map Record.ticket).Nodup) (mem : r ∈ rs) :
    (rs.find? fun x => x.ticket == r.ticket) = some r := by
  have some : (rs.find? fun x => x.ticket == r.ticket).isSome = true := List.find?_isSome.2 ⟨r, mem, by simp⟩
  obtain ⟨x, found⟩ := Option.isSome_iff_exists.1 some
  rw [found, record_eq_of_ticket distinct (List.mem_of_find?_eq_some found) mem (by simpa using List.find?_some found)]

/-- A record that the block holds no longer is left alone by the ACCEPT of the others, and of itself (R69). -/
theorem State.Landed.acceptRecord {s : State} {k : Nat} {p : Nat × Report × List RxNo × List RxNo} {e : RxNo}
    (h : s.Landed k p) (busy : s.work.busy = true) (j : Nat) : (State.acceptRecord e s j).Landed k p := by
  obtain ⟨y, found, papers, landed⟩ := h
  by_cases own : k = j
  · subst own
    rw [State.acceptRecord_landed found landed]
    exact ⟨y, found, papers, landed⟩
  · exact ⟨y, (Accepts.acceptRecord busy e j).others k y own found, papers, landed⟩

/-! ### The block's records (R69) -/

section records
variable {s : State} {l : LineNo} {c : Call} {e : RxNo} {r : Record} (call : s.call l = some c) (distinct : s.Distinct)
  (mem : r ∈ s.queue.records) (held : r.ticket ∈ (s.line l).sending.tickets)
include call distinct mem held

/-- What the ACCEPT of an IN-FLIGHT record of the block brings about, and the ACCEPT of every record keeps, holds of the block delivered. -/
theorem State.blockHeard_reaches {Q : State → Prop}
    (reaches : ∀ t : State, t.work.busy = true → t.tables = s.tables → t.find r.ticket = some r →
      Q (State.acceptRecord e t r.ticket))
    (keeps : ∀ (t : State) (j : Nat), t.work.busy = true → Q t → Q (State.acceptRecord e t j)) : Q (s.blockHeard l e) := by
  refine State.applyAccept_reaches _ ?_ reaches keeps rfl rfl (find_of_mem distinct mem)
  rw [State.modCall_line (s := s.setBusy true) Call.accepted call]; exact held

variable (flies : r.state = .inFlight)
include flies

theorem State.blockDelivered_delivers
    (mode : (s.t4 r.route).mode = .any ∨ (s.t4 r.route).mode = .each ∧ r.pendingList = [e]) :
    ∀ x ∈ (s.blockDelivered l e).reports, x.1 = r.ticket → x.2 = lossReport :=
  State.blockHeard_reaches (Q := fun t => ∀ x ∈ t.reports, x.1 = r.ticket → x.2 = lossReport) call distinct mem held
    (fun _ busy same found => State.acceptRecord_delivers busy found flies (by unfold State.t4; rw [same]; exact mode))
    fun _ j busy none x hx own => ((Accepts.acceptRecord busy e j).reports x hx).elim (none x · own) id

theorem State.blockDelivered_goesOn (each : (s.t4 r.route).mode = .each) (pending : e ∈ r.pendingList)
    (others : r.pendingList ≠ [e]) : (s.blockDelivered l e).Landed r.ticket (r.acceptedBy e r).papers := by
  have landed := State.blockHeard_reaches (e := e) (Q := fun t => t.Landed r.ticket (r.acceptedBy e r).papers) call distinct
    mem held
    (fun _ _ same found => State.acceptRecord_goesOn found flies (by unfold State.t4; rw [same]; exact each) pending others)
    fun _ j busy landed => landed.acceptRecord busy j
  exact landed.filed (Filed.refl.same rfl)

end records

/-- Settles O45: the records by `acceptRecord_delivers` and `acceptRecord_goesOn`, the call by `afterBlock_goesOn`. -/
theorem acceptDeliversTheBlock : Obligations.AcceptDeliversTheBlock := by
  intro t line c e opened onset stop s rested call state receiver purpose calling occupancy lend distinct lossKept x
    listening hears segment since absent after within long short
  have served := exec_acceptEnded call state receiver listening hears segment since absent after within long short
  rw [State.acceptBlock_eq] at served
  generalize hv : (s.advance t).setLine line ((s.line line).heard c (stop - onset) stop) = v at served
  have own : v.line line = (s.line line).heard c (stop - onset) stop := by rw [← hv, State.setLine_line_same]
  have called : v.call line = some _ := congrArg Line.call own
  obtain ⟨delivered, now, exit, failures⟩ := State.blockDelivered_facts (e := e) called
  have idle : (v.blockDelivered line e).work.exitDue = false := by
    rw [exit, ← hv]; exact Rested.exitDue rested
  rw [own] at delivered
  have block {r : Record} (held : r.ticket ∈ x.sending.tickets) : r.ticket ∈ (v.line line).sending.tickets := by
    rw [own]; exact held
  have queue : v.queue = s.queue := by rw [← hv]; rfl
  have routes : v.tables = s.tables := by rw [← hv]; rfl
  have distinct' : v.Distinct := by unfold State.Distinct; rw [queue]; exact distinct
  have delivers (r : Record) := State.blockDelivered_delivers (r := r) (e := e) called distinct'
  have returns (r : Record) := State.blockDelivered_goesOn (r := r) (e := e) called distinct'
  unfold State.t4 at delivers returns
  rw [queue, routes] at delivers returns
  generalize v.blockDelivered line e = d at *
  obtain ⟨c1, goesOn⟩ := State.afterBlock_goesOn (s := d) (l := line)
    (c := c.heard .t2 (stop - onset) stop)
    (congrArg Line.call delivered) state purpose (congrArg (fun y => y.sending.tickets) delivered) rfl
  have ctl : (d.afterBlock line _).ctl line = s.ctl line := goesOn.ctl.trans (by rw [State.ctl, delivered]; rfl)
  obtain ⟨call', sending⟩ := goesOn.carried.line_over idle (by rw [ctl]; exact occupancy) (by rw [ctl]; exact lend)
  refine ⟨_, served, (goesOn.carried.failures_over idle).trans failures,
    ⟨c1, call'.trans goesOn.call, goesOn.blocks, goesOn.cut, ?_, ?_⟩,
    (congrArg Slot.tickets sending).trans goesOn.sending, ?_⟩
  · exact fun a b none => goesOn.complete a b (by rw [delivered]; exact none)
  · intro a b some
    obtain ⟨gap, timer, result⟩ := goesOn.gap a b (by rw [delivered]; exact some)
    refine ⟨gap, ?_, result⟩
    rw [timer, now, ← hv]; rfl
  · intro r mem flies held
    have gone : r.reserved = false → ((s.t4 r.route).mode = .any ∨ (s.t4 r.route).mode = .each ∧ r.pendingList = [e]) →
        (r.ticket, r.report) ∉ (State.blockOver (d.afterBlock line (c.heard .t2 (stop - onset) stop))).reports := by
      intro ordinary mode shown
      rw [goesOn.carried.reports_over idle] at shown
      have lost := (lossKept r mem).2 (delivers r mem (block held) flies mode _ shown rfl)
      rw [ordinary] at lost
      cases lost
    refine ⟨fun any ordinary => gone ordinary (.inl any), fun each last ordinary => gone ordinary (.inr ⟨each, last⟩),
      fun each pending others => ?_⟩
    obtain ⟨y, found, papers, down⟩ := (returns r mem (block held) flies each pending others).filed
      (goesOn.carried.filed_over idle)
    obtain ⟨ticket, report, rest, accepted⟩ : y.ticket = r.ticket ∧ y.report = r.report ∧
        y.pendingList = r.pendingList.erase e ∧ y.acceptedList = r.acceptedList ++ [e] := by
      simpa [Record.papers, Record.acceptedBy] using papers
    exact ⟨y, List.mem_of_find?_eq_some found, ticket, report, down, rest, accepted⟩

end Sys2Proof.Machine
end

section
/-! SET of one entry (R167): the request, the entry written, and what the response leaves; and the fault list's entries one by one (R161). -/

namespace Sys2Proof.Machine

/-! ### The request -/

section request
variable {s : State} {table first : Nat} {a b : Byte} {image : List Byte} {new : Tables} {f : Bool}

theorem pieces_one {n : Nat} (size : image.length = n) : pieces n 1 image = [image] := by
  subst size
  simp [pieces]

/-- A SET of one entry that every check passes writes the entry and does what its owner does (R167). -/
theorem State.writeTables_one (range : rangeOk table first 1 = true)
    (mode : table = 3 ∨ table = 4 ∨ table = 5 → s.mode = .service) (save : s.save = none)
    (size : image.length = entrySize table) (fitted : table = 2 → first - 1 < s.fitted)
    (written : s.tables.write table (first - 1) image = some (new, f))
    (chain : table = 3 ∨ table = 4 → chainKept s.tables new = true) :
    (s.writeTables table first 1 image).1 = (s.setTables new).afterSet table s.tables := by
  have operate : ¬((table = 3 ∨ table = 4 ∨ table = 5) ∧ s.mode = .operate) := fun h => by
    have service := mode h.1
    rw [h.2] at service; cases service
  have skip : decide (table = 2 ∧ s.fitted ≤ first - 1) = false := decide_eq_false fun h => by
    have := fitted h.1; omega
  have unbroken : ¬((table = 3 ∨ table = 4) ∧ chainKept s.tables new = false) := fun h => by
    rw [chain h.1] at h; cases h.2
  unfold State.writeTables
  rw [range, if_neg (by decide), if_neg operate, save, if_neg (by decide), pieces_one size]
  simp only [Tables.writeAll, written, skip, Bool.false_eq_true, if_false, Option.map_some]
  rw [if_neg unbroken]

variable {t : Nat} {x : Byte}

theorem setLengthOk_one (number : a.toNat = table) (size : image.length = entrySize table) :
    setLengthOk (a :: b :: 1 :: image) = true := by
  have length : (a :: b :: 1 :: image).length = 3 + entrySize table := by simp [size]; omega
  have count : argument (a :: b :: 1 :: image) 2 = 1 := rfl
  have kind : argument (a :: b :: 1 :: image) 0 = table := number
  unfold setLengthOk
  rw [length, count, kind]
  simp

theorem exec_set_one (asked : s.Asked 0x31 (a :: b :: 1 :: image)) (number : a.toNat = table) (place : b.toNat = first)
    (range : rangeOk table first 1 = true) (mode : table = 3 ∨ table = 4 ∨ table = 5 → s.mode = .service)
    (save : s.save = none) (size : image.length = entrySize table)
    (fitted : table = 2 → first - 1 < s.fitted)
    (written : s.tables.write table (first - 1) image = some (new, f))
    (chain : table = 3 ∨ table = 4 → chainKept s.tables new = true) :
    ∃ w, exec (.set t (a :: b :: 1 :: image)) s =
      .next ((((s.advance t).setTables new).afterSet table s.tables).settle.respond 0x31 w) := by
  have done := State.writeTables_one (s := s.advance t) range mode save size fitted written chain
  refine ⟨((s.advance t).writeTables table first 1 image).2, ?_⟩
  show execSet t (a :: b :: 1 :: image) s = _
  unfold execSet
  rw [State.serve_asked (s := s.advance t) asked, setLengthOk_one number size, if_pos rfl]
  show Host.Outcome.next (State.respond (State.settle ((s.advance t).writeTables a.toNat b.toNat 1 image).1) 0x31
    ((s.advance t).writeTables a.toNat b.toNat 1 image).2) = _
  rw [number, place, done]
  rfl

end request

/-! ### What the response leaves -/

section respond
variable (s : State) (kind : Byte) (w : Answer)

theorem Link.transmit_faults (k : Link) : k.transmit.faults = k.faults := by
  unfold Link.transmit; split
  · split <;> rfl
  · rfl

theorem State.respond_faults : (s.respond kind w).link.faults = s.link.faults := Link.transmit_faults _

/-- A response begins before a notice (R160). -/
theorem State.respond_notices : (s.respond kind w).link.notices = s.link.notices := by
  unfold State.respond Link.transmit
  cases h : s.link.transmitter <;> simp [h]

end respond

/-! ### One entry of the fault list reported (R161) -/

section faults
variable {s : State} {k : FaultKind} {i : Nat}

/-- Another entry of the list stays as it is. -/
theorem mem_setFault_other {fs : List FaultEntry} {x : FaultEntry} (other : ¬(x.kind = k ∧ x.inst = i)) (b : Bool) :
    x ∈ setFault fs k i b ↔ x ∈ fs := by
  have own : ∀ y : FaultEntry, (if y.kind == k && y.inst == i then { y with active := b } else y) = x ↔ y = x := by
    intro y
    by_cases same : y.kind = k ∧ y.inst = i
    · obtain ⟨kind, inst⟩ := same
      rw [if_pos (by simp [kind, inst])]
      refine ⟨fun e => ?_, fun e => ?_⟩
      · exact (other (by rw [← e]; exact ⟨kind, inst⟩)).elim
      · exact (other (by rw [← e]; exact ⟨kind, inst⟩)).elim
    · rw [if_neg (by simpa using same)]
  unfold setFault
  simp only [List.mem_map, own, exists_eq_right]

theorem State.faultActive_mem_other {x : FaultEntry} (other : ¬(x.kind = k ∧ x.inst = i)) :
    x ∈ (s.faultActive k i).link.faults ↔ x ∈ s.link.faults := by
  unfold State.faultActive; split
  · rw [State.notice_faults]
    have new : x ≠ { kind := k, inst := i, active := true } := fun e => other (by rw [e]; exact ⟨rfl, rfl⟩)
    simp [State.setFaults, new]
  · split
    · rfl
    · rw [State.notice_faults]; exact mem_setFault_other other true

theorem State.faultCleared_mem_other {x : FaultEntry} (other : ¬(x.kind = k ∧ x.inst = i)) :
    x ∈ (s.faultCleared k i).link.faults ↔ x ∈ s.link.faults := by
  unfold State.faultCleared; split
  · rfl
  · split
    · rw [State.notice_faults]; exact mem_setFault_other other false
    · rfl

end faults

end Sys2Proof.Machine
end

section
/-! Routes and their chains (R81, R82): the walk against the chains that the settings have, and the fault entries of the routes. -/

namespace Sys2Proof.Machine

/-! ### The walk of a chain (R81) -/

section walk
variable {t3 : Vector T3 12} {head current : Nat} {done rest : List RxNo} {e : RxNo}

theorem ofNum_num {n : Nat} (i : Fin n) : ofNum n (num i) = some i := by
  have small := i.isLt
  unfold ofNum num
  rw [dif_pos ⟨by omega, by omega⟩]
  simp

theorem num_of_ofNum {n k : Nat} {i : Fin n} (h : ofNum n k = some i) : num i = k := by
  unfold ofNum at h; split at h
  · cases h; unfold num; dsimp only; omega
  · cases h

theorem ofNum_none {n k : Nat} (h : ofNum n k = none) (bound : k ≤ n) : k = 0 := by
  unfold ofNum at h; split at h
  · cases h
  · omega

theorem passes_append : ∀ {head : Nat} {done : List RxNo}, Passes t3 head done (num e) → (t3[e.val]).dialNumber ≠ [] →
    Passes t3 head (done ++ [e]) (t3[e.val]).next
  | _, [], here, dial => ⟨here, dial, rfl⟩
  | _, _ :: _, ⟨own, dials, passes⟩, dial => ⟨own, dials, passes_append passes dial⟩

theorem passes_dials : ∀ {head last : Nat} {done : List RxNo}, Passes t3 head done last → e ∈ done →
    (t3[e.val]).dialNumber ≠ []
  | _, _, _ :: _, ⟨_, dials, passes⟩, mem => by
    rcases List.mem_cons.1 mem with rfl | mem
    · exact dials
    · exact passes_dials passes mem

theorem passes_bound {n : Nat} (next : ∀ i : RxNo, (t3[i.val]).next ≤ n) :
    ∀ {head last : Nat} {done : List RxNo}, head ≤ n → Passes t3 head done last → last ≤ n
  | _, _, [], bound, here => here ▸ bound
  | _, _, e :: _, _, ⟨_, _, passes⟩ => passes_bound next (next e) passes

/-- The first entries that a walk passes, and the one after them. -/
theorem passes_take : ∀ {head last : Nat} {done : List RxNo} {x : RxNo} {rest : List RxNo},
    Passes t3 head (done ++ x :: rest) last → Passes t3 head done (num x)
  | _, _, [], _, _, ⟨own, _, _⟩ => own
  | _, _, _ :: _, _, _, ⟨own, dials, passes⟩ => ⟨own, dials, passes_take passes⟩

/-- A walk goes along the entries that the settings pass. -/
theorem walkFrom_passes : ∀ {rest done : List RxNo} {current last : Nat} (fuel : Nat), Passes t3 current rest last →
    (done ++ rest).Nodup → (done ++ rest).length ≤ 4 →
    walkFrom t3 (fuel + rest.length) current done = walkFrom t3 fuel last (done ++ rest)
  | [], done, _, _, fuel, here, _, _ => by
    have same : _ = _ := here
    rw [same, List.append_nil]; rfl
  | e :: rest, done, _, _, fuel, ⟨own, dials, passes⟩, distinct, short => by
    have fresh : e ∉ done := fun mem => by
      have apart := (List.nodup_append.1 distinct).2.2
      exact apart e mem e List.mem_cons_self rfl
    have room : ¬4 ≤ done.length := by simp at short; omega
    rw [List.append_cons] at distinct short ⊢
    rw [← walkFrom_passes fuel passes distinct short]
    show walkFrom t3 (fuel + rest.length + 1) _ done = _
    conv => lhs; unfold walkFrom
    rw [own, ofNum_num]; dsimp only
    rw [if_neg room, if_neg dials, if_neg fresh]

/-- What the end of a walk says of the settings, with its last entry to follow. -/
def WalkEnd.Says (t3 : Vector T3 12) (head : Nat) : WalkEnd → Prop
  | .valid chain => chain ≠ [] ∧ chain.length ≤ 4 ∧ chain.Nodup ∧ ∃ last, ofNum 12 last = none ∧ Passes t3 head chain last
  | .tooLong | .loop => WalkBreaks t3 head
  | .noHead | .emptyDial => True

theorem walkFrom_says : ∀ {fuel current : Nat} {done : List RxNo}, done.length + fuel = 6 → done.length ≤ 4 → done.Nodup →
    Passes t3 head done current → (walkFrom t3 fuel current done).Says t3 head
  | 0, _, _, count, short, _, _ => by omega
  | fuel + 1, current, done, count, short, distinct, passes => by
    unfold walkFrom; split
    · next last =>
      split
      · trivial
      · next some => exact ⟨some, short, distinct, current, last, passes⟩
    · next e here =>
      obtain rfl := num_of_ofNum here
      split
      · next full => exact ⟨done, e, distinct, passes, .inl (by omega)⟩
      · split
        · trivial
        · next dial =>
          split
          · next met => exact ⟨done, e, distinct, passes, .inr met⟩
          · next room _ fresh =>
            refine walkFrom_says (by simp; omega) (by simp; omega) ?_ (passes_append passes dial)
            rw [List.nodup_append]
            refine ⟨distinct, List.nodup_singleton e, ?_⟩
            rintro a mem b hb rfl
            exact fresh (List.mem_singleton.1 hb ▸ mem)

theorem walk_says (t3 : Vector T3 12) (head : Nat) : (walk t3 head).Says t3 head :=
  walkFrom_says (fuel := 6) (done := []) rfl (by simp) List.nodup_nil rfl

theorem walk_of_chain {chain : List RxNo} (h : IsRouteChain t3 head chain) : walk t3 head = .valid chain := by
  obtain ⟨some, short, distinct, passes⟩ := h
  have along := walkFrom_passes (done := []) (6 - chain.length) passes distinct short
  rw [Nat.sub_add_cancel (by omega)] at along
  unfold walk
  rw [along, List.nil_append]
  obtain ⟨n, fuel⟩ : ∃ n, 6 - chain.length = n + 1 := ⟨5 - chain.length, by omega⟩
  rw [fuel]
  unfold walkFrom
  exact if_neg some

/-- A walk that has passed four entries, or meets one again, breaks (R81). -/
theorem walk_of_breaks (h : WalkBreaks t3 head) : (walk t3 head).broken = true := by
  have ends : ∀ {passed : List RxNo} {x : RxNo}, passed.Nodup → Passes t3 head passed (num x) → passed.length ≤ 4 →
      passed.length = 4 ∨ x ∈ passed → (walk t3 head).broken = true := by
    intro passed x distinct passes short last
    have along := walkFrom_passes (done := []) (6 - passed.length) passes distinct short
    rw [Nat.sub_add_cancel (by omega)] at along
    unfold walk
    rw [along, List.nil_append]
    obtain ⟨n, fuel⟩ : ∃ n, 6 - passed.length = n + 1 := ⟨5 - passed.length, by omega⟩
    rw [fuel]
    unfold walkFrom
    rw [ofNum_num]; dsimp only
    split
    · rfl
    · next room =>
      have met := last.resolve_left (by omega)
      rw [if_neg (passes_dials passes met), if_pos met]; rfl
  obtain ⟨passed, e, distinct, passes, last⟩ := h
  by_cases short : passed.length ≤ 4
  · exact ends distinct passes short last
  · have parts : passed = passed.take 4 ++ passed[4] :: passed.drop 5 := by
      rw [← List.drop_eq_getElem_cons, List.take_append_drop]
    have length : (passed.take 4).length = 4 := by rw [List.length_take]; omega
    rw [parts] at passes
    exact ends (distinct.sublist (List.take_sublist 4 _)) (passes_take passes) (by omega) (.inl length)

/-- The CHAIN check is that of R81 and R167. -/
theorem walk_broken_iff : (walk t3 head).broken = true ↔ WalkBreaks t3 head := by
  refine ⟨fun broken => ?_, walk_of_breaks⟩
  have told := walk_says t3 head
  cases ends : walk t3 head <;> rw [ends] at broken told
  case tooLong => exact told
  case loop => exact told
  all_goals cases broken

theorem chainKept_of {old new : Tables}
    (kept : ∀ r : RouteNo, ¬WalkBreaks old.t3 (old.t4[r.val]).head → ¬WalkBreaks new.t3 (new.t4[r.val]).head) :
    chainKept old new = true := by
  unfold chainKept
  refine List.all_eq_true.2 fun r _ => ?_
  rw [Bool.or_eq_true, Bool.not_eq_true', Bool.eq_false_iff, Ne, walk_broken_iff, walk_broken_iff]
  exact (em _).imp_right (kept r)

/-- A walk with settings in range is that of a chain, or the route is invalid (R81). -/
theorem walk_eval (next : ∀ i : RxNo, (t3[i.val]).next ≤ 12) (bound : head ≤ 12)
    (none : ∀ chain, ¬IsRouteChain t3 head chain) : (walk t3 head).eval = { valid := false, chain := [] } := by
  have told := walk_says t3 head
  cases ends : walk t3 head <;> rw [ends] at told
  case valid chain =>
    obtain ⟨some, short, distinct, last, past, passes⟩ := told
    have zero := ofNum_none past (passes_bound next bound passes)
    exact (none chain ⟨some, short, distinct, zero ▸ passes⟩).elim
  all_goals rfl

end walk

end Sys2Proof.Machine
end

section
/-! The evaluation of the routes and their entries on the fault list, and a SET of T3, T4 and T5 (R81, R82, R92, R167). -/

namespace Sys2Proof.Machine

/-! ### ROUTE-INVALID (R82) -/

section report
variable {s t : State}

/-- The fault entry of a route that is active. -/
def routeEntry (r : RouteNo) : FaultEntry := ⟨.routeInvalid, num r, true⟩

/-- ROUTE-INVALID is active for a route as R82 asks. -/
def State.Reported (s : State) (r : RouteNo) : Prop :=
  routeEntry r ∈ s.link.faults ↔ (s.route r).valid = false ∧ ∃ cls, s.classRoute cls = r

theorem State.routeInUse_iff (r : RouteNo) : s.routeInUse r = true ↔ ∃ cls, s.classRoute cls = r := by
  have all (c : ReportClass) : c ∈ allClasses := by cases c <;> decide
  simp [State.routeInUse, all]

theorem State.Reported.of_same {r : RouteNo} (h : s.Reported r) (routes : t.routes = s.routes) (tables : t.tables = s.tables)
    (faults : routeEntry r ∈ t.link.faults ↔ routeEntry r ∈ s.link.faults) : t.Reported r := by
  have route : t.route r = s.route r := by unfold State.route; rw [routes]
  have cls (c) : t.classRoute c = s.classRoute c := by unfold State.classRoute; rw [tables]
  unfold State.Reported
  rw [faults, route]; simp only [cls]; exact h

theorem State.reportRoute_same (r : RouteNo) :
    (s.reportRoute r).routes = s.routes ∧ (s.reportRoute r).tables = s.tables ∧ (s.reportRoute r).queue = s.queue ∧
      (s.reportRoute r).work = s.work := by
  have calm := s.reportRoute_calm r
  refine ⟨congrArg (fun x => x.still.routes) calm, congrArg (fun x => x.still.base.tables) calm, ?_, ?_⟩
  · unfold State.reportRoute; split
    · exact State.faultActive_queue s _ _
    · exact State.faultCleared_queue s _ _
  · unfold State.reportRoute; split
    · exact State.faultActive_work s _ _
    · exact State.faultCleared_work s _ _

theorem State.reportRoute_reports (kept : s.FaultsKept) (r : RouteNo) : (s.reportRoute r).Reported r := by
  obtain ⟨routes, tables, -⟩ := s.reportRoute_same r
  have route : (s.reportRoute r).route r = s.route r := by unfold State.route; rw [routes]
  have cls (c) : (s.reportRoute r).classRoute c = s.classRoute c := by unfold State.classRoute; rw [tables]
  unfold State.Reported
  rw [route]; simp only [cls]
  rw [← State.routeInUse_iff]
  unfold State.reportRoute; split
  · next h =>
    simp only [Bool.and_eq_true, Bool.not_eq_true'] at h
    exact iff_of_true (s.faultActive_mem _ _) h
  · next h =>
    simp only [Bool.and_eq_true, Bool.not_eq_true'] at h
    exact iff_of_false (s.faultCleared_not_mem _ _ kept) h

theorem State.reportRoute_other {r k : RouteNo} (other : k ≠ r) :
    routeEntry k ∈ (s.reportRoute r).link.faults ↔ routeEntry k ∈ s.link.faults := by
  have apart : ¬((routeEntry k).kind = .routeInvalid ∧ (routeEntry k).inst = num r) := fun h =>
    other (Fin.ext (Nat.succ.inj h.2))
  unfold State.reportRoute; split
  · exact State.faultActive_mem_other apart
  · exact State.faultCleared_mem_other apart

/-- A report of the route itself, or of another, leaves ROUTE-INVALID as R82 asks. -/
theorem State.Reported.reportRoute {k : RouteNo} (h : s.Reported k) (kept : s.FaultsKept) (r : RouteNo) :
    (s.reportRoute r).Reported k := by
  by_cases same : k = r
  · subst same; exact State.reportRoute_reports kept k
  · obtain ⟨routes, tables, -⟩ := s.reportRoute_same r
    exact h.of_same routes tables (State.reportRoute_other same)

theorem mem_allRoutes (r : RouteNo) : r ∈ allRoutes := by revert r; decide

theorem State.reportRoutes_reports (kept : s.FaultsKept) (k : RouteNo) : s.reportRoutes.Reported k := by
  have keeps (u : State) (r : RouteNo) (kept : u.FaultsKept) : (u.reportRoute r).FaultsKept :=
    (Works.refl.reportRoute (w := False) r).faultsKept kept
  have stays : ∀ (rs : List RouteNo) (u : State), u.FaultsKept → u.Reported k → (rs.foldl State.reportRoute u).Reported k := by
    intro rs
    induction rs with
    | nil => exact fun _ _ => id
    | cons r rs ih => exact fun u kept h => ih _ (keeps u r kept) (h.reportRoute kept r)
  have reached : ∀ (rs : List RouteNo) (u : State), u.FaultsKept → k ∈ rs → (rs.foldl State.reportRoute u).Reported k := by
    intro rs
    induction rs with
    | nil => exact fun _ _ => nofun
    | cons r rs ih =>
      intro u kept mem
      rcases List.mem_cons.1 mem with rfl | later
      · exact stays rs _ (keeps u k kept) (State.reportRoute_reports kept k)
      · exact ih _ (keeps u r kept) later
  exact reached allRoutes s kept (mem_allRoutes k)

/-- The report of all routes leaves what the report of each leaves. -/
theorem State.reportRoutes_view {β : Type} (view : State → β) (each : ∀ u r, view (State.reportRoute u r) = view u) :
    view s.reportRoutes = view s := foldl_view view State.reportRoute each allRoutes s

@[simp] theorem State.reportRoutes_routes : s.reportRoutes.routes = s.routes :=
  State.reportRoutes_view State.routes fun u r => (u.reportRoute_same r).1

@[simp] theorem State.reportRoutes_tables : s.reportRoutes.tables = s.tables :=
  State.reportRoutes_view State.tables fun u r => (u.reportRoute_same r).2.1

@[simp] theorem State.reportRoutes_queue : s.reportRoutes.queue = s.queue :=
  State.reportRoutes_view State.queue fun u r => (u.reportRoute_same r).2.2.1

@[simp] theorem State.reportRoutes_work : s.reportRoutes.work = s.work :=
  State.reportRoutes_view State.work fun u r => (u.reportRoute_same r).2.2.2

@[simp] theorem State.reportRoutes_receivers : s.reportRoutes.receivers = s.receivers :=
  State.reportRoutes_view State.receivers fun u r => receivers_of_calm (u.reportRoute_calm r)

@[simp] theorem State.reportRoutes_lines : s.reportRoutes.lines = s.lines :=
  State.reportRoutes_view State.lines fun u r => by unfold State.reportRoute; split <;> simp

end report

/-! ### A SET of T3, T4 or T5 -/

section set
variable {s v : State} {kind : Byte} {w : Answer}

/-- The end of a SET whose owner reports the routes, in a state where the command has told of nothing. -/
theorem State.reportRoutes_settle (idle : v.work = Work.idle) : v.reportRoutes.settle = v.reportRoutes :=
  State.settle_rested _ (by rw [State.reportRoutes_work]; exact idle)

theorem routes_reported (kept : v.FaultsKept) : InvalidRoutesAreReported (v.reportRoutes.respond kind w) := fun r => by
  have reported := State.reportRoutes_reports kept r
  generalize v.reportRoutes = x at reported ⊢
  exact reported.of_same (t := x.respond kind w) rfl rfl (by rw [State.respond_faults])

/-- The Route Unit's evaluation, before it reports (R81). -/
def State.walked (s : State) : State := s.setRoutes (Vector.ofFn fun r => (walk s.tables.t3 (s.t4 r).head).eval)

theorem State.evaluateRoutes_eq (s : State) : s.evaluateRoutes = s.walked.reportRoutes := rfl

theorem State.walked_route (r : RouteNo) : s.walked.route r = (walk s.tables.t3 (s.t4 r).head).eval := by
  simp [State.walked, State.route, State.setRoutes]

theorem State.route_congr {t : State} (h : t.routes = s.routes) (r : RouteNo) : t.route r = s.route r := by
  unfold State.route; rw [h]

theorem routes_walked (next : ∀ i : RxNo, (v.tables.t3[i.val]).next ≤ 12) (head : ∀ r : RouteNo, (v.t4 r).head ≤ 12) :
    RoutesAreWalked (v.walked.reportRoutes.respond kind w) := by
  have tables : v.walked.reportRoutes.tables = v.tables := State.reportRoutes_tables
  have route (r : RouteNo) : v.walked.reportRoutes.route r = (walk v.tables.t3 (v.t4 r).head).eval :=
    (State.route_congr State.reportRoutes_routes r).trans (State.walked_route r)
  generalize v.walked.reportRoutes = x at tables route ⊢
  have head' (r : RouteNo) : ((x.respond kind w).t4 r).head = (v.t4 r).head := by
    unfold State.t4; rw [State.respond_tables, tables]
  have route' (r : RouteNo) : (x.respond kind w).route r = (walk v.tables.t3 (v.t4 r).head).eval := route r
  refine ⟨fun r chain h => ?_, fun r none => ?_⟩
  · rw [State.respond_tables, tables, head'] at h
    rw [route', walk_of_chain h]; rfl
  · rw [State.respond_tables, tables] at none
    simp only [head'] at none
    rw [route', walk_eval next (head r) none]

theorem T3.decode_next {image : List Byte} {n : T3} {f : Bool} (h : T3.decode image = some (n, f)) : n.next ≤ 12 := by
  unfold T3.decode at h
  split at h
  · dsimp only at h
    split at h
    · cases h
    · split at h
      · next bounds =>
        obtain ⟨-, -, -, -, next⟩ := bounds
        cases h; exact next
      · cases h
  · cases h

theorem T4.decode_head {image : List Byte} {n : T4} {f : Bool} (h : T4.decode image = some (n, f)) : n.head ≤ 12 := by
  unfold T4.decode at h
  split at h
  · split at h
    · split at h
      · next head => cases h; exact head
      · cases h
    · cases h
  · cases h

end set

theorem setIfInBounds_fin {α : Type} {n : Nat} (x : Vector α n) (i : Fin n) (a : α) :
    x.setIfInBounds i.val a = x.set i.val a := by
  ext k hk
  simp [Vector.getElem_setIfInBounds, Vector.getElem_set]

/-- One entry that a table has is in the range of GET and SET (R166). -/
theorem rangeOk_entry {table i : Nat} (h : 1 ≤ table ∧ table ≤ 6) (small : i < tableSize table) :
    rangeOk table (i + 1) 1 = true := by
  obtain ⟨low, high⟩ := h
  have some : 1 ≤ perFrame table := by interval_cases table <;> decide
  simp [rangeOk, low, high, some]
  omega

theorem u8_toNat {n : Nat} (small : n < 256) : (u8 n).toNat = n := by
  simp [u8, Nat.mod_eq_of_lt small]

/-- A SET of an entry of T5 reports ROUTE-INVALID afresh (R82). -/
theorem set_t5 (t : Nat) (i : Fin 5) (image : List Byte) (n : RouteNo) (f : Bool) (s : State) (rested : s.Rested)
    (asked : s.Asked 0x31 (5 :: u8 (i.val + 1) :: 1 :: image)) (size : image.length = 1) (save : s.save = none)
    (service : s.mode = .service) (decoded : T5.decode image = some (n, f)) :
    ∃ u, exec (.set t (5 :: u8 (i.val + 1) :: 1 :: image)) s = .next u ∧
      u.tables = { s.tables with t5 := s.tables.t5.set i.val n } ∧ u.queue = s.queue ∧
      (∀ r, u.route r = s.route r) ∧ (s.FaultsKept → InvalidRoutesAreReported u) := by
  have written : s.tables.write 5 (i.val + 1 - 1) image = some ({ s.tables with t5 := s.tables.t5.set i.val n }, f) := by
    simp [Tables.write, decoded, setIfInBounds_fin]
  obtain ⟨w, served⟩ := exec_set_one (t := t) (table := 5) (first := i.val + 1) asked rfl (u8_toNat (by omega))
    (rangeOk_entry ⟨by decide, by decide⟩ i.isLt) (fun _ => service) save size nofun written nofun
  have idle : ((s.advance t).setTables { s.tables with t5 := s.tables.t5.set i.val n }).work = Work.idle := rested
  have ends : (((s.advance t).setTables { s.tables with t5 := s.tables.t5.set i.val n }).afterSet 5 s.tables).settle =
    ((s.advance t).setTables { s.tables with t5 := s.tables.t5.set i.val n }).reportRoutes := State.reportRoutes_settle idle
  rw [ends] at served
  generalize hv : (s.advance t).setTables { s.tables with t5 := s.tables.t5.set i.val n } = v at served
  have reported (kept : s.FaultsKept) := routes_reported (kind := 0x31) (w := w) (v := v) (by rw [← hv]; exact kept)
  have tables := v.reportRoutes_tables
  have queue := v.reportRoutes_queue
  have route := State.route_congr v.reportRoutes_routes
  generalize v.reportRoutes = x at *
  subst hv
  exact ⟨_, served, tables, queue, route, reported⟩

/-! ### T4 and T3: every route evaluated -/

section evaluated
variable {s v : State} {w : Answer}

theorem route_evaluated (idle : v.work = Work.idle) :
    ∃ u, v.evaluateRoutes.settle.respond 0x31 w = u ∧ u.tables = v.tables ∧ u.queue = v.queue ∧ u.lines = v.lines ∧
      u.receivers = v.receivers ∧
      ((∀ i : RxNo, (v.tables.t3[i.val]).next ≤ 12) → (∀ r : RouteNo, (v.t4 r).head ≤ 12) → RoutesAreWalked u) ∧
      (v.FaultsKept → InvalidRoutesAreReported u) := by
  have ends : v.evaluateRoutes.settle = v.walked.reportRoutes := State.reportRoutes_settle (v := v.walked) idle
  have tables := v.walked.reportRoutes_tables
  have queue := v.walked.reportRoutes_queue
  have lines := v.walked.reportRoutes_lines
  have receivers := v.walked.reportRoutes_receivers
  have walked := routes_walked (v := v) (kind := 0x31) (w := w)
  have reported := routes_reported (v := v.walked) (kind := 0x31) (w := w)
  rw [ends]
  generalize v.walked.reportRoutes = x at *
  exact ⟨_, rfl, tables, queue, lines, receivers, walked, reported⟩

/-- A SET of T3 holds a receiver's failures within a changed attempt limit (R92). -/
def State.limitOne (old : Tables) (s : State) (e : RxNo) : State :=
  if (s.t3 e).attemptLimit ≠ (old.t3[e.val]).attemptLimit then s.setRx e ((s.rx e).limited (s.t3 e).attemptLimit) else s

theorem State.afterT3_eq (old : Tables) : s.afterT3 old = (allReceivers.foldl (State.limitOne old) s).evaluateRoutes := rfl

/-- The status of a receiver within its attempt limit, where a SET of T3 has changed it. -/
def limitedStatus (old new : Tables) (e : RxNo) (x : RxStatus) : RxStatus :=
  if (new.t3[e.val]).attemptLimit ≠ (old.t3[e.val]).attemptLimit then x.limited (new.t3[e.val]).attemptLimit else x

theorem State.limitOne_rx (old : Tables) (e k : RxNo) :
    (State.limitOne old s e).rx k = if e = k then limitedStatus old s.tables k (s.rx k) else s.rx k := by
  unfold State.limitOne limitedStatus
  by_cases same : e = k
  · subst same
    rw [if_pos rfl]
    split
    · next changed => rw [State.setRx_rx_same]; exact (if_pos changed).symm
    · next stays => exact (if_neg stays).symm
  · rw [if_neg same]
    split
    · rw [State.setRx_rx, if_neg same]
    · rfl

theorem State.limitOne_tables (old : Tables) (s : State) (e : RxNo) : (State.limitOne old s e).tables = s.tables := by
  unfold State.limitOne; split <;> rfl

theorem State.limited_rx (old : Tables) (k : RxNo) : ∀ (es : List RxNo) (s : State), es.Nodup →
    (es.foldl (State.limitOne old) s).rx k = if k ∈ es then limitedStatus old s.tables k (s.rx k) else s.rx k
  | [], _, _ => by simp
  | e :: es, s, distinct => by
    obtain ⟨fresh, rest⟩ := List.nodup_cons.1 distinct
    rw [List.foldl_cons, State.limited_rx old k es _ rest, State.limitOne_rx, State.limitOne_tables]
    by_cases same : e = k
    · subst same; simp [fresh]
    · simp [same, Ne.symm same]

end evaluated

/-- A SET of an entry of T4 evaluates every route (R82). -/
theorem set_t4 (t : Nat) (r : RouteNo) (image : List Byte) (n : T4) (f : Bool) (s : State) (rested : s.Rested)
    (asked : s.Asked 0x31 (4 :: u8 (num r) :: 1 :: image)) (size : image.length = 2) (save : s.save = none)
    (service : s.mode = .service) (decoded : T4.decode image = some (n, f))
    (kept : ∀ k : RouteNo, ¬WalkBreaks s.tables.t3 (s.t4 k).head →
      ¬WalkBreaks s.tables.t3 ((s.tables.t4.set r.val n)[k.val]).head) :
    ∃ u, exec (.set t (4 :: u8 (num r) :: 1 :: image)) s = .next u ∧
      u.tables = { s.tables with t4 := s.tables.t4.set r.val n } ∧ u.queue = s.queue ∧ (∀ k, u.line k = s.line k) ∧
      (∀ e, u.rx e = s.rx e) ∧ (s.tables.InRange → RoutesAreWalked u) ∧ (s.FaultsKept → InvalidRoutesAreReported u) := by
  have written : s.tables.write 4 (r.val + 1 - 1) image = some ({ s.tables with t4 := s.tables.t4.set r.val n }, f) := by
    simp [Tables.write, decoded, setIfInBounds_fin]
  obtain ⟨w, served⟩ := exec_set_one (t := t) (table := 4) (first := r.val + 1) asked rfl (u8_toNat (by unfold num; omega))
    (rangeOk_entry ⟨by decide, by decide⟩ r.isLt) (fun _ => service) save size nofun written
    (fun _ => chainKept_of kept)
  obtain ⟨u, done, tables, queue, lines, receivers, walked, reported⟩ := route_evaluated (w := w)
    (v := (s.advance t).setTables { s.tables with t4 := s.tables.t4.set r.val n }) rested
  refine ⟨u, served.trans (congrArg Host.Outcome.next done), tables, queue, State.line_congr lines, State.rx_congr receivers,
    fun range => ?_, reported⟩
  obtain ⟨-, -, t3, t4, -⟩ := range
  refine walked (fun i => ?_) fun k => ?_
  · obtain ⟨-, -, -, -, -, next⟩ := t3 i
    exact next
  · show ((s.tables.t4.set r.val n)[k.val]).head ≤ 12
    rw [Vector.getElem_set]; split
    · exact T4.decode_head decoded
    · exact t4 k

/-- A SET of an entry of T3 holds the receiver's failures within a changed attempt limit, and evaluates every route (R82, R92). -/
theorem set_t3 (t : Nat) (e : RxNo) (image : List Byte) (n : T3) (f : Bool) (s : State) (rested : s.Rested)
    (asked : s.Asked 0x31 (3 :: u8 (num e) :: 1 :: image)) (size : image.length = 32) (save : s.save = none)
    (service : s.mode = .service) (decoded : T3.decode image = some (n, f))
    (kept : ∀ r : RouteNo, ¬WalkBreaks s.tables.t3 (s.t4 r).head → ¬WalkBreaks (s.tables.t3.set e.val n) (s.t4 r).head) :
    ∃ u, exec (.set t (3 :: u8 (num e) :: 1 :: image)) s = .next u ∧
      u.tables = { s.tables with t3 := s.tables.t3.set e.val n } ∧ (∀ k, k ≠ e → u.rx k = s.rx k) ∧
      u.rx e =
        (if n.attemptLimit = (s.t3 e).attemptLimit then s.rx e
        else if (s.rx e).state = .exhausted then { s.rx e with failures := n.attemptLimit }
        else if n.attemptLimit ≤ (s.rx e).failures then { s.rx e with failures := n.attemptLimit - 1 }
        else s.rx e) ∧
      u.queue = s.queue ∧ (∀ k, u.line k = s.line k) ∧
      (s.tables.InRange → RoutesAreWalked u) ∧ (s.FaultsKept → InvalidRoutesAreReported u) := by
  have written : s.tables.write 3 (e.val + 1 - 1) image = some ({ s.tables with t3 := s.tables.t3.set e.val n }, f) := by
    simp [Tables.write, decoded, setIfInBounds_fin]
  obtain ⟨w, served⟩ := exec_set_one (t := t) (table := 3) (first := e.val + 1) asked rfl (u8_toNat (by unfold num; omega))
    (rangeOk_entry ⟨by decide, by decide⟩ e.isLt) (fun _ => service) save size nofun written
    (fun _ => chainKept_of kept)
  generalize hv : (s.advance t).setTables { s.tables with t3 := s.tables.t3.set e.val n } = v at served
  have tables : v.tables = { s.tables with t3 := s.tables.t3.set e.val n } := by rw [← hv]; rfl
  have limited {β : Type} (view : State → β) (each : ∀ (u : State) (k : RxNo) (x : RxStatus), view (u.setRx k x) = view u) :
      view (allReceivers.foldl (State.limitOne s.tables) v) = view v :=
    foldl_view view _ (fun u k => by unfold State.limitOne; split <;> simp [each]) allReceivers v
  have same := limited State.tables fun _ _ _ => rfl
  obtain ⟨u, done, tables', queue, lines, receivers, walked, reported⟩ := route_evaluated (w := w)
    (v := allReceivers.foldl (State.limitOne s.tables) v)
    ((limited State.work fun _ _ _ => rfl).trans (by rw [← hv]; exact rested))
  have rx (k : RxNo) : u.rx k = limitedStatus s.tables v.tables k (s.rx k) := by
    rw [State.rx_congr receivers, State.limited_rx _ _ _ _ (by decide), if_pos (by revert k; decide), ← hv]; rfl
  rw [tables] at rx
  refine ⟨u, served.trans (congrArg Host.Outcome.next done), tables'.trans (same.trans tables), fun k other => ?_, ?_,
    queue.trans ((limited State.queue fun _ _ _ => rfl).trans (by rw [← hv]; rfl)),
    fun k => (State.line_congr (lines.trans (limited State.lines fun _ _ _ => rfl)) k).trans (by rw [← hv]; rfl),
    fun range => ?_, fun faults => reported ?_⟩
  · rw [rx]
    refine if_neg (not_not_intro ?_)
    show ((s.tables.t3.set e.val n)[k.val]).attemptLimit = _
    rw [Vector.getElem_set_ne _ _ fun h => other (Fin.ext h.symm)]
  · have own : ((s.tables.t3.set e.val n)[e.val]).attemptLimit = n.attemptLimit := by rw [Vector.getElem_set_self]
    rw [rx, limitedStatus]
    dsimp only
    rw [own, ite_not]; rfl
  · obtain ⟨-, -, t3, t4, -⟩ := range
    refine walked (fun i => ?_) fun k => ?_
    · rw [same, tables]
      show ((s.tables.t3.set e.val n)[i.val]).next ≤ 12
      rw [Vector.getElem_set]; split
      · exact T3.decode_next decoded
      · obtain ⟨-, -, -, -, -, next⟩ := t3 i
        exact next
    · unfold State.t4; rw [same, tables]; exact t4 k
  · have link : (allReceivers.foldl (State.limitOne s.tables) v).link = v.link := limited State.link fun _ _ _ => rfl
    unfold State.FaultsKept
    rw [link, ← hv]; exact faults

end Sys2Proof.Machine
end

section
/-! A SET of T2: a line enabled, disabled or left with a disable pending, behind a CLOSED gate (R25, R97). -/

namespace Sys2Proof.Machine

/-! ### The end of a command's work behind a CLOSED gate (R98) -/

section closed
variable {s : State}

/-- Behind a CLOSED gate an act changes neither line nor notice. -/
theorem State.act_quiet_closed (gate : s.dispatcher.gateOpen = false) : Quiet s s.act ∧ s.act.link = s.link := by
  have passed : s.passed = s.setWork { s.work with told := false } :=
    State.passed_of_exhausted fun open' => by rw [gate] at open'; cases open'
  have closed : (s.setWork { s.work with told := false }).urgentNow = false := by simp [State.urgentNow, gate]
  have evaluated : (s.setWork { s.work with told := false }).evaluateUrgent.link = s.link := by
    unfold State.evaluateUrgent; dsimp only; rw [closed]; split
    · next h _ => cases h
    · rfl
  have held (u : State) : u.settleHeld.link = u.link := by
    unfold State.settleHeld State.settleFireTimer; dsimp only; split <;> rfl
  rw [State.act_eq, passed]
  exact ⟨(s.setWork_quiet _).trans (State.reviewed_quiet _), (held _).trans evaluated⟩

theorem State.settle_closed (closed : s.Closed) (handOns : s.work.handOns = []) :
    Quiet s s.settle ∧ s.settle.link = s.link := by
  obtain ⟨gate, exit, fire⟩ := closed
  rw [State.settle_told s exit handOns]
  cases told : s.work.told with
  | false => rw [State.actFuel_untold told fire]; exact ⟨s.setWork_quiet _, rfl⟩
  | true =>
    obtain ⟨-, done, due⟩ := State.act_stands gate fire
    obtain ⟨quiet, link⟩ := State.act_quiet_closed gate
    rw [State.actFuel_acts told fire 63, State.actFuel_untold done due]
    exact ⟨quiet.trans (State.setWork_quiet _ _), link⟩

end closed

/-! ### Notices added behind a frame that is being sent (R159) -/

/-- The notices that a frame being sent holds up, and behind them those that have come since. -/
def Adds (s t : State) : Prop :=
  s.link.transmitter ≠ .idle →
    t.link.transmitter = s.link.transmitter ∧ ∃ more, t.link.notices = s.link.notices ++ more

section adds
variable {s t u : State}

theorem Adds.of_link (h : t.link = s.link) : Adds s t := fun _ => by rw [h]; exact ⟨rfl, [], by simp⟩

theorem Adds.trans (h : Adds s t) (g : Adds t u) : Adds s u := fun busy => by
  obtain ⟨same, more, added⟩ := h busy
  obtain ⟨same', more', added'⟩ := g (by rw [same]; exact busy)
  exact ⟨same'.trans same, more ++ more', by rw [added', added, List.append_assoc]⟩

theorem Adds.notice (s : State) (n : Notice) : Adds s (s.notice n) := fun busy => by
  have sent (k : Link) (busy : k.transmitter ≠ .idle) : k.transmit = k := by
    unfold Link.transmit; split
    · next idle => exact absurd idle busy
    · rfl
  unfold State.notice; split
  · exact ⟨rfl, [], by simp⟩
  · unfold Link.enqueue; split
    · rw [sent { s.link with notices := s.link.notices ++ [n] } busy]
      exact ⟨rfl, [n], rfl⟩
    · exact ⟨rfl, [], by simp [State.setLink]⟩

theorem Adds.faultCleared (s : State) (k : FaultKind) (i : Nat) : Adds s (s.faultCleared k i) := by
  have set (fs : List FaultEntry) : Adds s (s.setFaults fs) := fun _ => ⟨rfl, [], by simp [State.setFaults]⟩
  unfold State.faultCleared; split
  · exact .of_link rfl
  · split
    · exact (set _).trans (.notice _ _)
    · exact .of_link rfl

/-- A recomputation that changes the occupancy tells the host of it (R18). -/
theorem State.recompute_sends {l : LineNo} (changed : s.occupancyNow l ≠ (s.ctl l).occupancy)
    (receiver : s.link.receiver ≠ .silent) (transmitter : s.link.transmitter ≠ .idle)
    (room : s.link.notices.length < 16) :
    (s.recompute l).link.notices = s.link.notices ++ [.line l (s.occupancyNow l) (s.ctl l).fault] ∧
      (s.recompute l).link.transmitter ≠ .idle := by
  have noticed : (s.recompute l).link =
      ((s.setCtl l { s.ctl l with occupancy := s.occupancyNow l }).notice
        (.line l (s.occupancyNow l) (s.ctl l).fault)).link := by
    unfold State.recompute; dsimp only
    rw [if_neg changed, State.lineNotice, State.setCtl_ctl_same]; rfl
  rw [noticed]
  refine ⟨State.notice_stands (s := s.setCtl l _) _ receiver transmitter room, ?_⟩
  rw [(Adds.notice (s.setCtl l _) _ transmitter).1]
  exact transmitter

end adds

/-! ### A line that goes OFF, and one that is enabled (R25) -/

section lines
variable {s : State} {l : LineNo}

theorem State.recompute_queue (s : State) (l : LineNo) : (s.recompute l).queue = s.queue :=
  congrArg Steady.queue (s.recompute_steady l)

theorem State.faultCleared_waitList (s : State) (k : FaultKind) (i : Nat) : (s.faultCleared k i).waitList = s.waitList :=
  waitList_of_calm (s.faultCleared_calm k i)

/-- A line that is OFF (R10, R21, R23, R25). -/
def LineCtl.off : LineCtl :=
  { power := .off, promotion := .none, classOcc := .unknown, occupancy := .offline, fault := .none, noTone := 0,
    probeTimer := none, lend := .none, lendIdle := none, grant := none, disablePending := false }

/-- The line going OFF, before its occupancy is taken again. -/
def State.offBegun (s : State) (l : LineNo) : State :=
  let s1 := (s.setSense l Sense.reset).setDetector l Detector.stopped
  let s2 := s1.setCtl l { LineCtl.off with occupancy := (s.ctl l).occupancy }
  s2.setWaitList (s.waitList.filter (· ≠ l))

theorem State.lineOff_eq (s : State) (l : LineNo) :
    s.lineOff l = (((s.offBegun l).recompute l).faultCleared .lineDown (num l)).faultCleared .lineNoTone (num l) := by
  have ctl : ((s.setSense l Sense.reset).setDetector l Detector.stopped).ctl l = s.ctl l := by
    rw [State.setDetector_ctl, State.setSense_ctl]
  unfold State.lineOff State.offBegun; dsimp only
  rw [ctl]; rfl

theorem State.offBegun_line (k : LineNo) :
    (s.offBegun l).line k =
      if l = k then
        { s.line l with
          sense := Sense.reset, detector := Detector.stopped, ctl := { LineCtl.off with occupancy := (s.ctl l).occupancy } }
      else s.line k := by
  have same (u : State) (ls : List LineNo) : (u.setWaitList ls).line k = u.line k := rfl
  unfold State.offBegun; dsimp only
  rw [same, State.setCtl_line]; split
  · simp [State.setDetector_line, State.setSense_line]
  · next other => rw [State.setDetector_line, if_neg other, State.setSense_line, if_neg other]

/-- On a line that is disabled, OFF shows OFFLINE (R18). -/
theorem State.offBegun_occupancy (disabled : (s.t2 l).enabled = false) :
    (s.offBegun l).occupancyNow l = .offline := by
  have power : ((s.offBegun l).ctl l).power = .off := by rw [State.ctl, State.offBegun_line, if_pos rfl]; rfl
  have setting : ((s.offBegun l).t2 l).enabled = false := disabled
  unfold State.occupancyNow; dsimp only
  rw [power, setting]
  simp

theorem State.lineOff_line (disabled : (s.t2 l).enabled = false) (k : LineNo) :
    (s.lineOff l).line k =
      if l = k then { s.line l with sense := Sense.reset, detector := Detector.stopped, ctl := LineCtl.off }
      else s.line k := by
  rw [State.lineOff_eq, State.line_congr (State.faultCleared_lines _ _ _), State.line_congr (State.faultCleared_lines _ _ _),
    State.recompute_line, State.offBegun_occupancy disabled, State.ctl, State.offBegun_line, if_pos rfl]
  split
  · rfl
  · next other => rw [State.offBegun_line, if_neg other]

theorem State.lineOff_queue (s : State) (l : LineNo) : (s.lineOff l).queue = s.queue := by
  rw [State.lineOff_eq, State.faultCleared_queue, State.faultCleared_queue, State.recompute_queue]; rfl

theorem State.lineOff_waitList (s : State) (l : LineNo) : (s.lineOff l).waitList = s.waitList.filter (· ≠ l) := by
  rw [State.lineOff_eq, State.faultCleared_waitList, State.faultCleared_waitList, State.recompute_waitList]; rfl

theorem State.lineOff_noted (s : State) (l : LineNo) : (s.lineOff l).work.handOns = s.work.handOns := by
  rw [State.lineOff_eq, State.faultCleared_work, State.faultCleared_work]
  exact (State.recompute_noted _ l).2

/-- The notice of a line that goes OFF names no fault (log 44). -/
theorem State.lineOff_sends (disabled : (s.t2 l).enabled = false)
    (occupancy : (s.ctl l).occupancy ≠ .offline) (receiver : s.link.receiver ≠ .silent)
    (transmitter : s.link.transmitter ≠ .idle) (room : s.link.notices.length < 16) :
    ∃ more, (s.lineOff l).link.notices = s.link.notices ++ .line l .offline .none :: more := by
  have now := State.offBegun_occupancy disabled
  have ctl : (s.offBegun l).ctl l = { LineCtl.off with occupancy := (s.ctl l).occupancy } := by
    rw [State.ctl, State.offBegun_line, if_pos rfl]
  obtain ⟨sent, busy⟩ := State.recompute_sends (s := s.offBegun l) (l := l) (by rw [now, ctl]; exact Ne.symm occupancy)
    receiver transmitter room
  rw [now, ctl] at sent
  obtain ⟨-, more, added⟩ := (Adds.faultCleared ((s.offBegun l).recompute l) .lineDown (num l)).trans
    (.faultCleared _ .lineNoTone (num l)) busy
  refine ⟨more, ?_⟩
  rw [State.lineOff_eq, added, sent]
  simp only [List.append_assoc, List.singleton_append]; rfl

/-- A line that is OFF has no fault on the list (R21, R23). -/
theorem State.lineOff_faults (kept : s.FaultsKept) :
    ⟨.lineDown, num l, true⟩ ∉ (s.lineOff l).link.faults ∧ ⟨.lineNoTone, num l, true⟩ ∉ (s.lineOff l).link.faults := by
  have begun : (s.offBegun l).FaultsKept := kept
  have kept' := (Works.refl.recompute (w := False) l).faultsKept begun
  have kept'' := (Works.refl.faultCleared (w := False) .lineDown (num l)).faultsKept kept'
  rw [State.lineOff_eq]
  refine ⟨fun down => ?_, State.faultCleared_not_mem _ _ _ kept''⟩
  exact State.faultCleared_not_mem _ _ _ kept' ((State.faultCleared_mem_other (by simp)).1 down)

/-! ### What a SET of T2 does to its line, and leaves of the others -/

/-- An operation on a line behind a CLOSED gate leaves the other lines, the line's call, the queue and the settings. -/
structure Touches (l : LineNo) (s t : State) : Prop where
  others : ∀ k, k ≠ l → t.line k = s.line k
  call : t.call l = s.call l
  queue : t.queue = s.queue
  still : t.still = s.still
  handOns : t.work.handOns = s.work.handOns
  closed : s.Closed → t.Closed

section touches
variable {t u : State}

theorem Touches.trans (h : Touches l s t) (g : Touches l t u) : Touches l s u :=
  ⟨fun k n => (g.others k n).trans (h.others k n), g.call.trans h.call, g.queue.trans h.queue, g.still.trans h.still,
    g.handOns.trans h.handOns, fun closed => g.closed (h.closed closed)⟩

theorem Touches.setCtl (s : State) (l : LineNo) (x : LineCtl) : Touches l s (s.setCtl l x) where
  others k n := by rw [State.setCtl_line, if_neg (Ne.symm n)]
  call := by rw [State.call, State.setCtl_line, if_pos rfl]; rfl
  queue := rfl
  still := s.setCtl_still l x
  handOns := rfl
  closed h := h.setCtl l x

theorem Touches.recompute (s : State) (l : LineNo) : Touches l s (s.recompute l) where
  others _ n := s.recompute_line_ne (Ne.symm n)
  call := s.recompute_call l l
  queue := s.recompute_queue l
  still := s.recompute_still l
  handOns := (s.recompute_noted l).2
  closed h := h.recompute l

theorem Touches.endLend (s : State) (l : LineNo) : Touches l s (s.endLend l) :=
  ((Touches.setCtl s l _).trans (.recompute _ l)).trans
    ⟨fun _ _ => rfl, rfl, rfl, rfl, rfl, fun closed => closed⟩

theorem Touches.lineOn (s : State) (l : LineNo) : Touches l s (s.lineOn l) := by
  unfold State.lineOn; dsimp only
  split
  · exact ((Touches.setCtl s l _).trans (.setCtl _ l _)).trans (.recompute _ l)
  · exact (Touches.setCtl s l _).trans (.recompute _ l)

theorem Touches.lineOff (disabled : (s.t2 l).enabled = false) : Touches l s (s.lineOff l) where
  others k n := by rw [State.lineOff_line disabled, if_neg (Ne.symm n)]
  call := by rw [State.call, State.lineOff_line disabled, if_pos rfl]; rfl
  queue := s.lineOff_queue l
  still := s.lineOff_still l
  handOns := s.lineOff_noted l
  closed h := h.lineOff l

theorem Touches.tables (h : Touches l s t) : t.tables = s.tables := congrArg (fun x => x.base.tables) h.still

theorem Touches.t2 (h : Touches l s t) (k : LineNo) : t.t2 k = s.t2 k := by unfold State.t2; rw [h.tables]

theorem Touches.enabledChanged {b : Bool} (setting : (s.t2 l).enabled = b) : Touches l s (s.enabledChanged l b) := by
  have lent := Touches.endLend s l
  unfold State.enabledChanged; dsimp only
  cases b with
  | true =>
    rw [if_pos rfl]; split
    · exact .setCtl s l _
    · exact .lineOn s l
  | false =>
    rw [if_neg (by decide)]; split
    · exact .setCtl s l _
    · split
      · exact lent.trans (.lineOff (by rw [lent.t2]; exact setting))
      · exact .lineOff setting

end touches

/-- The line being enabled, before its occupancy is taken again. -/
def State.onBegun (s : State) (l : LineNo) : State :=
  s.setCtl l
    { s.ctl l with
      power := .sense
      promotion := if s.supply = .normal then .settling (s.now + 200) else (s.ctl l).promotion }

theorem State.lineOn_eq (s : State) (l : LineNo) : s.lineOn l = (s.onBegun l).recompute l := by
  unfold State.lineOn State.onBegun; dsimp only
  by_cases normal : s.supply = .normal
  · rw [if_pos normal, if_pos normal, State.startPromotion, State.setCtl_ctl_same, State.setCtl, State.setCtl,
      State.setLine_setLine, State.setLine_line_same]; rfl
  · rw [if_neg normal, if_neg normal]

section enabled
variable (fitted : l.val < s.fitted) (enabled : (s.t2 l).enabled = true) (lend : (s.ctl l).lend = .none)
  (grant : (s.ctl l).grant = none) (call : s.call l = none) (classOcc : (s.ctl l).classOcc = .unknown)
include fitted enabled lend grant call classOcc

theorem State.onBegun_occupancy : (s.onBegun l).occupancyNow l = .unknown := by
  have begun : (s.onBegun l).ctl l = _ := State.setCtl_ctl_same s l _
  have called : (s.onBegun l).call l = none := (Touches.setCtl s l _).call.trans call
  have setting : ((s.onBegun l).t2 l).enabled = true := enabled
  have fitted' : (s.onBegun l).fitted = s.fitted := rfl
  unfold State.occupancyNow; dsimp only
  rw [begun, setting, called]
  simp [State.isFitted, fitted', fitted, lend, grant, classOcc, Occupancy.ofClassOcc]

/-- A line that is enabled and has no pending disable enters SENSE, and under NORMAL its promotion settles (R17, R25). -/
theorem State.lineOn_ctl :
    (s.lineOn l).ctl l =
      { s.ctl l with
        power := .sense, occupancy := .unknown
        promotion := if s.supply = .normal then .settling (s.now + 200) else (s.ctl l).promotion } := by
  rw [State.lineOn_eq, State.recompute_ctl_same, State.onBegun_occupancy fitted enabled lend grant call classOcc,
    State.onBegun, State.setCtl_ctl_same]

theorem State.lineOn_sends (occupancy : (s.ctl l).occupancy = .offline) (receiver : s.link.receiver ≠ .silent)
    (transmitter : s.link.transmitter ≠ .idle) (room : s.link.notices.length < 16) :
    (s.lineOn l).link.notices = s.link.notices ++ [.line l .unknown (s.ctl l).fault] := by
  have now := State.onBegun_occupancy fitted enabled lend grant call classOcc
  have begun : (s.onBegun l).ctl l = _ := State.setCtl_ctl_same s l _
  have sent := (State.recompute_sends (s := s.onBegun l) (l := l)
    (by rw [now, begun]; exact fun h => by rw [occupancy] at h; cases h) receiver transmitter room).1
  rw [now, begun] at sent
  rw [State.lineOn_eq, sent]; rfl

end enabled

/-! ### The lines in turn -/

/-- A SET of T2 does to one line what its entry asks (R25). -/
def State.afterEntry (old : Tables) (s : State) (l : LineNo) : State :=
  if s.isFitted l && (s.t2 l).enabled != (old.t2[l.val]).enabled then s.enabledChanged l (s.t2 l).enabled else s

theorem State.afterT2_eq (old : Tables) : s.afterT2 old = allLines.foldl (State.afterEntry old) s := rfl

theorem State.afterEntry_same {old : Tables} (same : (s.t2 l).enabled = (old.t2[l.val]).enabled) :
    State.afterEntry old s l = s := by
  unfold State.afterEntry; rw [same]; simp

theorem State.afterEntry_touches (old : Tables) (s : State) (l : LineNo) : Touches l s (State.afterEntry old s l) := by
  unfold State.afterEntry; split
  · exact .enabledChanged rfl
  · exact ⟨fun _ _ => rfl, rfl, rfl, rfl, rfl, id⟩

theorem afterEntries_same {old : Tables} (ls : List LineNo)
    (same : ∀ k ∈ ls, (s.t2 k).enabled = (old.t2[k.val]).enabled) : ls.foldl (State.afterEntry old) s = s := by
  induction ls with
  | nil => rfl
  | cons k ls ih =>
    rw [List.foldl_cons, State.afterEntry_same (same k List.mem_cons_self)]
    exact ih fun j mem => same j (List.mem_cons_of_mem k mem)

/-- Where one entry alone has changed, one line alone is touched. -/
theorem afterEntries_one {old : Tables} (ls : List LineNo) (distinct : ls.Nodup) (mem : l ∈ ls)
    (same : ∀ k ∈ ls, k ≠ l → (s.t2 k).enabled = (old.t2[k.val]).enabled) :
    ls.foldl (State.afterEntry old) s = State.afterEntry old s l := by
  induction ls with
  | nil => cases mem
  | cons k ls ih =>
    obtain ⟨fresh, rest⟩ := List.nodup_cons.1 distinct
    rw [List.foldl_cons]
    by_cases own : k = l
    · subst own
      refine afterEntries_same ls fun j mem => ?_
      rw [(State.afterEntry_touches old s k).t2]
      exact same j (List.mem_cons_of_mem k mem) fun h => fresh (h ▸ mem)
    · rw [State.afterEntry_same (same k List.mem_cons_self own)]
      exact ih rest ((List.mem_cons.1 mem).resolve_left (Ne.symm own)) fun j mem =>
        same j (List.mem_cons_of_mem k mem)

end lines

section set
variable {t : Nat} {line : LineNo} {image : List Byte} {e : T2} {f : Bool} {s : State}

/-- The settings once an entry of T2 is written. -/
def State.setT2 (s : State) (line : LineNo) (e : T2) : State :=
  s.setTables { s.tables with t2 := s.tables.t2.set line.val e }

theorem State.setT2_entry (k : LineNo) : (s.setT2 line e).t2 k = if k = line then e else s.t2 k := by
  show (s.tables.t2.set line.val e)[k.val] = _
  rw [Vector.getElem_set]
  by_cases same : k = line
  · subst same; rw [if_pos rfl, if_pos rfl]
  · rw [if_neg fun h => same (Fin.ext h.symm), if_neg same]; rfl

theorem exec_setT2 (asked : s.Asked 0x31 (2 :: u8 (num line) :: 1 :: image)) (size : image.length = 7)
    (save : s.save = none) (decoded : T2.decode image = some (e, f)) (fitted : line.val < s.fitted) :
    ∃ w, exec (.set t (2 :: u8 (num line) :: 1 :: image)) s =
      .next ((State.afterEntry s.tables ((s.advance t).setT2 line e) line).settle.respond 0x31 w) := by
  have written : s.tables.write 2 (line.val + 1 - 1) image = some ({ s.tables with t2 := s.tables.t2.set line.val e }, f) := by
    simp [Tables.write, decoded, setIfInBounds_fin]
  obtain ⟨w, served⟩ := exec_set_one (t := t) (table := 2) (first := line.val + 1) asked rfl (u8_toNat (by unfold num; omega))
    (rangeOk_entry ⟨by decide, by decide⟩ line.isLt) nofun save size (fun _ => fitted) written nofun
  have one : ((s.advance t).setT2 line e).afterT2 s.tables = State.afterEntry s.tables ((s.advance t).setT2 line e) line :=
    afterEntries_one allLines (by decide) (mem_allLines line) fun k _ other => by
      rw [State.setT2_entry, if_neg other]; rfl
  rw [← one]
  exact ⟨w, served⟩

/-- What the end of the command and its response leave of a line touched behind a CLOSED gate. -/
theorem touched_answered {v y : State} {w : Answer} (touched : Touches line v y) (closed : v.Closed)
    (handOns : v.work.handOns = []) :
    ∃ u, y.settle.respond 0x31 w = u ∧ u.tables = v.tables ∧ u.queue = v.queue ∧ u.lines = y.lines ∧
      u.waitList = y.waitList ∧ u.link.notices = y.link.notices ∧ u.link.faults = y.link.faults := by
  obtain ⟨⟨lines, -, waitList, -, steady⟩, link⟩ := State.settle_closed (touched.closed closed) (touched.handOns.trans handOns)
  have tables : y.settle.tables = v.tables := (congrArg (fun x => x.base.tables) steady).trans touched.tables
  have queue : y.settle.queue = v.queue := (congrArg Steady.queue steady).trans touched.queue
  generalize y.settle = x at lines waitList link tables queue
  exact ⟨_, rfl, tables, queue, lines, waitList, (x.respond_notices _ _).trans (congrArg Link.notices link),
    (x.respond_faults _ _).trans (congrArg Link.faults link)⟩

/-- A line disabled that is not in CALL: a lend ends first, and the line goes OFF (R25). -/
theorem State.enabledChanged_off {v : State} (occupancy : (v.ctl line).occupancy ≠ .call) :
    ∃ x, Touches line v x ∧ x.waitList = v.waitList ∧ v.enabledChanged line false = x.lineOff line ∧
      ((v.ctl line).lend ≠ .lent → x = v) ∧ (v.FaultsKept → x.FaultsKept) := by
  unfold State.enabledChanged; dsimp only
  rw [if_neg (by decide), if_neg occupancy]
  split
  · next lent =>
    refine ⟨_, .endLend v line, ?_, rfl, fun n => (n lent).elim, (Works.refl.endLend (w := False) line).faultsKept⟩
    exact (State.recompute_waitList _ _ : _)
  · exact ⟨v, ⟨fun _ _ => rfl, rfl, rfl, rfl, rfl, id⟩, rfl, rfl, fun _ => rfl, id⟩

end set

/-- A SET of an entry of T2 behind a CLOSED gate (R25). -/
theorem set_t2 (t : Nat) (line : LineNo) (image : List Byte) (e : T2) (f : Bool) (s : State) (rested : s.Rested)
    (asked : s.Asked 0x31 (2 :: u8 (num line) :: 1 :: image)) (size : image.length = 7) (save : s.save = none)
    (decoded : T2.decode image = some (e, f)) (fitted : line.val < s.fitted) (gate : s.dispatcher.gateOpen = false) :
    let x := s.ctl line
    let sends := fun u (notice : Notice) => s.link.receiver ≠ .silent → s.link.transmitter ≠ .idle →
      s.link.notices.length < 16 → ∃ more, u.link.notices = s.link.notices ++ notice :: more
    ∃ u : State, exec (.set t (2 :: u8 (num line) :: 1 :: image)) s = .next u ∧
      u.tables = { s.tables with t2 := s.tables.t2.set line.val e } ∧ u.queue = s.queue ∧
      (∀ k, k ≠ line → u.line k = s.line k) ∧ u.call line = s.call line ∧
      (e.enabled = (s.t2 line).enabled → u.line line = s.line line) ∧
      (e.enabled = true → (s.t2 line).enabled = false →
        (x.disablePending = true → u.ctl line = { x with disablePending := false }) ∧
        (x.disablePending = false → x.lend = .none → x.grant = none → s.call line = none → x.classOcc = .unknown →
          u.ctl line =
            { x with
              power := .sense, occupancy := .unknown
              promotion := if s.supply = .normal then .settling (max s.now t + 200) else x.promotion } ∧
          (x.occupancy = .offline → sends u (.line line .unknown x.fault)))) ∧
      (e.enabled = false → (s.t2 line).enabled = true →
        (x.occupancy = .call → u.ctl line = { x with disablePending := true }) ∧
        (x.occupancy ≠ .call →
          u.ctl line = LineCtl.off ∧
          u.sense line = Sense.reset ∧ (u.line line).detector.listening = false ∧ line ∉ u.waitList ∧
          (x.occupancy ≠ .offline → x.lend ≠ .lent → sends u (.line line .offline .none)) ∧
          (s.FaultsKept → ⟨.lineDown, num line, true⟩ ∉ u.link.faults ∧
            ⟨.lineNoTone, num line, true⟩ ∉ u.link.faults))) := by
  intro x sends
  obtain ⟨w, served⟩ := exec_setT2 (t := t) asked size save decoded fitted
  have closed : ((s.advance t).setT2 line e).Closed := State.Closed.of_rested rested gate
  have handOns : ((s.advance t).setT2 line e).work.handOns = [] := congrArg Work.handOns rested
  have setting : ((s.advance t).setT2 line e).t2 line = e := by rw [State.setT2_entry, if_pos rfl]
  generalize hv : (s.advance t).setT2 line e = v at *
  have line' (k : LineNo) : v.line k = s.line k := by rw [← hv]; rfl
  have ctl' : v.ctl line = x := congrArg Line.ctl (line' line)
  have link' : v.link = s.link := by rw [← hv]; rfl
  have call' : v.call line = s.call line := congrArg Line.call (line' line)
  have fitted' : line.val < v.fitted := by rw [← hv]; exact fitted
  have changed (h : e.enabled ≠ (s.t2 line).enabled) : State.afterEntry s.tables v line = v.enabledChanged line e.enabled := by
    unfold State.afterEntry
    rw [setting, if_pos]
    rw [Bool.and_eq_true, bne_iff_ne]
    exact ⟨decide_eq_true fitted', h⟩
  have touched := State.afterEntry_touches s.tables v line
  obtain ⟨u, done, tables, queue, lines, waitList, notices, faults⟩ := touched_answered (w := w) touched closed handOns
  have shown := State.line_congr lines
  refine ⟨u, served.trans (congrArg Host.Outcome.next done), tables.trans (by rw [← hv]; rfl), queue.trans (by rw [← hv]; rfl),
    fun k other => (shown k).trans ((touched.others k other).trans (line' k)),
    (congrArg Line.call (shown line)).trans (touched.call.trans (congrArg Line.call (line' line))), ?_, ?_, ?_⟩
  · intro same
    rw [shown, State.afterEntry_same (by rw [setting]; exact same), line']
  · intro enabled before
    have entry := changed (by rw [enabled, before]; decide)
    rw [enabled] at entry
    have setting : (v.t2 line).enabled = true := by rw [setting]; exact enabled
    refine ⟨fun pending => ?_, fun pending lend grant call classOcc => ⟨?_, fun occupancy receiver transmitter room => ?_⟩⟩
    · rw [State.ctl, shown, entry, State.enabledChanged]
      rw [if_pos rfl, ctl', if_pos pending]
      exact State.setCtl_ctl_same _ _ _
    all_goals
      have on : v.enabledChanged line true = v.lineOn line := by
        unfold State.enabledChanged; dsimp only
        rw [if_pos rfl, ctl', if_neg (by rw [pending]; decide)]
      rw [on] at entry
      rw [← ctl'] at lend grant classOcc
    · rw [State.ctl, shown, entry, ← ctl']
      refine (State.lineOn_ctl fitted' setting lend grant (call' ▸ call) classOcc).trans ?_
      rw [← hv]; rfl
    · rw [← ctl'] at occupancy
      rw [← link'] at receiver transmitter room
      refine ⟨[], ?_⟩
      rw [notices, entry, State.lineOn_sends fitted' setting lend grant (call' ▸ call) classOcc occupancy receiver
        transmitter room, link', ctl']
  · intro disabled before
    have entry := changed (by rw [disabled, before]; decide)
    rw [disabled] at entry
    refine ⟨fun occupancy => ?_, fun occupancy => ?_⟩
    · rw [State.ctl, shown, entry, State.enabledChanged]
      rw [if_neg (by decide), ctl', if_pos occupancy]
      exact State.setCtl_ctl_same _ _ _
    · obtain ⟨y, ended, list, off, same, kept⟩ := State.enabledChanged_off (v := v) (line := line) (by rw [ctl']; exact occupancy)
      rw [off] at entry
      have setting' : (y.t2 line).enabled = false := by rw [ended.t2, setting]; exact disabled
      have went : u.line line = { y.line line with sense := Sense.reset, detector := Detector.stopped, ctl := LineCtl.off } := by
        rw [shown, entry, State.lineOff_line setting', if_pos rfl]
      refine ⟨congrArg Line.ctl went, congrArg Line.sense went, congrArg (fun z => z.detector.listening) went, ?_,
        fun online unlent receiver transmitter room => ?_, fun faultsKept => ?_⟩
      · rw [waitList, entry, State.lineOff_waitList]; simp
      · obtain rfl := same (by rw [ctl']; exact unlent)
        rw [notices, entry, ← link']
        rw [← link'] at receiver transmitter room
        exact State.lineOff_sends setting' (by rw [ctl']; exact online) receiver transmitter room
      · rw [faults, entry]
        exact State.lineOff_faults (kept (by unfold State.FaultsKept; rw [link']; exact faultsKept))

end Sys2Proof.Machine
end

section
/-! The Dispatcher's acts come to their end: each grace reclaim takes a lend that no act gives back, and an act starts every call that can be started, so that the condition and the timer stand as the last act has left them (R37, R38, R99, R110, log 4). -/

namespace Sys2Proof.Machine

/-! ### Lends only end (R34, R38) -/

/-- Every line that has no lend in `s` has none in `t`. -/
def LendsFall (s t : State) : Prop := ∀ l, (s.ctl l).lend = .none → (t.ctl l).lend = .none

/-- The number of lines with a lend, pending or begun. -/
def State.lendCount (s : State) : Nat := allLines.countP fun l => (s.ctl l).lend ≠ .none

section lends
variable {s t : State} {l : LineNo}

theorem State.lendCount_le (s : State) : s.lendCount ≤ 4 := List.countP_le_length

theorem LendsFall.count (h : LendsFall s t) : t.lendCount ≤ s.lendCount := by
  refine List.countP_mono_left fun k _ some => ?_
  simp only [ne_eq, decide_eq_true_eq] at some ⊢
  exact fun none => some (h k none)

/-- A line with no lend begins its call with none (R104). -/
theorem State.beginCall_lend (b : Bool) (e : RxNo) (none : (s.ctl l).lend = .none) :
    ((s.beginCall l b e).ctl l).lend = .none := by
  have granted : (((s.grant l b).setRx e { s.rx e with state := .calling }).ctl l).lend = .none :=
    (s.grant_lend l b).trans none
  have pending : ((s.ctl l).lend == .pending) = false := by rw [none]; rfl
  have free : (Call.create .report (some e) false).lendPending = false := rfl
  unfold State.beginCall
  rw [pending]
  by_cases ready : (((s.grant l b).setRx e { s.rx e with state := .calling }).ctl l).power = .ready
  · rw [State.startCall_takes _ l free ready, State.takeLine_ctl, State.setCall_ctl]; exact granted
  · rw [State.startCall_needs _ l free ready]
    have parked := (parked_ctl (State.needReady_parked
      (((s.grant l b).setRx e { s.rx e with state := .calling }).setCall l (some (Call.create .report (some e) false)))
      l l)).2
    have ctl := State.setCall_ctl ((s.grant l b).setRx e { s.rx e with state := .calling }) l
      (some (Call.create .report (some e) false)) l
    rw [State.ctl] at ctl ⊢
    rw [parked, ctl]; exact granted

theorem State.endLend_lend : ((s.endLend l).ctl l).lend = .none := by
  have same (u : State) : u.tell.ctl l = u.ctl l := rfl
  rw [State.endLend, same, State.recompute_ctl_same, State.setCtl_ctl_same]

/-- No part of an act lends a line that has no lend. -/
theorem lendsFall_kept (s : State) : ActsKeep (LendsFall s) where
  quiet q h k none := by rw [State.ctl_congr q.1]; exact h k none
  begins {u l b e} _ _ h k none := by
    by_cases own : k = l
    · subst own; exact State.beginCall_lend b e (h k none)
    · have others : (u.beginCall l b e).others l = u.others l := by
        rw [State.beginCall, State.startCall_others, State.setRx_others, State.grant_others]
      exact (parked_ctl (parked_of_others others own)).2.trans (h k none)
  reclaims {u l} _ h k none := by
    by_cases own : k = l
    · subst own; exact State.endLend_lend
    · exact (parked_ctl (parked_of_others (u.endLend_others l) own)).2.trans (h k none)

theorem State.act_lendCount (s : State) : s.act.lendCount ≤ s.lendCount :=
  LendsFall.count ((lendsFall_kept s).act fun _ => id)

theorem State.graceReclaim_eq {rest : List LineNo} (first : s.lentLines = l :: rest) :
    s.graceReclaim = ((s.setWork { s.work with fireDue := false, expired := true }).endLend l).tell := by
  have first' : (s.setWork { s.work with fireDue := false, expired := true }).lentLines = l :: rest := first
  unfold State.graceReclaim; dsimp only
  split
  · next none => rw [none] at first'; cases first'
  · next some => rw [some] at first'; cases first'; rfl

theorem State.graceReclaim_work : s.graceReclaim.work.told = true ∧ s.graceReclaim.work.fireDue = false := by
  have told (u : State) : u.tell.work = { u.work with told := true } := rfl
  unfold State.graceReclaim; dsimp only; split
  · exact ⟨rfl, rfl⟩
  · refine ⟨rfl, ?_⟩
    rw [told, State.endLend, told]
    simp

/-- The grace reclaim ends the lend of the first line that is LENT (R38). -/
theorem State.graceReclaim_ends {rest : List LineNo} (first : s.lentLines = l :: rest) :
    (s.graceReclaim.ctl l).lend = .none := by
  rw [State.graceReclaim_eq first]; exact State.endLend_lend

theorem State.graceReclaim_lendCount {rest : List LineNo} (first : s.lentLines = l :: rest) :
    s.graceReclaim.lendCount < s.lendCount := by
  have fall : LendsFall s s.graceReclaim := (lendsFall_kept s).graceReclaim fun _ => id
  have lent : (s.ctl l).lend = .lent := by
    have mem : l ∈ s.lentLines := by rw [first]; exact List.mem_cons_self
    simp only [State.lentLines, List.mem_filter, beq_iff_eq] at mem
    exact mem.2
  have others : s.graceReclaim.lendCount ≤
      (allLines.filter fun k => k ≠ l).countP fun k => (s.ctl k).lend ≠ .none := by
    rw [List.countP_filter]
    refine List.countP_mono_left fun k _ some => ?_
    simp only [ne_eq, decide_eq_true_eq, Bool.and_eq_true] at some ⊢
    refine ⟨fun none => some (fall k none), ?_⟩
    rintro rfl
    exact some (State.graceReclaim_ends first)
  exact Nat.lt_of_le_of_lt others (countP_filter_lt (mem_allLines l) (by simp [lent]) (by simp))

end lends

/-! ### What an act leaves to do (R99, R110) -/

section acts
variable {s : State}

/-- A review tells the Dispatcher of nothing. -/
theorem State.reviewed_told : s.reviewed.work.told = s.work.told := by
  have held (u : State) : u.settleHeld.work.told = u.work.told := by
    unfold State.settleHeld State.settleFireTimer; dsimp only; split <;> rfl
  rw [State.reviewed, held, State.evaluateUrgent_work]

theorem State.reviewed_gate : s.reviewed.dispatcher.gateOpen = s.dispatcher.gateOpen := by
  have held (u : State) : u.settleHeld.dispatcher.gateOpen = u.dispatcher.gateOpen := by
    unfold State.settleHeld State.settleFireTimer; dsimp only; split <;> rfl
  rw [State.reviewed, held, State.evaluateUrgent_dispatcher]

/-- After a review the condition stands as R37 has it. -/
theorem State.reviewed_urgent : s.reviewed.dispatcher.urgent = s.reviewed.urgentNow := by
  have held (u : State) : u.settleHeld.dispatcher.urgent = u.dispatcher.urgent := by
    unfold State.settleHeld State.settleFireTimer; dsimp only; split <;> rfl
  obtain ⟨urgentNow, -⟩ := s.reviewed_quiet.congr State.reviewed_gate
  rw [urgentNow, State.reviewed, held, State.evaluateUrgent_dispatcher]

/-- The timer follows the list and the grace (R110). -/
def State.TimerFollows (s : State) : Prop := s.dispatcher.fireTimer = fireExpiry s.t1.lendGrace s.dispatcher.held

theorem State.settleFireTimer_follows : s.settleFireTimer.TimerFollows := by
  unfold State.settleFireTimer State.TimerFollows; dsimp only; split <;> rfl

theorem State.act_follows : s.act.TimerFollows := State.settleFireTimer_follows

/-- An expiry that comes due in a review finds a line LENT to take back (R110). -/
theorem State.reviewed_due (before : s.work.fireDue = false) (due : s.reviewed.work.fireDue = true) :
    s.reviewed.lentLines ≠ [] := by
  intro none
  obtain ⟨urgentNow, -, lentLines, -⟩ := s.reviewed_quiet.congr State.reviewed_gate
  have calm : s.urgentNow = false := by simp [State.urgentNow, ← lentLines, none]
  have list : s.evaluateUrgent.heldAfter = [] := by
    simp [State.heldAfter, State.heldBack, State.evaluateUrgent_dispatcher, calm]
  have waits := State.settleFireTimer_waits (s := s.evaluateUrgent.setDispatcher { s.evaluateUrgent.dispatcher with held := [] })
    rfl
  rw [State.reviewed, State.settleHeld, list, waits] at due
  have same : s.evaluateUrgent.work.fireDue = true := due
  rw [State.evaluateUrgent_work, before] at same
  cases same

theorem State.act_due (before : s.work.fireDue = false) (due : s.act.work.fireDue = true) : s.act.lentLines ≠ [] :=
  State.reviewed_due (State.passed_fireDue.trans before) due

/-- An act starts every call that can be started, so that the next one starts none and tells of nothing (R100). -/
theorem State.act_act_untold : s.act.act.work.told = false := by
  have gate : s.act.dispatcher.gateOpen = s.dispatcher.gateOpen := by
    rw [State.act_eq, State.reviewed_gate, State.passed_dispatcher]
  have exhausted : s.act.dispatcher.gateOpen = true → s.act.Exhausted := fun open' =>
    (State.passed_exhausts (gate.symm.trans open')).of_quiet s.passed.reviewed_quiet
  rw [State.act_eq s.act, State.reviewed_told, State.passed_of_exhausted exhausted]; rfl

/-- Nothing is left for the Dispatcher to take. -/
def State.Done (s : State) : Prop := s.work.told = false ∧ s.work.fireDue = false

theorem State.actFuel_of_done (h : s.Done) (n : Nat) : (State.actFuel n s).Done := by
  rw [State.actFuel_untold h.1 h.2]; exact h

theorem State.actFuel_reclaims (due : s.work.fireDue = true) (n : Nat) :
    State.actFuel (n + 1) s = State.actFuel n s.graceReclaim := by
  conv => lhs; unfold State.actFuel
  rw [if_pos due]

/-- Three rounds are enough for each lend, and three for the last acts. -/
theorem State.actFuel_done (n : Nat) : ∀ {s : State} {fuel : Nat}, s.work.fireDue = false → s.lendCount ≤ n →
    3 * n + 3 ≤ fuel → (State.actFuel fuel s).Done := by
  induction n using Nat.strong_induction_on with
  | _ n ih =>
    have reclaim : ∀ {x : State} {fuel : Nat}, x.work.fireDue = true → x.lentLines ≠ [] → x.lendCount ≤ n →
        3 * n + 1 ≤ fuel → (State.actFuel fuel x).Done := by
      intro x fuel due some count enough
      obtain ⟨l, rest, first⟩ := List.exists_cons_of_ne_nil some
      obtain ⟨k, rfl⟩ : ∃ k, fuel = k + 1 := ⟨fuel - 1, by omega⟩
      have fewer := State.graceReclaim_lendCount first
      rw [State.actFuel_reclaims due]
      exact ih x.graceReclaim.lendCount (by omega) State.graceReclaim_work.2 le_rfl (by omega)
    intro s fuel fire count enough
    have fewer := s.act_lendCount
    have fewer' := s.act.act_lendCount
    obtain ⟨k, rfl⟩ : ∃ k, fuel = k + 2 := ⟨fuel - 2, by omega⟩
    cases told : s.work.told with
    | false => exact State.actFuel_of_done ⟨told, fire⟩ _
    | true =>
      rw [State.actFuel_acts told fire]
      cases due : s.act.work.fireDue with
      | true => exact reclaim due (State.act_due fire due) (by omega) (by omega)
      | false =>
        cases told' : s.act.work.told with
        | false => exact State.actFuel_of_done ⟨told', due⟩ _
        | true =>
          rw [State.actFuel_acts told' due]
          cases due' : s.act.act.work.fireDue with
          | true => exact reclaim due' (State.act_due due due') (by omega) (by omega)
          | false => exact State.actFuel_of_done ⟨State.act_act_untold, due'⟩ _

/-- The fuel at the end of a command exceeds what the acts can need. -/
theorem State.actFuel_ends (s : State) : (State.actFuel 64 s).Done := by
  have few := s.lendCount_le
  cases due : s.work.fireDue with
  | false => exact State.actFuel_done 4 due few (by decide)
  | true =>
    rw [State.actFuel_reclaims due]
    exact State.actFuel_done 4 State.graceReclaim_work.2
      (((lendsFall_kept s).graceReclaim fun _ => id).count.trans few) (by decide)

/-- What every act brings about, and every grace reclaim keeps, stands after the acts. -/
theorem State.actFuel_keeps {P : State → Prop} (act : ∀ u : State, P u.act) (reclaim : ∀ u : State, P u → P u.graceReclaim)
    (n : Nat) : ∀ s : State, P s → P (State.actFuel n s) := by
  induction n with
  | zero => exact fun _ => id
  | succ n ih =>
    intro s h
    unfold State.actFuel; split
    · exact ih _ (reclaim s h)
    · split
      · exact ih _ (act s)
      · exact h

/-- Where the Dispatcher has been told of something, the condition stands at the end as R37 has it. -/
theorem State.actFuel_urgent (told : s.work.told = true) :
    (State.actFuel 64 s).dispatcher.urgent = (State.actFuel 64 s).urgentNow := by
  have stands := State.actFuel_keeps (P := fun u => u.work.told = true ∨ u.dispatcher.urgent = u.urgentNow)
    (fun u => .inr (State.reviewed_urgent (s := u.passed))) (fun u _ => .inl State.graceReclaim_work.1) 64 s (.inl told)
  refine stands.resolve_left fun told' => ?_
  rw [(State.actFuel_ends s).1] at told'
  cases told'

theorem State.graceReclaim_follows (h : s.TimerFollows) : s.graceReclaim.TimerFollows := by
  have tables : s.graceReclaim.tables = s.tables := congrArg (fun x => x.base.tables) s.graceReclaim_steady
  unfold State.TimerFollows State.t1
  rw [State.graceReclaim_dispatcher, tables]; exact h

theorem State.actFuel_follows (h : s.TimerFollows) (n : Nat) : (State.actFuel n s).TimerFollows :=
  State.actFuel_keeps (fun _ => State.act_follows) (fun _ => State.graceReclaim_follows) n s h

/-- With an expiry due, the first line LENT has its lend taken back, and no act lends it again (R38). -/
theorem State.actFuel_ends_lend {l : LineNo} {rest : List LineNo} (due : s.work.fireDue = true)
    (first : s.lentLines = l :: rest) : ((State.actFuel 64 s).ctl l).lend = .none := by
  rw [State.actFuel_reclaims due]
  exact (lendsFall_kept s.graceReclaim).actFuel 63 s.graceReclaim (fun _ => id) l (State.graceReclaim_ends first)

end acts

end Sys2Proof.Machine
end

section
/-! A SET of T1: pressure, periodic test timer, FIRE-wait timer and hold limit, and the acts of the Dispatcher on changed eligibility (R72, R73, R75, R110, R173); and the statement on the owners' effects of a SET (O58). -/

namespace Sys2Proof.Machine

/-- A state with another queue, Dispatcher, hold-limit timer and work. -/
def State.revised (s : State) (q : Queue) (d : Dispatcher) (h : Option Nat) (w : Work) : State :=
  (((s.setQueue q).setDispatcher d).setHoldTimer h).setWork w

/-- Two notes of work that differ at most in what the Dispatcher is told of. -/
structure Noted (w x : Work) : Prop where
  exit : x.exitDue = w.exitDue
  handOns : x.handOns = w.handOns
  told : w.told = true → x.told = true

section steps
variable {s v : State} {q : Queue} {d : Dispatcher} {h : Option Nat} {w : Work}

theorem Noted.refl (w : Work) : Noted w w := ⟨rfl, rfl, id⟩

theorem Noted.trans {x y : Work} (h : Noted w x) (g : Noted x y) : Noted w y :=
  ⟨g.exit.trans h.exit, g.handOns.trans h.handOns, g.told ∘ h.told⟩

/-- The queue once the pressure is settled (R73). -/
def Queue.pressed (q : Queue) (t : T1) : Queue :=
  { q with deferred := deferredCount q.records, pressure := pressureAfter t q.pressure (deferredCount q.records) }

theorem revised_settlePressure : ∃ x, Noted w x ∧ x.fireDue = w.fireDue ∧
    (s.revised q d h w).settlePressure = s.revised (q.pressed s.t1) d h x := by
  unfold State.settlePressure; dsimp only; split
  · exact ⟨w, .refl w, rfl, rfl⟩
  · exact ⟨{ w with told := true }, ⟨rfl, rfl, fun _ => rfl⟩, rfl, rfl⟩

theorem revised_settleFireTimer : ∃ x, Noted w x ∧
    (s.revised q d h w).settleFireTimer = s.revised q { d with fireTimer := fireExpiry s.t1.lendGrace d.held } h x ∧
    (expired (fireExpiry s.t1.lendGrace d.held) s.clock = true → fireExpiry s.t1.lendGrace d.held ≠ d.fireTimer →
      x.fireDue = true) := by
  unfold State.settleFireTimer; dsimp only; split
  · exact ⟨{ w with fireDue := true }, ⟨rfl, rfl, id⟩, rfl, fun _ _ => rfl⟩
  · next waits =>
    refine ⟨w, .refl w, rfl, fun past moved => (waits ?_).elim⟩
    rw [Bool.and_eq_true, Bool.or_eq_true, decide_eq_true_eq]
    exact ⟨past, .inl moved⟩

/-- The hold-limit timer started where R173 asks. -/
def heldTimer (s : State) (h : Option Nat) : Option Nat :=
  if s.hold = .held ∧ h = none ∧ s.t1.holdLimit ≠ 0 ∧ s.storeCorrupt = false then some (s.now + s.t1.holdLimit * 1000)
  else h

theorem revised_startHoldLimit : (s.revised q d h w).startHoldLimit = s.revised q d (heldTimer s h) w := by
  have corrupt : (s.revised q d h w).storeCorrupt = s.storeCorrupt := rfl
  unfold State.startHoldLimit heldTimer
  rw [corrupt]
  by_cases starts : s.hold = .held ∧ h = none ∧ s.t1.holdLimit ≠ 0 ∧ s.storeCorrupt = false
  · rw [if_pos starts]; exact if_pos starts
  · rw [if_neg starts]; exact if_neg starts

end steps

/-! ### The effect of a SET of T1 -/

section after
variable {v : State} {old : T1} {q : Queue} {d : Dispatcher} {h : Option Nat} {w : Work}

/-- The eligibility of a WAITING record changes with the table (R72). -/
def State.EligibilityChanges (v : State) (old : T1) : Prop :=
  ∃ r ∈ v.queue.records, r.state = .waiting ∧
    seizes (v.setTables { v.tables with t1 := old }) r ≠ seizes v r

/-- The Dispatcher is told of changed eligibility (R72). -/
def State.tellEligible (v : State) (old : T1) : State :=
  if v.queue.records.any fun r =>
      r.state == .waiting && (v.setTables { v.tables with t1 := old }).eligible r != v.eligible r
  then v.tell else v

/-- The pressure is settled against changed marks (R73). -/
def State.pressAgain (s : State) (new old : T1) : State :=
  if new.highMark ≠ old.highMark ∨ new.lowMark ≠ old.lowMark then s.settlePressure else s

/-- The periodic test timer is started for a changed interval (R75). -/
def State.testAgain (s : State) (new old : T1) : State :=
  if new.testInterval ≠ old.testInterval ∧ s.queue.gateOpened = true then
    s.setQueue { s.queue with testTimer := s.testExpiry }
  else s

/-- The FIRE-wait timer follows a changed grace (R110). -/
def State.graceAgain (s : State) (new old : T1) : State := if new.lendGrace ≠ old.lendGrace then s.settleFireTimer else s

/-- A hold limit that was 0 starts its timer (R173). -/
def State.limitAgain (s : State) (old : T1) : State :=
  if old.holdLimit = 0 ∧ s.holdsFire = true then s.startHoldLimit else s

theorem State.afterT1_eq (v : State) (old : T1) :
    v.afterT1 old = ((((v.tellEligible old).pressAgain v.t1 old).testAgain v.t1 old).graceAgain v.t1 old).limitAgain old := rfl

theorem State.tellEligible_revised : ∃ w, v.tellEligible old = v.revised v.queue v.dispatcher v.holdTimer w ∧
    Noted v.work w ∧ (v.EligibilityChanges old → w.told = true) := by
  unfold State.tellEligible; split
  · exact ⟨_, rfl, ⟨rfl, rfl, fun _ => rfl⟩, fun _ => rfl⟩
  · next none =>
    refine ⟨_, rfl, .refl _, fun ⟨r, mem, waiting, differs⟩ => (none (List.any_eq_true.2 ⟨r, mem, ?_⟩)).elim⟩
    rw [State.eligible_eq, State.eligible_eq, waiting, Bool.and_eq_true, bne_iff_ne]
    exact ⟨rfl, differs⟩

/-- The queue with the pressure settled, where a mark has changed (R73). -/
def Queue.pressAgain (q : Queue) (new old : T1) : Queue :=
  if new.highMark ≠ old.highMark ∨ new.lowMark ≠ old.lowMark then q.pressed new else q

/-- The queue with the periodic test timer started, where the interval has changed (R75). -/
def Queue.testAgain (q : Queue) (new old : T1) (expiry : Option Nat) : Queue :=
  if new.testInterval ≠ old.testInterval ∧ q.gateOpened = true then { q with testTimer := expiry } else q

/-- The Dispatcher with the FIRE-wait timer as a changed grace asks (R110). -/
def Dispatcher.graceAgain (d : Dispatcher) (new old : T1) : Dispatcher :=
  if new.lendGrace ≠ old.lendGrace then { d with fireTimer := fireExpiry new.lendGrace d.held } else d

theorem revised_pressAgain : ∃ x, Noted w x ∧ (v.revised q d h w).pressAgain v.t1 old = v.revised (q.pressAgain v.t1 old) d h x := by
  have unfolded : (v.revised q d h w).pressAgain v.t1 old = if v.t1.highMark ≠ old.highMark ∨ v.t1.lowMark ≠ old.lowMark then
      (v.revised q d h w).settlePressure else v.revised q d h w := rfl
  rw [unfolded]
  unfold Queue.pressAgain; split
  · obtain ⟨x, noted, -, settled⟩ := revised_settlePressure (s := v) (q := q) (d := d) (h := h) (w := w)
    exact ⟨x, noted, settled⟩
  · exact ⟨w, .refl w, rfl⟩

theorem revised_testAgain :
    (v.revised q d h w).testAgain v.t1 old = v.revised (q.testAgain v.t1 old v.testExpiry) d h w := by
  have unfolded : (v.revised q d h w).testAgain v.t1 old = if v.t1.testInterval ≠ old.testInterval ∧ q.gateOpened = true then
      v.revised { q with testTimer := v.testExpiry } d h w else v.revised q d h w := rfl
  rw [unfolded]
  unfold Queue.testAgain; split <;> rfl

theorem revised_graceAgain : ∃ x, Noted w x ∧
    (v.revised q d h w).graceAgain v.t1 old = v.revised q (d.graceAgain v.t1 old) h x ∧
    (v.t1.lendGrace ≠ old.lendGrace → expired (fireExpiry v.t1.lendGrace d.held) v.clock = true →
      fireExpiry v.t1.lendGrace d.held ≠ d.fireTimer → x.fireDue = true) := by
  have unfolded : (v.revised q d h w).graceAgain v.t1 old = if v.t1.lendGrace ≠ old.lendGrace then
      (v.revised q d h w).settleFireTimer else v.revised q d h w := rfl
  rw [unfolded]
  unfold Dispatcher.graceAgain; split
  · obtain ⟨x, noted, settled, due⟩ := revised_settleFireTimer (s := v) (q := q) (d := d) (h := h) (w := w)
    exact ⟨x, noted, settled, fun _ => due⟩
  · next same => exact ⟨w, .refl w, rfl, fun changed => (same changed).elim⟩

theorem revised_limitAgain (records : q.records = v.queue.records) :
    (v.revised q d h w).limitAgain old =
      v.revised q d (if old.holdLimit = 0 ∧ v.holdsFire = true then heldTimer v h else h) w := by
  have fire : (v.revised q d h w).holdsFire = v.holdsFire := by
    have own : (v.revised q d h w).holdsFire = q.records.any fun r => r.report.cls == .fire := rfl
    rw [own, records]; rfl
  unfold State.limitAgain
  rw [fire]; split
  · exact revised_startHoldLimit
  · rfl

theorem Queue.pressAgain_kept (new : T1) :
    (q.pressAgain new old).records = q.records ∧ (q.pressAgain new old).gateOpened = q.gateOpened := by
  unfold Queue.pressAgain; split <;> exact ⟨rfl, rfl⟩

theorem Queue.testAgain_records (new : T1) (expiry : Option Nat) : (q.testAgain new old expiry).records = q.records := by
  unfold Queue.testAgain; split <;> rfl

/-- A SET of T1 changes the queue's pressure and test timer, the FIRE-wait timer and the hold-limit timer. -/
theorem State.afterT1_revised :
    ∃ w, v.afterT1 old =
        v.revised ((v.queue.pressAgain v.t1 old).testAgain v.t1 old v.testExpiry) (v.dispatcher.graceAgain v.t1 old)
          (if old.holdLimit = 0 ∧ v.holdsFire = true then heldTimer v v.holdTimer else v.holdTimer) w ∧
      Noted v.work w ∧ (v.EligibilityChanges old → w.told = true) ∧
      (v.t1.lendGrace ≠ old.lendGrace → expired (fireExpiry v.t1.lendGrace v.dispatcher.held) v.clock = true →
        fireExpiry v.t1.lendGrace v.dispatcher.held ≠ v.dispatcher.fireTimer → w.fireDue = true) := by
  obtain ⟨w1, told, noted1, told1⟩ := State.tellEligible_revised (v := v) (old := old)
  obtain ⟨w2, noted2, pressed⟩ := revised_pressAgain (v := v) (old := old) (q := v.queue) (d := v.dispatcher)
    (h := v.holdTimer) (w := w1)
  obtain ⟨w4, noted4, timed, due⟩ := revised_graceAgain (v := v) (old := old)
    (q := (v.queue.pressAgain v.t1 old).testAgain v.t1 old v.testExpiry) (d := v.dispatcher) (h := v.holdTimer) (w := w2)
  refine ⟨w4, ?_, (noted1.trans noted2).trans noted4, fun changes => noted4.told (noted2.told (told1 changes)), due⟩
  rw [State.afterT1_eq, told, pressed, revised_testAgain, timed, revised_limitAgain]
  rw [Queue.testAgain_records, (Queue.pressAgain_kept _).1]

end after

/-! ### A SET of T1 -/

section set
variable {s : State} {e : T1}

/-- The settings once T1 is written. -/
def State.setT1 (s : State) (e : T1) : State := s.setTables { s.tables with t1 := e }

theorem fireExpiry_head (grace : Nat) (held : List (Nat × Nat)) :
    fireExpiry grace held = if grace = 0 then none else held.head?.map fun x => x.2 + grace := by
  cases held with
  | nil => simp [fireExpiry]
  | cons x rest => rfl

theorem Queue.after_eq (q : Queue) (new old : T1) (expiry : Option Nat) :
    (q.pressAgain new old).testAgain new old expiry =
      { q with
        deferred := if new.highMark ≠ old.highMark ∨ new.lowMark ≠ old.lowMark then deferredCount q.records else q.deferred
        pressure :=
          if new.highMark ≠ old.highMark ∨ new.lowMark ≠ old.lowMark then
            (if q.pressure then decide (new.lowMark < deferredCount q.records)
              else decide (new.highMark ≤ deferredCount q.records))
          else q.pressure
        testTimer := if new.testInterval ≠ old.testInterval ∧ q.gateOpened = true then expiry else q.testTimer } := by
  have pressure (count : Nat) : pressureAfter new q.pressure count =
      if q.pressure then decide (new.lowMark < count) else decide (new.highMark ≤ count) := by
    unfold pressureAfter
    congr 1
    rw [← decide_not]; exact decide_eq_decide.2 (by omega)
  unfold Queue.testAgain
  rw [(Queue.pressAgain_kept _).2]
  unfold Queue.pressAgain Queue.pressed
  rw [pressure]
  split <;> split <;> rfl

theorem State.holdsFire_iff : s.holdsFire = true ↔ ∃ r ∈ s.queue.records, r.report.cls = .fire := by
  simp [State.holdsFire]

/-- The hold-limit timer of a limit that was 0 (R173). -/
theorem heldTimer_eq (old : T1) :
    (if old.holdLimit = 0 ∧ s.holdsFire = true then heldTimer s s.holdTimer else s.holdTimer) =
      if old.holdLimit = 0 ∧ s.t1.holdLimit ≠ 0 ∧ s.hold = .held ∧ s.holdTimer = none ∧ s.storeCorrupt = false ∧
          ∃ r ∈ s.queue.records, r.report.cls = .fire then
        some (s.now + s.t1.holdLimit * 1000)
      else s.holdTimer := by
  unfold heldTimer
  split
  · next starts =>
    obtain ⟨zero, fire⟩ := starts
    rw [State.holdsFire_iff] at fire
    by_cases may : s.hold = .held ∧ s.holdTimer = none ∧ s.t1.holdLimit ≠ 0 ∧ s.storeCorrupt = false
    · obtain ⟨hold, idle, limit, sound⟩ := may
      rw [if_pos ⟨hold, idle, limit, sound⟩, if_pos ⟨zero, limit, hold, idle, sound, fire⟩]
    · rw [if_neg may, if_neg fun ⟨_, limit, hold, idle, sound, _⟩ => may ⟨hold, idle, limit, sound⟩]
  · next stays => rw [if_neg fun ⟨zero, _, _, _, _, fire⟩ => stays ⟨zero, State.holdsFire_iff.2 fire⟩]

/-- The lowest-numbered line that is LENT stands first (R38). -/
theorem State.lentLines_first {line : LineNo} (lent : (s.ctl line).lend = .lent)
    (lowest : ∀ k : LineNo, k < line → (s.ctl k).lend ≠ .lent) : ∃ rest, s.lentLines = line :: rest := by
  have sorted : s.lentLines.Pairwise (· < ·) := List.Pairwise.filter _ (by decide : allLines.Pairwise (· < ·))
  have mem : line ∈ s.lentLines := List.mem_filter.2 ⟨mem_allLines line, by rw [lent]; rfl⟩
  cases list : s.lentLines with
  | nil => rw [list] at mem; cases mem
  | cons x rest =>
    rw [list] at sorted mem
    have lent' : x ∈ s.lentLines := by rw [list]; exact List.mem_cons_self
    simp only [State.lentLines, List.mem_filter, beq_iff_eq] at lent'
    rcases List.mem_cons.1 mem with rfl | later
    · exact ⟨rest, rfl⟩
    · exact (lowest x ((List.pairwise_cons.1 sorted).1 line later) lent'.2).elim

/-- The response and the end of the command leave what the condition is read from. -/
theorem urgentHolds_answered {z : State} {w : Answer} :
    UrgentHolds ((z.setWork Work.idle).respond 0x31 w) ↔ UrgentHolds z := Iff.rfl

end set

/-- A SET of T1 (R72, R73, R75, R110, R173). -/
theorem set_t1 (t : Nat) (image : List Byte) (e : T1) (f : Bool) (s : State) (rested : s.Rested)
    (asked : s.Asked 0x31 (1 :: 1 :: 1 :: image)) (size : image.length = 18) (save : s.save = none)
    (decoded : T1.decode image = some (e, f)) :
    let old := s.t1
    let count := s.queue.records.countP fun r =>
      decide (2 < r.report.cls.rank) && (r.state == .waiting || r.state == .stranded)
    let marks := e.highMark ≠ old.highMark ∨ e.lowMark ≠ old.lowMark
    let set : State := { s with tables := { s.tables with t1 := e } }
    ∃ u, exec (.set t (1 :: 1 :: 1 :: image)) s = .next u ∧ u.tables = set.tables ∧
      u.queue =
        { s.queue with
          deferred := if marks then count else s.queue.deferred
          pressure :=
            if marks then (if s.queue.pressure then decide (e.lowMark < count) else decide (e.highMark ≤ count))
            else s.queue.pressure
          testTimer :=
            if e.testInterval ≠ old.testInterval ∧ s.queue.gateOpened = true then
              (if e.testInterval = 0 then none else some (max s.now t + e.testInterval * 3600 * 1000))
            else s.queue.testTimer } ∧
      u.holdTimer =
        (if old.holdLimit = 0 ∧ e.holdLimit ≠ 0 ∧ s.hold = .held ∧ s.holdTimer = none ∧ s.storeCorrupt = false ∧
            ∃ r ∈ s.queue.records, r.report.cls = .fire then
          some (max s.now t + e.holdLimit * 1000)
        else s.holdTimer) ∧
      (e.lendGrace ≠ old.lendGrace →
        u.dispatcher.fireTimer =
          (if e.lendGrace = 0 then none else u.dispatcher.held.head?.map fun x => x.2 + e.lendGrace) ∧
        ∀ x rest line, s.dispatcher.held = x :: rest → e.lendGrace ≠ 0 → x.2 + e.lendGrace ≤ max s.now t / 1000 →
          s.dispatcher.fireTimer ≠ some (x.2 + e.lendGrace) → (s.ctl line).lend = .lent →
          (∀ k : LineNo, k < line → (s.ctl k).lend ≠ .lent) → (u.ctl line).lend = .none) ∧
      ((∃ r ∈ s.queue.records, r.state = .waiting ∧ seizes s r ≠ seizes set r) →
        (u.dispatcher.urgent = true ↔ UrgentHolds u)) := by
  intro old count marks set
  have written : s.tables.write 1 0 image = some ({ s.tables with t1 := e }, f) := by simp [Tables.write, decoded]
  obtain ⟨a, served⟩ := exec_set_one (t := t) (table := 1) (first := 1) asked rfl rfl rfl nofun save size nofun written nofun
  obtain ⟨w, after, noted, told, due⟩ := State.afterT1_revised (v := (s.advance t).setT1 e) (old := old)
  generalize hy : ((s.advance t).setT1 e).afterT1 old = y at after
  have served' : exec (.set t (1 :: 1 :: 1 :: image)) s = .next (y.settle.respond 0x31 a) := by rw [← hy]; exact served
  have work : ((s.advance t).setT1 e).work = Work.idle := rested
  have exit : y.work.exitDue = false := by rw [after]; exact noted.exit.trans (by rw [work]; rfl)
  have handOns : y.work.handOns = [] := by rw [after]; exact noted.handOns.trans (by rw [work]; rfl)
  have steady := State.actFuel_steady 64 y
  rw [State.settle_told y exit handOns] at served'
  have tables : (State.actFuel 64 y).tables = set.tables := (congrArg (fun x => x.base.tables) steady).trans (by rw [after]; rfl)
  have follows (h : y.TimerFollows) := State.actFuel_follows h 64
  have ends {line : LineNo} {rest : List LineNo} := State.actFuel_ends_lend (s := y) (l := line) (rest := rest)
  have urgent := State.actFuel_urgent (s := y)
  have queue : (State.actFuel 64 y).queue = y.queue := congrArg Steady.queue steady
  have holdTimer : (State.actFuel 64 y).holdTimer = y.holdTimer := congrArg Steady.holdTimer steady
  generalize State.actFuel 64 y = z at *
  refine ⟨_, served', tables, ?_, ?_, fun changed => ⟨?_, ?_⟩, fun changes => ?_⟩
  · have three : e.testInterval * 3600 * 1000 = e.testInterval * 3600000 := by omega
    rw [three]
    refine queue.trans ?_
    rw [after]
    refine (Queue.after_eq _ _ _ _).trans ?_
    rw [deferredCount_eq]; rfl
  · refine holdTimer.trans ?_
    rw [after]
    exact heldTimer_eq (s := (s.advance t).setT1 e) old
  · have timed : y.TimerFollows := by
      unfold State.TimerFollows
      rw [after]
      have grace : ((s.advance t).setT1 e).dispatcher.graceAgain ((s.advance t).setT1 e).t1 old =
          { s.dispatcher with fireTimer := fireExpiry e.lendGrace s.dispatcher.held } := if_pos changed
      show (Dispatcher.graceAgain _ _ _).fireTimer = fireExpiry e.lendGrace (Dispatcher.graceAgain _ _ _).held
      rw [grace]
    have t1 : z.t1 = e := congrArg Tables.t1 tables
    have followed : z.dispatcher.fireTimer = fireExpiry z.t1.lendGrace z.dispatcher.held := follows timed
    rw [t1, fireExpiry_head] at followed
    exact followed
  · intro x rest line held nonzero past moved lent lowest
    have expiry : fireExpiry e.lendGrace s.dispatcher.held = some (x.2 + e.lendGrace) := by
      rw [held]; exact if_neg nonzero
    have fire : w.fireDue = true := due changed
      (by show expired (fireExpiry e.lendGrace s.dispatcher.held) (max s.now t / 1000) = true
          rw [expiry]; exact decide_eq_true past)
      (by show fireExpiry e.lendGrace s.dispatcher.held ≠ s.dispatcher.fireTimer
          rw [expiry]; exact Ne.symm moved)
    obtain ⟨others, first⟩ := State.lentLines_first lent lowest
    exact ends (by rw [after]; exact fire) (by rw [after]; exact first)
  · have holds := urgent (by rw [after]; exact told changes)
    rw [urgentHolds_answered, ← State.urgentNow_iff, ← holds]; rfl

/-- Settles O58: T1 by `set_t1`, T2 by `set_t2`, T3, T4 and T5 by `set_t3`, `set_t4` and `set_t5`. -/
theorem setsActOnTheirOwners : Obligations.SetsActOnTheirOwners := by
  refine ⟨fun t image e f s rested asked size save decoded => ?_,
    fun t line image e f s rested asked size save decoded fitted gate => ?_,
    fun t e image n f s rested asked size save service decoded gate kept => ?_,
    fun t r image n f s rested asked size save service decoded kept => ?_,
    fun t i image n f s rested asked size save service decoded => ?_⟩
  · exact set_t1 t image e f s rested asked size save decoded
  · exact set_t2 t line image e f s rested asked size save decoded fitted gate
  · exact set_t3 t e image n f s rested asked size save service decoded kept
  · exact set_t4 t r image n f s rested asked size save service decoded kept
  · exact set_t5 t i image n f s rested asked size save service decoded

end Sys2Proof.Machine
end

section
/-! SET, its checks in their order and what a SET that passes them writes and answers (R81, R166, R167). -/

namespace Sys2Proof.Machine

/-! ### The CHAIN check (R81) -/

theorem chainKept_false_iff {old new : Tables} : chainKept old new = false ↔
    ∃ r : RouteNo, ¬WalkBreaks old.t3 (old.t4[r.val]).head ∧ WalkBreaks new.t3 (new.t4[r.val]).head := by
  refine ⟨fun lost => ?_, fun ⟨r, unbroken, breaks⟩ => ?_⟩
  · by_contra none
    rw [chainKept_of fun r unbroken breaks => none ⟨r, unbroken, breaks⟩] at lost
    cases lost
  · refine List.all_eq_false.2 ⟨r, mem_allRoutes r, ?_⟩
    rw [← walk_broken_iff] at unbroken breaks
    simp [unbroken, breaks]

/-! ### The checks in their order (R167) -/

section checks
variable {s : State} {table first count : Nat} {bs : List Byte}

/-- The table is one that a SET may write in SERVICE alone, and the part is in OPERATE (R167). -/
def State.Guards (s : State) (table : Nat) : Prop := 3 ≤ table ∧ table ≤ 5 ∧ s.mode = .operate

theorem State.guards_iff : s.Guards table ↔ (table = 3 ∨ table = 4 ∨ table = 5) ∧ s.mode = .operate := by
  unfold State.Guards
  rw [← and_assoc]
  exact and_congr_left' (by omega)

/-- The images of a SET decoded into the working tables, the places of unfitted lines skipped (R167). -/
def State.decodes (s : State) (table first count : Nat) (bs : List Byte) : Option (Tables × Bool) :=
  Tables.writeAll table (fun i => decide (table = 2 ∧ s.fitted ≤ i)) (first - 1)
    (pieces (entrySize table) count bs) s.tables

theorem State.writeTables_range (wrong : rangeOk table first count = false) :
    s.writeTables table first count bs = (s, .plain .range) := by
  simp [State.writeTables, wrong]

variable (range : rangeOk table first count = true)
include range

theorem State.writeTables_guarded (guarded : s.Guards table) :
    s.writeTables table first count bs = (s, .plain .mode) := by
  unfold State.writeTables
  rw [range, if_neg (by decide), if_pos (State.guards_iff.1 guarded)]

variable (free : ¬s.Guards table)
include free

theorem State.writeTables_saving (saving : s.save ≠ none) :
    s.writeTables table first count bs = (s, .plain .busy) := by
  unfold State.writeTables
  rw [range, if_neg (by decide), if_neg (mt State.guards_iff.2 free), if_pos (Option.isSome_iff_ne_none.2 saving)]

variable (idle : s.save = none)
include idle

theorem State.writeTables_undecoded (undecoded : s.decodes table first count bs = none) :
    s.writeTables table first count bs = (s, .plain .range) := by
  unfold State.decodes at undecoded
  unfold State.writeTables
  rw [range, if_neg (by decide), if_neg (mt State.guards_iff.2 free), idle, if_neg (by decide)]
  dsimp only
  rw [undecoded]

/-- Past the other checks a SET is refused with CHAIN or written (R81, R167). -/
theorem State.writeTables_decoded {new : Tables} {clamped : Bool}
    (decoded : s.decodes table first count bs = some (new, clamped)) :
    s.writeTables table first count bs =
      if (table = 3 ∨ table = 4) ∧ chainKept s.tables new = false then (s, .plain .chain)
      else ((s.setTables new).afterSet table s.tables, { Answer.plain .ok with clamped }) := by
  unfold State.decodes at decoded
  unfold State.writeTables
  rw [range, if_neg (by decide), if_neg (mt State.guards_iff.2 free), idle, if_neg (by decide)]
  dsimp only
  rw [decoded]

end checks

/-! ### What the owners' effects leave (R167) -/

section owners
variable (s : State) (old : Tables)

theorem State.afterT2_base : (s.afterT2 old).base = s.base :=
  foldl_view State.base (State.afterEntry old)
    (fun u l => by
      unfold State.afterEntry; split
      · exact base_of_still (u.enabledChanged_still l _)
      · rfl)
    allLines s

theorem State.afterT3_base : (s.afterT3 old).base = s.base := by
  have limited : (allReceivers.foldl (State.limitOne old) s).base = s.base :=
    foldl_view State.base (State.limitOne old) (fun u e => by unfold State.limitOne; split <;> rfl) allReceivers s
  rw [State.afterT3_eq, State.evaluateRoutes_base, limited]

/-- What the written settings do at once leaves the tables and the request side of the Host Link. -/
theorem State.afterSet_base (table : Nat) : (s.afterSet table old).base = s.base := by
  unfold State.afterSet; split
  · obtain ⟨w, revised, -⟩ := State.afterT1_revised (v := s) (old := old.t1)
    have kept (q : Queue) (d : Dispatcher) (h : Option Nat) (w : Work) : (s.revised q d h w).base = s.base := rfl
    rw [revised, kept]
  · exact s.afterT2_base old
  · exact s.afterT3_base old
  · exact s.evaluateRoutes_base
  · exact base_of_still (still_of_calm s.reportRoutes_calm)
  · rfl

end owners

/-! ### The request (R153, R167) -/

section request
variable {t : Nat} {s : State} {table first count : Byte} {images : List Byte}

theorem exec_set : exec (.set t (table :: first :: count :: images)) s =
    .next ((s.advance t).serve 0x31 (table :: first :: count :: images)
      (setLengthOk (table :: first :: count :: images)) []
      fun u => u.writeTables table.toNat first.toNat count.toNat images) := rfl

theorem setLengthOk_sized (size : images.length = count.toNat * entrySize table.toNat) :
    setLengthOk (table :: first :: count :: images) = true := by
  have number : argument (table :: first :: count :: images) 2 = count.toNat := rfl
  have kind : argument (table :: first :: count :: images) 0 = table.toNat := rfl
  unfold setLengthOk
  rw [number, kind]
  simp [size]; omega

/-- A SET of a table that does not exist has no length of its own. -/
theorem setLengthOk_unknown (none : entrySize table.toNat = 0) :
    setLengthOk (table :: first :: count :: images) = true := by
  have kind : argument (table :: first :: count :: images) 0 = table.toNat := rfl
  unfold setLengthOk
  rw [kind, none]; simp

variable (rested : s.Rested) (asked : s.Asked 0x31 (table :: first :: count :: images))
  (sized : setLengthOk (table :: first :: count :: images) = true)
include rested asked sized

theorem exec_set_refused {status : Status}
    (refuses : (s.advance t).writeTables table.toNat first.toNat count.toNat images = (s.advance t, .plain status)) :
    exec (.set t (table :: first :: count :: images)) s =
      .next ((s.advance t).answered 0x31 status.code 0 []) := by
  rw [exec_set, State.serve_unchanged _ (State.asked_advance _ t asked) (State.rested_advance _ t rested) sized refuses]
  rfl

omit rested in
theorem exec_set_written {new : Tables} {clamped : Bool}
    (writes : (s.advance t).writeTables table.toNat first.toNat count.toNat images =
      (((s.advance t).setTables new).afterSet table.toNat s.tables, { Answer.plain .ok with clamped })) :
    ∃ u, exec (.set t (table :: first :: count :: images)) s = .next u ∧ u.tables = new ∧
      Answered s u 0x31 0 (if clamped then 1 else 0) [] := by
  have base := ((s.advance t).setTables new).afterSet_base s.tables table.toNat
  rw [exec_set, State.serve_effect _ (State.asked_advance _ t asked) sized writes]
  refine ⟨_, rfl, ?_, ?_⟩
  · rw [State.respond_tables]
    exact congrArg Base.tables ((State.settle_base _).trans base)
  · have answered := answered_of_base (kind := 0x31) (a := { Answer.plain .ok with clamped }) base
    cases clamped <;> exact answered

end request

theorem rangeOk_unknown {table first count : Nat} (unknown : table = 0 ∨ 6 < table) :
    rangeOk table first count = false := by
  simp only [rangeOk, Bool.and_eq_false_iff, decide_eq_false_iff_not]
  omega

theorem entrySize_unknown {table : Nat} (unknown : table = 0 ∨ 6 < table) : entrySize table = 0 := by
  unfold entrySize
  split <;> omega

/-- Settles O57: each check answers by the equation of `writeTables` for it, and a SET that passes them all by `exec_set_written`. -/
theorem setIsCheckedAndWritten : Obligations.SetIsCheckedAndWritten := by
  refine ⟨fun t table first count images s rested asked size _ _ => ?_,
    fun t table first count images s rested asked unknown => ?_⟩
  · have sized := setLengthOk_sized (first := first) size
    have refused (status : Status) := exec_set_refused (t := t) (status := status) rested asked sized
    simp only [Bool.not_eq_false]
    refine ⟨fun wrong => refused .range (State.writeTables_range wrong),
      fun range guarded => refused .mode (State.writeTables_guarded range guarded),
      fun range free saving => refused .busy (State.writeTables_saving range free saving),
      fun range free idle undecoded => refused .range (State.writeTables_undecoded range free idle undecoded),
      fun new clamped range free idle decoded => ?_⟩
    have checked := State.writeTables_decoded (s := s.advance t) range free idle decoded
    rw [← chainKept_false_iff]
    exact ⟨fun breaks => refused .chain (checked.trans (if_pos breaks)),
      fun kept => exec_set_written asked sized (checked.trans (if_neg kept))⟩
  · exact exec_set_refused rested asked (setLengthOk_unknown (entrySize_unknown unknown))
      (State.writeTables_range (rangeOk_unknown unknown))

end Sys2Proof.Machine
end

section
/-! The end of a backoff and the end of a rest: the receiver, its failures, and what stays (R86, R90, R91, R93). -/

namespace Sys2Proof.Machine

/-- A receiver that is READY or CALLING, with some failures and no due time. -/
def RxStatus.Open (x : RxStatus) (failures : Nat) : Prop :=
  x.failures = failures ∧ x.due = none ∧ (x.state = .ready ∨ x.state = .calling)

/-- With no exit due, the end of a command's work is recompositions and then acts. -/
theorem State.settle_drained_act {s : State} (exit : s.work.exitDue = false) : ActKept s.drain s.settle := by
  rw [State.settle, State.settleExit_idle s exit]
  exact (State.actFuel_act 64 s.drain).trans (.of_same rfl rfl)

/-- A receiver that a command has made READY is READY at its end, or CALLING for a call that has begun. -/
theorem State.settle_rx_open {s : State} {e : RxNo} {n : Nat} (exit : s.work.exitDue = false)
    (ready : s.rx e = { state := .ready, failures := n, due := none }) : (s.settle.rx e).Open n := by
  have drained : s.drain.rx e = { state := .ready, failures := n, due := none } :=
    (State.rx_congr (receivers_of_calm s.drain_calm) e).trans ready
  obtain ⟨-, -, acted⟩ := State.settle_drained_act exit
  obtain ⟨failures, -, opens⟩ := acted e
  rw [drained] at failures opens
  obtain ⟨due, state⟩ := opens rfl rfl
  exact ⟨failures, due, state⟩

/-- A receiver that is not READY is left alone by the end of a command's work (R86). -/
theorem State.settle_rx_shut {s : State} {e : RxNo} (exit : s.work.exitDue = false) (shut : (s.rx e).state ≠ .ready) :
    s.settle.rx e = s.rx e := by
  have drained : s.drain.rx e = s.rx e := State.rx_congr (receivers_of_calm s.drain_calm) e
  obtain ⟨-, -, acted⟩ := State.settle_drained_act exit
  obtain ⟨-, stays, -⟩ := acted e
  rw [stays (by rw [drained]; exact shut), drained]

theorem State.settle_channels {s : State} (exit : s.work.exitDue = false) : s.settle.channels = s.channels := by
  obtain ⟨-, channels, -⟩ := s.settle_exit
  rw [channels, State.settleExit_idle s exit]

section backoff
variable {t : Nat} {e : RxNo} {s : State}

theorem State.backAgain_rx : ((s.advance t).backAgain e).rx e = { state := .ready, failures := (s.rx e).failures, due := none } :=
  State.setRx_rx_same _ e _

end backoff

section rest
variable {t due : Nat} {e : RxNo} {s : State}

/-- The receiver is READY without failures, the queue re-examined, and the Dispatcher told (R91). -/
def State.restedAgain (s : State) (e : RxNo) : State := ((s.setRx e RxStatus.reset).reexamine).tell

theorem exec_restEnd (exhausted : (s.rx e).state = .exhausted) (timer : (s.rx e).due = some due)
    (passed : due ≤ max s.now t / 1000) : exec (.restEnd t e) s = .next ((s.advance t).restedAgain e).settle := by
  have same : (s.advance t).rx e = s.rx e := rfl
  have ended : expired (some due) (s.advance t).clock = true := decide_eq_true passed
  simp [exec, execRestEnd, same, exhausted, timer, ended, State.restedAgain]

end rest

/-- Settles O33: the receiver is made READY, and the acts that follow call it or leave it. -/
theorem backoffAndRestEnd : Obligations.BackoffAndRestEnd := by
  refine ⟨fun t e due s rested backoff timer passed => ?_, fun t e due s rested exhausted timer passed => ?_⟩
  · have idle : s.work = Work.idle := rested
    have exit : ((s.advance t).backAgain e).work.exitDue = false := Rested.exitDue (s := s) rested
    have handOns : ((s.advance t).backAgain e).work.handOns = [] := congrArg Work.handOns idle
    obtain ⟨failures, none, states⟩ := State.settle_rx_open exit State.backAgain_rx
    refine ⟨_, exec_backoffEnd backoff timer passed, failures, none, states, fun gate => ?_,
      State.settle_steady _ exit handOns⟩
    have closed : ((s.advance t).backAgain e).Closed := State.Closed.of_rested (s := s) rested gate
    rw [closed.settle.rx, State.backAgain_rx]
  · have calm : ((s.advance t).restedAgain e).calm = ((s.advance t).setRx e RxStatus.reset).calm := State.reexamine_calm _
    have exit : ((s.advance t).restedAgain e).work.exitDue = false :=
      (State.reexamine_exitDue _).trans (Rested.exitDue (s := s) rested)
    have ready : ((s.advance t).restedAgain e).rx e = { state := .ready, failures := 0, due := none } :=
      (State.rx_congr (receivers_of_calm calm) e).trans (State.setRx_rx_same _ e _)
    obtain ⟨failures, none, states⟩ := State.settle_rx_open exit ready
    refine ⟨_, exec_restEnd exhausted timer passed, failures, none, states, ?_, ?_⟩
    · exact (reports_of_roster (State.settle_roster exit)).trans (reports_of_roster (State.reexamine_roster _))
    · have kept : ((s.advance t).restedAgain e).channels = ((s.advance t).setRx e RxStatus.reset).channels :=
        channels_of_still (still_of_calm calm)
      exact (State.settle_channels exit).trans kept

end Sys2Proof.Machine
end

section
/-! The hand-back of a line with the result of its call, and the receiver's part in it (R22, R23, R32, R88, R89, R93). -/

namespace Sys2Proof.Machine

/-! ### The backoff (R89) -/

/-- The doubling stops past the cap, so that the capped value is that of all its doublings. -/
theorem doubled_cases (base cap : Nat) : ∀ n, doubled base cap n = base * 2 ^ n ∨
    (cap < doubled base cap n ∧ doubled base cap n ≤ base * 2 ^ n)
  | 0 => .inl (by simp [doubled])
  | n + 1 => by
    have grows : base * 2 ^ (n + 1) = 2 * (base * 2 ^ n) := by rw [Nat.pow_succ]; ring
    unfold doubled
    rw [grows]
    rcases doubled_cases base cap n with all | ⟨past, below⟩
    · rw [all]; split
      · next past => exact .inr ⟨past, by omega⟩
      · exact .inl rfl
    · rw [if_pos past]; exact .inr ⟨past, by omega⟩

theorem backoffSeconds_eq (base cap f : Nat) : backoffSeconds base cap f = backoffTime base cap f := by
  unfold backoffSeconds backoffTime
  rcases doubled_cases base cap (f - 1) with all | ⟨past, below⟩
  · rw [all]
  · omega

/-! ### The result applied to the receiver (R88, R89, R93) -/

section receiver
variable (s : State) (e : RxNo) (r : CallResult)

/-- But for the receiver's own status, its result leaves what the queue's work leaves. -/
theorem State.receiverResult_stands (x : Option CallResult) : ∃ y, Stands (s.setRx e y) (s.receiverResult e x) := by
  have told (y : RxStatus) : Stands (s.setRx e y) (s.setRx e y).tell := .of_calm rfl rfl rfl
  unfold State.receiverResult; split
  · split
    · dsimp only; split
      · exact ⟨s.charged e, .of_calm (State.reexamine_calm _) (State.reexamine_roster _) (State.reexamine_aside _)⟩
      · exact ⟨s.charged e, .of_calm rfl rfl rfl⟩
    · exact ⟨_, told _⟩
  · exact ⟨_, told _⟩

theorem State.receiverResult_charged (caused : r.receiverCaused = true) :
    (s.receiverResult e (some r)).rx e = s.charged e := by
  unfold State.receiverResult; dsimp only
  rw [if_pos caused]; split
  · exact (State.rx_congr (receivers_of_calm (State.reexamine_calm _)) e).trans (State.setRx_rx_same _ e _)
  · exact State.setRx_rx_same _ e _

theorem State.receiverResult_uncharged (other : r.receiverCaused = false) :
    (s.receiverResult e (some r)).rx e = { state := .ready, failures := (s.rx e).failures, due := none } := by
  unfold State.receiverResult; dsimp only
  rw [if_neg (by simp [other])]
  exact State.setRx_rx_same _ e _

theorem State.receiverResult_exitDue (x : Option CallResult) : (s.receiverResult e x).work.exitDue = s.work.exitDue := by
  unfold State.receiverResult; split
  · split
    · dsimp only; split
      · exact State.reexamine_exitDue (s.setRx e (s.charged e))
      · rfl
    · rfl
  · rfl

end receiver

/-! ### The result applied to the line (R22, R23) -/

section line
variable (s : State) (l : LineNo) (p : Purpose) (x : Option CallResult)

/-- The third call in a row without dial tone (R22). -/
def State.noToneFound : State :=
  (((s.setCtl l { s.ctl l with noTone := 3, fault := .noTone, probeTimer := some (s.now + 300000) }).lineNotice l).tell.report
    (trouble .new 902 (num l))).faultActive .lineNoTone (num l)

/-- A probe that has heard dial tone (R23). -/
def State.toneFound : State :=
  (((s.setCtl l { s.ctl l with fault := .none, probeTimer := none }).lineNotice l).tell.report
    (trouble .restore 902 (num l))).faultCleared .lineNoTone (num l)

/-- What the Line Controller makes of a result: nothing, a count, the 300 s of a probe, or a fault that begins or ends. -/
theorem State.lineResult_cases :
    s.lineResult l p x = s ∨ s.lineResult l p x = s.setCtl l { s.ctl l with noTone := (s.ctl l).noTone + 1 } ∨
      s.lineResult l p x = s.setCtl l { s.ctl l with probeTimer := some (s.now + 300000) } ∨
      s.lineResult l p x = s.noToneFound l ∨ s.lineResult l p x = s.toneFound l := by
  unfold State.lineResult; split
  · unfold State.probeResult; split
    · exact .inr (.inr (.inr (.inr rfl)))
    · exact .inr (.inr (.inl rfl))
  · split
    · unfold State.countNoTone; dsimp only; split
      · exact .inl rfl
      · split
        · exact .inr (.inl rfl)
        · exact .inr (.inr (.inr (.inl rfl)))
    · exact .inl rfl

theorem State.noToneFound_calm : (s.noToneFound l).calm =
    (s.setCtl l { s.ctl l with noTone := 3, fault := .noTone, probeTimer := some (s.now + 300000) }).calm := by
  simp [State.noToneFound, State.lineNotice]

theorem State.toneFound_calm : (s.toneFound l).calm =
    (s.setCtl l { s.ctl l with fault := .none, probeTimer := none }).calm := by
  simp [State.toneFound, State.lineNotice]

theorem State.lineResult_receivers : (s.lineResult l p x).receivers = s.receivers := by
  rcases s.lineResult_cases l p x with h | h | h | h | h <;> rw [h]
  · rfl
  · rfl
  · exact (receivers_of_calm (s.noToneFound_calm l)).trans rfl
  · exact (receivers_of_calm (s.toneFound_calm l)).trans rfl

theorem State.lineResult_exitDue : (s.lineResult l p x).work.exitDue = s.work.exitDue := by
  have noticed (u : State) : (u.lineNotice l).tell.work.exitDue = u.work.exitDue := State.notice_exitDue u _
  rcases s.lineResult_cases l p x with h | h | h | h | h <;> rw [h]
  · rfl
  · rfl
  · rw [State.noToneFound, State.faultActive_work, State.report_exitDue _ (by simp [trouble]), noticed]; rfl
  · rw [State.toneFound, State.faultCleared_work, State.report_exitDue _ (by simp [trouble]), noticed]; rfl

end line

/-! ### The line handed back (R32) -/

section back
variable (s : State) (l : LineNo) (p : Purpose) (x : Option CallResult)

theorem State.vacated_receivers : (s.vacated l).receivers = s.receivers := by
  unfold State.vacated; split
  · rw [State.tell_receivers]; exact s.lineOff_receivers l
  · split
    · rw [State.tell_receivers]; exact s.beginLend_receivers l
    · rw [State.tell_receivers]; exact s.recompute_receivers l

theorem State.vacated_exitDue : (s.vacated l).work.exitDue = s.work.exitDue := by
  have off : (s.lineOff l).work.exitDue = s.work.exitDue := by
    rw [State.lineOff_eq, State.faultCleared_work, State.faultCleared_work, State.recompute_exitDue]; rfl
  have told (u : State) : u.tell.work.exitDue = u.work.exitDue := rfl
  unfold State.vacated; split
  · exact (told _).trans off
  · split
    · rw [told, State.beginLend, State.recompute_exitDue, State.setCtl_work]
    · rw [told, State.recompute_exitDue]

theorem State.vacated_queue : (s.vacated l).queue = s.queue := by
  unfold State.vacated; split
  · rw [State.tell_queue]; exact s.lineOff_queue l
  · split
    · rw [State.tell_queue, State.beginLend, State.recompute_queue, State.setCtl_queue]
    · rw [State.tell_queue, State.recompute_queue]

theorem State.vacated_call : (s.vacated l).call l = s.call l := by
  have off : (s.lineOff l).call l = s.call l := by
    rw [State.lineOff_eq, State.call_congr (State.faultCleared_lines _ _ _), State.call_congr (State.faultCleared_lines _ _ _),
      State.recompute_call, State.call, State.offBegun_line, if_pos rfl]; rfl
  have told (u : State) : u.tell.call l = u.call l := rfl
  unfold State.vacated; split
  · exact (told _).trans off
  · split
    · show (s.beginLend l).call l = s.call l
      rw [State.beginLend, State.recompute_call, State.setCtl_call]
    · show (s.recompute l).call l = s.call l
      rw [State.recompute_call]

theorem State.vacated_grant (grant : (s.ctl l).grant = none) : ((s.vacated l).ctl l).grant = none := by
  have off : ((s.lineOff l).ctl l).grant = none := by
    rw [State.lineOff_eq, State.ctl_congr (State.faultCleared_lines _ _ _), State.ctl_congr (State.faultCleared_lines _ _ _),
      State.recompute_ctl_same, State.ctl, State.offBegun_line, if_pos rfl]; rfl
  have told (u : State) : (u.tell.ctl l).grant = (u.ctl l).grant := rfl
  unfold State.vacated; split
  · exact (told _).trans off
  · split
    · show ((s.beginLend l).ctl l).grant = none
      rw [State.beginLend, State.recompute_ctl_same, State.setCtl_ctl_same]; exact grant
    · show ((s.recompute l).ctl l).grant = none
      rw [State.recompute_ctl_same]; exact grant

theorem State.yieldPower_work : (s.yieldPower l).work = s.work := by
  unfold State.yieldPower; split
  · exact congrArg (fun y => y.2.1) ((State.startNext_unpowered (s.stepDown l)).trans (s.stepDown_unpowered l))
  · rfl

theorem State.yieldPower_link : (s.yieldPower l).link = s.link := by
  unfold State.yieldPower; split
  · exact congrArg (fun y => y.2.2.1) ((State.startNext_unpowered (s.stepDown l)).trans (s.stepDown_unpowered l))
  · rfl

theorem State.handBack_receivers_all : (s.handBack l p x).receivers = s.receivers := by
  rw [State.handBack_eq, State.vacated_receivers, State.yieldPower_receivers]
  exact s.lineResult_receivers l p x

theorem State.handBack_exitDue : (s.handBack l p x).work.exitDue = s.work.exitDue := by
  rw [State.handBack_eq, State.vacated_exitDue, State.yieldPower_work]
  exact s.lineResult_exitDue l p x

theorem State.handBack_queue : (s.handBack l p x).queue = (s.lineResult l p x).queue := by
  rw [State.handBack_eq, State.vacated_queue]
  exact congrArg Steady.queue (State.yieldPower_steady (s.takenBack l p x) l)

theorem State.handBack_call : (s.handBack l p x).call l = none := by
  rw [State.handBack_eq, State.vacated_call, State.yieldPower_call, State.takenBack_call]

theorem State.handBack_grant : ((s.handBack l p x).ctl l).grant = none := by
  obtain ⟨power, promotion, yielded, -⟩ := (s.takenBack l p x).yieldPower_ctl l
  obtain ⟨grant, -⟩ := State.takenBack_ctl (s := s) (l := l) p x
  rw [State.handBack_eq]
  refine State.vacated_grant _ l ?_
  rw [yielded]; exact grant

end back

/-! ### A line that stays enabled, and one that goes OFF (R25, R32) -/

section own
variable {s : State} {l : LineNo}

/-- What a hand-back leaves of a line that stays enabled: the result's faults and count, and the lend that begins or the class occupancy (R18, R32, R34, R36). -/
structure HandedBack (s r t : State) (l : LineNo) : Prop where
  faults : t.link.faults = r.link.faults
  noTone : (t.ctl l).noTone = (r.ctl l).noTone
  fault : (t.ctl l).fault = (r.ctl l).fault
  probeTimer : (t.ctl l).probeTimer = (r.ctl l).probeTimer
  grant : (t.ctl l).grant = none
  enabled : (t.ctl l).disablePending = false
  pending : (s.ctl l).lend = .pending → (t.ctl l).lend = .lent ∧ (t.ctl l).occupancy = .lent ∧
    (t.ctl l).lendIdle =
      if (s.ctl l).classOcc = .free ∧ s.t1.lendIdle ≠ 0 then some (s.now + s.t1.lendIdle * 1000) else none
  unlent : (s.ctl l).lend = .none → (t.ctl l).lend = .none ∧ (t.ctl l).occupancy = shown (s.ctl l).classOcc

theorem State.recompute_faults (s : State) (l : LineNo) : (s.recompute l).link.faults = s.link.faults := by
  unfold State.recompute; dsimp only; split
  · rfl
  · exact State.notice_faults _ _

/-- A line that is on, not disabled and without grant and call shows the lend that begins, or its class occupancy. -/
theorem State.vacated_handedBack (enabled : (s.ctl l).disablePending = false) (grant : (s.ctl l).grant = none)
    (call : s.call l = none) (fitted : l.val < s.fitted) (power : (s.ctl l).power ≠ .off) :
    HandedBack s s (s.vacated l) l := by
  by_cases pending : (s.ctl l).lend = .pending
  · have begun : s.vacated l = (s.beginLend l).tell := by
      unfold State.vacated
      rw [if_neg (by simp [enabled]), if_pos pending]
    generalize hx : ({ s.ctl l with
      lend := .lent
      lendIdle := if (s.ctl l).classOcc = .free then s.lendTimerStart else none } : LineCtl) = x
    have lent : x.lend = .lent := by rw [← hx]
    have lends : s.beginLend l = (s.setCtl l x).recompute l := by rw [← hx]; rfl
    have ctl : (s.vacated l).ctl l = { x with occupancy := .lent } := by
      have shows := State.occupancyNow_on (s.setCtl l x) l fitted (by rw [State.setCtl_ctl_same, ← hx]; exact power)
      rw [State.setCtl_ctl_same, if_pos lent] at shows
      have own : (s.vacated l).ctl l = ((s.setCtl l x).recompute l).ctl l := by rw [begun, lends]; rfl
      rw [own, State.recompute_ctl_same, State.setCtl_ctl_same, shows]
    refine ⟨?_, ?_, ?_, ?_, ?_, ?_, fun _ => ⟨?_, ?_, ?_⟩, fun none => ?_⟩
    · rw [begun, lends]; exact State.recompute_faults _ l
    · rw [ctl, ← hx]
    · rw [ctl, ← hx]
    · rw [ctl, ← hx]
    · rw [ctl, ← hx]; exact grant
    · rw [ctl, ← hx]; exact enabled
    · rw [ctl]; exact lent
    · rw [ctl]
    · rw [ctl, ← hx, State.lendTimerStart_eq]
      dsimp only
      by_cases idle : s.t1.lendIdle = 0 <;> simp [idle]
    · rw [pending] at none; cases none
  · have again : s.vacated l = (s.recompute l).tell := by
      unfold State.vacated
      rw [if_neg (by simp [enabled]), if_neg pending]
    have ctl : (s.vacated l).ctl l = { s.ctl l with occupancy := s.occupancyNow l } := by
      have own : (s.vacated l).ctl l = (s.recompute l).ctl l := by rw [again]; rfl
      rw [own, State.recompute_ctl_same]
    refine ⟨?_, ?_, ?_, ?_, ?_, ?_, fun lend => absurd lend pending, fun lend => ⟨?_, ?_⟩⟩
    · rw [again]; exact s.recompute_faults l
    · rw [ctl]
    · rw [ctl]
    · rw [ctl]
    · rw [ctl]; exact grant
    · rw [ctl]; exact enabled
    · rw [ctl]; exact lend
    · rw [ctl, State.occupancyNow_on s l fitted power]
      simp [lend, grant, call]

theorem State.takenBack_ctl_same (p : Purpose) (x : Option CallResult) :
    (s.takenBack l p x).ctl l = { (s.lineResult l p x).ctl l with grant := none } := by
  unfold State.takenBack; dsimp only
  rw [State.setCtl_ctl_same, State.setCall_ctl]

theorem State.handBack_handedBack (enabled : (s.ctl l).disablePending = false) (fitted : l.val < s.fitted)
    (power : (s.ctl l).power ≠ .off) (p : Purpose) (x : Option CallResult) :
    HandedBack s (s.lineResult l p x) (s.handBack l p x) l := by
  obtain ⟨supplied, -⟩ := s.lineResult_supplied l p x
  simp only [LineCtl.supplied, Prod.mk.injEq] at supplied
  obtain ⟨power1, -, lend1, enabled1⟩ := supplied
  obtain ⟨-, classOcc1⟩ := State.takenBack_ctl (s := s) (l := l) p x
  obtain ⟨power2, promotion2, yielded, on⟩ := (s.takenBack l p x).yieldPower_ctl l
  have ctl : ((s.takenBack l p x).yieldPower l).ctl l =
      { (s.lineResult l p x).ctl l with grant := none, power := power2, promotion := promotion2 } := by
    rw [yielded, State.takenBack_ctl_same]
  have classOcc : (((s.takenBack l p x).yieldPower l).ctl l).classOcc = (s.ctl l).classOcc := by
    rw [← classOcc1, yielded]
  have still : ((s.takenBack l p x).yieldPower l).still = s.still := by simp [State.takenBack]
  have call : ((s.takenBack l p x).yieldPower l).call l = none :=
    (State.yieldPower_call l).trans (State.takenBack_call p x)
  have link : ((s.takenBack l p x).yieldPower l).link.faults = (s.lineResult l p x).link.faults := by
    rw [State.yieldPower_link]; rfl
  have back := State.vacated_handedBack (s := (s.takenBack l p x).yieldPower l) (l := l)
    (by rw [ctl]; exact enabled1.trans enabled) (by rw [ctl]) call
    (lt_of_lt_of_eq fitted (congrArg (fun y => y.base.fitted) still).symm)
    (by rw [yielded]; exact on (by rw [State.takenBack_ctl_same]; exact power1 ▸ power))
  obtain ⟨faults, noTone, fault, probeTimer, grant', enabled', pending, unlent⟩ := back
  have t1 : ((s.takenBack l p x).yieldPower l).t1 = s.t1 := congrArg (fun y => y.base.tables.t1) still
  have now : ((s.takenBack l p x).yieldPower l).now = s.now := congrArg (fun y => y.base.now) still
  rw [classOcc, t1, now] at pending
  rw [classOcc] at unlent
  rw [ctl] at noTone fault probeTimer pending unlent
  rw [State.handBack_eq]
  exact ⟨faults.trans link, noTone, fault, probeTimer, grant', enabled', fun h => pending (lend1.trans h),
    fun h => unlent (lend1.trans h)⟩

/-- A line whose disable is pending goes OFF when it is handed back (R25, R32). -/
theorem State.handBack_off (pending : (s.ctl l).disablePending = true) (disabled : (s.t2 l).enabled = false)
    (p : Purpose) (x : Option CallResult) :
    (s.handBack l p x).ctl l = LineCtl.off ∧ (s.handBack l p x).sense l = Sense.reset := by
  obtain ⟨supplied, -⟩ := s.lineResult_supplied l p x
  simp only [LineCtl.supplied, Prod.mk.injEq] at supplied
  obtain ⟨-, -, -, pending1⟩ := supplied
  obtain ⟨power2, promotion2, yielded, -⟩ := (s.takenBack l p x).yieldPower_ctl l
  have still : ((s.takenBack l p x).yieldPower l).still = s.still := by simp [State.takenBack]
  have setting : (((s.takenBack l p x).yieldPower l).t2 l).enabled = false :=
    (congrArg (fun y => (y.base.tables.t2[l.val]).enabled) still).trans disabled
  have off : s.handBack l p x = (((s.takenBack l p x).yieldPower l).lineOff l).tell := by
    rw [State.handBack_eq, State.vacated, if_pos]
    rw [yielded, State.takenBack_ctl_same]; exact pending1.trans pending
  have told (u : State) : u.tell.line l = u.line l := rfl
  have line : (s.handBack l p x).line l = (((s.takenBack l p x).yieldPower l).lineOff l).line l := by rw [off, told]
  rw [State.ctl, State.sense, line, State.lineOff_line setting, if_pos rfl]
  exact ⟨rfl, rfl⟩

end own

end Sys2Proof.Machine
end

section
/-! The end of the release guard: what the receiver and the line have come to at the end of the command's work, and the statement (O40). -/

namespace Sys2Proof.Machine

/-! ### The line's results (R22, R23) -/

section outcome
variable {s t : State} {l : LineNo} {r : CallResult}

theorem State.noToneFound_ctl : (s.noToneFound l).ctl l =
    { s.ctl l with noTone := 3, fault := .noTone, probeTimer := some (s.now + 300000) } := by
  rw [ctl_of_calm (s.noToneFound_calm l), State.setCtl_ctl_same]

theorem State.toneFound_ctl : (s.toneFound l).ctl l = { s.ctl l with fault := .none, probeTimer := none } := by
  rw [ctl_of_calm (s.toneFound_calm l), State.setCtl_ctl_same]

theorem State.noToneFound_faults : ⟨.lineNoTone, num l, true⟩ ∈ (s.noToneFound l).link.faults :=
  State.faultActive_mem _ _ _

theorem State.toneFound_faults (kept : s.FaultsKept) : ⟨.lineNoTone, num l, true⟩ ∉ (s.toneFound l).link.faults := by
  have kept' : (s.setCtl l { s.ctl l with fault := .none, probeTimer := none }).FaultsKept := kept
  have work (u : State) : Works False u ((u.lineNotice l).tell.report (trouble .restore 902 (num l))) :=
    (Works.refl.notice _).tell.report _
  exact State.faultCleared_not_mem _ _ _ ((work _).faultsKept kept')

theorem State.noToneFound_reports (queue : t.queue = s.queue) (none : s.joinable (trouble .new 902 (num l)) = none)
    (room : s.ordinaryCount < 32) :
    (t.noToneFound l).reports = s.reports ++ [(s.ticketToGive, trouble .new 902 (num l))] := by
  refine (reports_of_roster (State.faultActive_roster _ _ _)).trans (State.report_reports ?_ none room)
  exact (State.notice_queue _ _).trans queue

theorem State.toneFound_reports (queue : t.queue = s.queue) (none : s.joinable (trouble .restore 902 (num l)) = none)
    (room : s.ordinaryCount < 32) :
    (t.toneFound l).reports = s.reports ++ [(s.ticketToGive, trouble .restore 902 (num l))] := by
  refine (reports_of_roster (State.faultCleared_roster _ _ _)).trans (State.report_reports ?_ none room)
  exact (State.notice_queue _ _).trans queue

theorem State.lineResult_counts (silent : r = .noDialTone ∨ r = .noSecondTone) (sound : (s.ctl l).fault = .none)
    (few : (s.ctl l).noTone < 2) :
    s.lineResult l .report (some r) = s.setCtl l { s.ctl l with noTone := (s.ctl l).noTone + 1 } := by
  unfold State.lineResult State.countNoTone; dsimp only
  rw [if_pos (by simpa using silent), if_neg (by simp [sound]), if_pos (by omega)]

theorem State.lineResult_third (silent : r = .noDialTone ∨ r = .noSecondTone) (sound : (s.ctl l).fault = .none)
    (many : 2 ≤ (s.ctl l).noTone) : s.lineResult l .report (some r) = s.noToneFound l := by
  unfold State.lineResult State.countNoTone; dsimp only
  rw [if_pos (by simpa using silent), if_neg (by simp [sound]), if_neg (by omega)]
  rfl

theorem State.lineResult_uncounted
    (other : ¬((r = .noDialTone ∨ r = .noSecondTone) ∧ (s.ctl l).fault = .none)) :
    s.lineResult l .report (some r) = s := by
  unfold State.lineResult State.countNoTone; dsimp only
  by_cases silent : r = .noDialTone ∨ r = .noSecondTone
  · have faulty : (s.ctl l).fault = .noTone := by
      cases h : (s.ctl l).fault with
      | none => exact absurd ⟨silent, h⟩ other
      | noTone => rfl
    rw [if_pos (by simpa using silent), if_pos faulty]
  · rw [if_neg (by simpa using silent)]

theorem State.lineResult_probeOk : s.lineResult l .probe (some .probeOk) = s.toneFound l := rfl

theorem State.lineResult_probeFailed (failed : r ≠ .probeOk) :
    s.lineResult l .probe (some r) = s.setCtl l { s.ctl l with probeTimer := some (s.now + 300000) } := by
  unfold State.lineResult State.probeResult; dsimp only
  rw [if_neg (by simpa using failed)]; rfl

end outcome

/-! ### The end of the call's context -/

section context
variable (s : State) (l : LineNo) (c : Call) (x : Option CallResult)

/-- The line handed back at the end of a call. -/
def State.lineBack (s : State) (l : LineNo) (c : Call) (x : Option CallResult) : State :=
  (s.endNoticed l c x).handBack l c.purpose x

theorem State.endNoticed_exitDue : (s.endNoticed l c x).work.exitDue = s.work.exitDue := by
  cases x with
  | none => rfl
  | some r => exact State.notice_exitDue s _

theorem State.lineBack_exitDue : (s.lineBack l c x).work.exitDue = s.work.exitDue :=
  (State.handBack_exitDue _ l c.purpose x).trans (s.endNoticed_exitDue l c x)

theorem State.endContext_exitDue : (s.endContext l c x).work.exitDue = s.work.exitDue := by
  rw [State.endContext_eq]; split
  · exact (State.receiverResult_exitDue _ _ x).trans (s.lineBack_exitDue l c x)
  · exact s.lineBack_exitDue l c x

theorem State.endContext_receiver {e : RxNo} (receiver : c.receiver = some e) :
    s.endContext l c x = (s.lineBack l c x).receiverResult e x := by
  rw [State.endContext_eq, receiver]; rfl

theorem State.lineBack_rx (e : RxNo) : (s.lineBack l c x).rx e = s.rx e := by
  refine (State.rx_congr (State.handBack_receivers_all _ l c.purpose x) e).trans ?_
  exact State.rx_congr (receivers_of_calm (s.endNoticed_calm l c x)) e

theorem State.lineBack_still : (s.lineBack l c x).still = s.still :=
  (State.handBack_still _ l c.purpose x).trans (still_of_calm (s.endNoticed_calm l c x))

theorem State.lineBack_charged (e : RxNo) : (s.lineBack l c x).charged e = s.charged e := by
  have still := s.lineBack_still l c x
  have tables : (s.lineBack l c x).tables = s.tables := congrArg (fun y => y.base.tables) still
  have now : (s.lineBack l c x).now = s.now := congrArg (fun y => y.base.now) still
  unfold State.charged State.t3 State.t1 State.clock
  rw [State.lineBack_rx, tables, now]

/-- What a line handed back leaves at the end of the command's work. -/
structure LineKept (h u : State) (l : LineNo) : Prop where
  ctl : u.ctl l = h.ctl l
  call : u.call l = h.call l
  reports : u.reports = h.reports
  faults : ∀ {e : FaultEntry}, e.kind.queued = false → (e ∈ u.link.faults ↔ e ∈ h.link.faults)
  sense : (h.ctl l).disablePending = false → u.sense l = h.sense l

/-- Behind a CLOSED gate the line handed back stays so to the end of the command's work. -/
theorem State.endContext_settled {s : State} (closed : s.Closed) :
    LineKept (s.lineBack l c x) (s.endContext l c x).settle l := by
  have stands := (closed.endContext l c x).settle
  have senses := State.settle_sensedKept l (s.endContext l c x)
  have ended : ∃ y : State, y.lines = (s.lineBack l c x).lines ∧ y.queue = (s.lineBack l c x).queue ∧
      y.link = (s.lineBack l c x).link ∧ Stands y (s.endContext l c x) ∧
      (s.endContext l c x).sensed = (s.lineBack l c x).sensed := by
    rw [State.endContext_eq]; split
    · next e _ =>
      obtain ⟨y, told⟩ := (s.lineBack l c x).receiverResult_stands e x
      exact ⟨(s.lineBack l c x).setRx e y, rfl, rfl, rfl, told, State.receiverResult_sensed _ e x⟩
    · exact ⟨s.lineBack l c x, rfl, rfl, rfl, .of_calm rfl rfl rfl, rfl⟩
  obtain ⟨y, lines, queue, link, told, sensed⟩ := ended
  obtain ⟨ctl, call, -, -, reports, faults⟩ := told.trans stands
  refine ⟨(ctl l).trans (State.ctl_congr lines l), (call l).trans (State.call_congr lines l),
    reports.trans (reports_of_roster (roster_of_queue queue)), fun other => ?_, fun enabled => ?_⟩
  · rw [faults other, link]
  · have same := sense_of_sensed (congrFun sensed l)
    have enabled' : ((s.endContext l c x).ctl l).disablePending = false :=
      (disablePending_of_sensed (congrFun sensed l)).trans enabled
    exact (sense_of_sensed (senses enabled')).trans same

end context

/-! ### The statement -/

/-- The receiver at the end of the release guard (R88, R89, R93). -/
theorem guard_receiver (t : Nat) (line : LineNo) (c : Call) (e : RxNo) (r : CallResult) (s : State) (rested : s.Rested)
    (ends : s.TimerEnds line c t) (released : c.state = .release) (receiver : c.receiver = some e) (result : c.result = some r) :
    ∃ u, exec (.releaseGuardEnd t line) s = .next u ∧ (s.dispatcher.gateOpen = false → u.call line = none) ∧
      u.channels = s.channels ∧
      (r.receiverCaused = true → u.rx e = (s.advance t).charged e) ∧
      (r.receiverCaused = false → (u.rx e).Open (s.rx e).failures) := by
  have ended := (s.advance t).endContext_receiver line c (some r) receiver
  have exit : ((s.advance t).endContext line c (some r)).work.exitDue = false :=
    (State.endContext_exitDue _ line c (some r)).trans (Rested.exitDue (s := s) rested)
  rw [exec_releaseGuardEnd ends released, result]
  refine ⟨_, rfl, fun gate => ?_, ?_, fun caused => ?_, fun other => ?_⟩
  · have closed : (s.advance t).Closed := .of_rested rested gate
    have kept := State.endContext_settled line c (some r) closed
    rw [kept.call]; exact State.handBack_call _ line c.purpose (some r)
  · rw [State.settle_channels exit]; exact (channels_of_still (State.endContext_still _ line c (some r))).trans rfl
  · have charged : ((s.advance t).endContext line c (some r)).rx e = (s.advance t).charged e := by
      rw [ended, State.receiverResult_charged _ e r caused, State.lineBack_charged]
    have shut : ((s.advance t).charged e).state ≠ .ready := by unfold State.charged; dsimp only; split <;> simp
    rw [State.settle_rx_shut exit (by rw [charged]; exact shut), charged]
  · refine State.settle_rx_open exit ?_
    rw [ended, State.receiverResult_uncharged _ e r other, State.lineBack_rx]; rfl

/-- The line at the end of the release guard, behind a CLOSED gate: how it is handed back from a state with the same queue and line. -/
theorem guard_line (t : Nat) (line : LineNo) (c : Call) (r : CallResult) (s : State) (rested : s.Rested)
    (ends : s.TimerEnds line c t) (released : c.state = .release) (result : c.result = some r)
    (gate : s.dispatcher.gateOpen = false) :
    ∃ u n : State, exec (.releaseGuardEnd t line) s = .next u ∧ LineKept (n.handBack line c.purpose (some r)) u line ∧
      n.ctl line = s.ctl line ∧ n.queue = s.queue ∧ n.now = max s.now t ∧ n.tables = s.tables ∧ n.fitted = s.fitted ∧
      (s.FaultsKept → n.FaultsKept) := by
  have closed : (s.advance t).Closed := .of_rested rested gate
  have calm := (s.advance t).endNoticed_calm line c (some r)
  refine ⟨_, (s.advance t).endNoticed line c (some r), ?_, State.endContext_settled line c (some r) closed,
    ctl_of_calm calm line, State.notice_queue _ _, State.endNoticed_now _ line c (some r),
    congrArg (fun y => y.still.base.tables) calm, congrArg (fun y => y.still.base.fitted) calm, fun kept => ?_⟩
  · rw [exec_releaseGuardEnd ends released, result]
  · exact (Works.refl.notice (w := False) (s := s.advance t) _).faultsKept kept

/-- Settles O40: the receiver by `guard_receiver`, the line by the hand-back of `guard_line` for each result. -/
theorem guardEndSettlesReceiverAndLine : Obligations.GuardEndSettlesReceiverAndLine := by
  refine ⟨fun t line c e r s rested ends released _ receiver result _ => ?_,
    fun t line c r s rested ends released result gate fitted power => ?_⟩
  · obtain ⟨u, done, call, channels, charged, uncharged⟩ := guard_receiver t line c e r s rested ends released receiver result
    refine ⟨u, done, call, channels, fun caused => ?_, fun other => ?_⟩
    · have caused' : r.receiverCaused = true := by rcases caused with rfl | rfl | rfl | rfl <;> rfl
      have clock : (s.advance t).clock = max s.now t / 1000 := rfl
      rw [charged caused', State.charged, clock, backoffSeconds_eq]
      exact ⟨fun past => if_pos past, fun within => if_neg (Nat.not_le.2 within)⟩
    · refine uncharged ?_
      rcases other with rfl | rfl | rfl | rfl | rfl | rfl <;> rfl
  · obtain ⟨u, n, done, kept, ctl, queue, now, tables, fits, faults⟩ :=
      guard_line t line c r s rested ends released result gate
    refine ⟨u, done, ?_, ?_, fun enabled => ?_, fun pending disabled => ?_⟩
    · rw [kept.call, State.handBack_call]
    · rw [kept.ctl, State.handBack_grant]
    · have back := State.handBack_handedBack (s := n) (l := line) (by rw [ctl]; exact enabled) (by rw [fits]; exact fitted)
        (by rw [ctl]; exact power) c.purpose (some r)
      obtain ⟨listed, noTone, fault, probeTimer, -, stays, pending, unlent⟩ := back
      have reports : u.reports = (n.lineResult line c.purpose (some r)).reports :=
        kept.reports.trans (reports_of_roster (roster_of_queue (State.handBack_queue n line c.purpose (some r))))
      have entry : ⟨.lineNoTone, num line, true⟩ ∈ u.link.faults ↔
          ⟨.lineNoTone, num line, true⟩ ∈ (n.lineResult line c.purpose (some r)).link.faults := by
        rw [kept.faults rfl, listed]
      have unreported : n.reports = s.reports := reports_of_roster (roster_of_queue queue)
      have t1 : n.t1 = s.t1 := congrArg Tables.t1 tables
      rw [kept.ctl, noTone, fault, probeTimer, reports, entry]
      rw [ctl] at pending unlent
      rw [t1, now] at pending
      refine ⟨fun ⟨report, silent, sound⟩ few => ?_, fun ⟨report, silent, sound⟩ many => ?_, fun probe ok => ?_,
        fun probe failed => ?_, fun report uncounted => ?_, pending, unlent⟩
      · rw [report, State.lineResult_counts silent (by rw [ctl]; exact sound) (by rw [ctl]; exact few),
          State.setCtl_ctl_same, ctl]
        exact ⟨rfl, sound, rfl⟩
      · rw [report, State.lineResult_third silent (by rw [ctl]; exact sound) (by rw [ctl]; exact many),
          State.noToneFound_ctl, now]
        exact ⟨rfl, rfl, rfl, State.noToneFound_faults, State.noToneFound_reports queue⟩
      · rw [probe, ok, State.lineResult_probeOk, State.toneFound_ctl, ctl]
        exact ⟨rfl, rfl, rfl, fun h => State.toneFound_faults (faults h), State.toneFound_reports queue⟩
      · rw [probe, State.lineResult_probeFailed failed, State.setCtl_ctl_same, ctl, now]
        exact ⟨rfl, rfl, rfl, unreported⟩
      · rw [report, State.lineResult_uncounted (by rw [ctl]; exact fun h => uncounted ⟨report, h⟩), ctl]
        exact ⟨rfl, rfl, rfl, unreported⟩
    · obtain ⟨off, reset⟩ := State.handBack_off (s := n) (l := line) (by rw [ctl]; exact pending)
        (by unfold State.t2; rw [tables]; exact disabled) c.purpose (some r)
      have sense : u.sense line = Sense.reset := (kept.sense (by rw [off]; rfl)).trans reset
      rw [kept.ctl, off, sense]
      exact ⟨rfl, rfl, rfl, rfl, rfl, rfl, rfl, rfl, rfl, rfl, rfl⟩

end Sys2Proof.Machine
end

section
/-! The fault list and the notice buffer: an entry reported in its place, the routes' entries at a SET of T5, and a notice that joins, is begun or is lost (R82, R159 to R161, R173). -/

namespace Sys2Proof.Machine

/-! ### A notice and the buffer (R159, R160) -/

section notice
variable {s : State} (n : Notice)

theorem State.notice_silent (silent : s.link.receiver = .silent) : s.notice n = s := if_pos silent

theorem State.notice_lost (receiver : s.link.receiver ≠ .silent) (full : 16 ≤ s.link.notices.length) :
    s.notice n = s.setLink { s.link with noticesLost := true } := by
  unfold State.notice Link.enqueue
  rw [if_neg receiver, if_neg (by omega)]

theorem State.notice_joins (receiver : s.link.receiver ≠ .silent) (busy : s.link.transmitter ≠ .idle)
    (room : s.link.notices.length < 16) :
    s.notice n = s.setLink { s.link with notices := s.link.notices ++ [n] } := by
  unfold State.notice Link.enqueue
  rw [if_neg receiver, if_pos room]
  unfold Link.transmit; dsimp only; split
  · next idle => exact absurd idle busy
  · rfl

/-- An idle transmitter with nothing else to send begins the notice at once. -/
theorem State.notice_begins (receiver : s.link.receiver ≠ .silent) (idle : s.link.transmitter = .idle)
    (unanswered : s.link.inHand = none) (empty : s.link.notices = []) :
    s.notice n = s.setLink { s.link with transmitter := .notice n.frame } := by
  unfold State.notice Link.enqueue Link.transmit
  rw [if_neg receiver, if_pos (by simp [empty])]
  simp [idle, unanswered, empty]

end notice

/-! ### One entry reported (R161) -/

section entry
variable {fs : List FaultEntry} {k : FaultKind} {i : Nat} {b : Bool}

/-- The list once an entry is reported: in its place where it stands, else at the end if it is active. -/
def listed (fs : List FaultEntry) (k : FaultKind) (i : Nat) (b : Bool) : List FaultEntry :=
  if (faultEntry fs k i).isSome then setFault fs k i b
  else if b then fs ++ [{ kind := k, inst := i, active := true }] else fs

theorem faultEntry_isSome : (faultEntry fs k i).isSome = fs.any fun e => e.kind = k ∧ e.inst = i := by
  rw [Bool.eq_iff_iff, faultEntry, List.find?_isSome, List.any_eq_true]
  simp

/-- An entry that stands as it is reported leaves the list. -/
theorem setFault_same (unique : (fs.map fun e => (e.kind, e.inst)).Nodup) (mem : ⟨k, i, b⟩ ∈ fs) : setFault fs k i b = fs := by
  refine (List.map_congr_left fun e he => ?_).trans (List.map_id fs)
  split
  · next own =>
    have own' : e.kind = k ∧ e.inst = i := by simpa using own
    have same : e = ⟨k, i, b⟩ := List.inj_on_of_nodup_map unique he mem (by simp [own'])
    rw [same]; rfl
  · rfl

/-- The entry that a kind and a number find is the only one they have. -/
theorem mem_of_faultEntry (unique : (fs.map fun e => (e.kind, e.inst)).Nodup) {e : FaultEntry}
    (found : faultEntry fs k i = some e) : ⟨k, i, b⟩ ∈ fs ↔ e.active = b := by
  obtain ⟨mem, own⟩ := faultEntry_some found
  refine ⟨fun other => ?_, fun same => ?_⟩
  · have same : (⟨k, i, b⟩ : FaultEntry) = e := List.inj_on_of_nodup_map unique other mem (by rw [own])
    rw [← same]
  · rw [own, same] at mem; exact mem

end entry

section reported
variable {s : State} {k : FaultKind} {i : Nat} (kept : s.FaultsKept)
include kept

theorem State.faultActive_again (mem : ⟨k, i, true⟩ ∈ s.link.faults) : s.faultActive k i = s := by
  obtain ⟨unique, -⟩ := kept
  unfold State.faultActive; split
  · next none => exact absurd rfl (faultEntry_none none _ mem)
  · next e found => rw [if_pos ((mem_of_faultEntry unique found).1 mem)]

theorem State.faultActive_anew (fresh : ⟨k, i, true⟩ ∉ s.link.faults) :
    s.faultActive k i = (s.setFaults (listed s.link.faults k i true)).notice (.fault k i true) := by
  obtain ⟨unique, -⟩ := kept
  unfold State.faultActive listed; split
  · next none => simp [none]
  · next e found =>
    rw [if_neg fun active => fresh ((mem_of_faultEntry unique found).2 active), found]; rfl

theorem State.faultCleared_again (absent : ⟨k, i, true⟩ ∉ s.link.faults) : s.faultCleared k i = s := by
  obtain ⟨unique, -⟩ := kept
  unfold State.faultCleared; split
  · rfl
  · next e found => rw [if_neg fun active => absent ((mem_of_faultEntry unique found).2 active)]

theorem State.faultCleared_anew (mem : ⟨k, i, true⟩ ∈ s.link.faults) :
    s.faultCleared k i = (s.setFaults (listed s.link.faults k i false)).notice (.fault k i false) := by
  obtain ⟨unique, -⟩ := kept
  unfold State.faultCleared listed; split
  · next none => exact absurd rfl (faultEntry_none none _ mem)
  · next e found => rw [if_pos ((mem_of_faultEntry unique found).1 mem), found]; rfl

end reported

/-! ### The routes in turn (R82) -/

section routes
variable {s : State}

/-- ROUTE-INVALID is to be active for a route (R82). -/
def State.routeBad (s : State) (r : RouteNo) : Bool := !(s.route r).valid && s.routeInUse r

theorem State.reportRoute_eq (s : State) (r : RouteNo) : s.reportRoute r =
    if s.routeBad r then s.faultActive .routeInvalid (num r) else s.faultCleared .routeInvalid (num r) := rfl

theorem State.reportRoute_routeBad (r k : RouteNo) : (s.reportRoute r).routeBad k = s.routeBad k := by
  obtain ⟨routes, tables, -⟩ := s.reportRoute_same r
  unfold State.routeBad State.route State.routeInUse State.classRoute
  rw [routes, tables]

theorem State.reportRoute_faultsKept (kept : s.FaultsKept) (r : RouteNo) : (s.reportRoute r).FaultsKept :=
  (Works.refl.reportRoute (w := False) r).faultsKept kept

/-- A route whose entry stands as it is to be reported leaves the state. -/
theorem State.reportRoute_again (kept : s.FaultsKept) {r : RouteNo} (same : routeEntry r ∈ s.link.faults ↔ s.routeBad r = true) :
    s.reportRoute r = s := by
  rw [State.reportRoute_eq]
  cases bad : s.routeBad r with
  | true => rw [if_pos rfl]; exact State.faultActive_again kept (same.2 bad)
  | false =>
    rw [if_neg (by decide)]
    exact State.faultCleared_again kept fun mem => by rw [same.1 mem] at bad; cases bad

/-- Otherwise its entry changes and a FAULT notice goes (R161). -/
theorem State.reportRoute_anew (kept : s.FaultsKept) {r : RouteNo}
    (other : ¬(routeEntry r ∈ s.link.faults ↔ s.routeBad r = true)) :
    s.reportRoute r = (s.setFaults (listed s.link.faults .routeInvalid (num r) (s.routeBad r))).notice
      (.fault .routeInvalid (num r) (s.routeBad r)) := by
  rw [State.reportRoute_eq]
  cases bad : s.routeBad r with
  | true =>
    rw [if_pos rfl]
    exact State.faultActive_anew kept fun mem => other ⟨fun _ => bad, fun _ => mem⟩
  | false =>
    rw [if_neg (by decide)]
    refine State.faultCleared_anew kept (by_contra fun absent => other ⟨fun mem => absurd mem absent, fun h => ?_⟩)
    rw [bad] at h; cases h

theorem State.reportRoute_faults (kept : s.FaultsKept) (r : RouteNo) :
    (s.reportRoute r).link.faults = listed s.link.faults .routeInvalid (num r) (s.routeBad r) := by
  by_cases same : routeEntry r ∈ s.link.faults ↔ s.routeBad r = true
  · rw [State.reportRoute_again kept same]
    obtain ⟨unique, -⟩ := kept
    unfold listed
    cases found : faultEntry s.link.faults .routeInvalid (num r) with
    | none =>
      have absent : s.routeBad r = false := Bool.eq_false_iff.2 fun bad => faultEntry_none found _ (same.2 bad) rfl
      rw [if_neg (by simp), absent, if_neg (by simp)]
    | some e =>
      rw [Option.isSome_some, if_pos rfl, setFault_same unique]
      have active := mem_of_faultEntry (b := true) unique found
      rw [mem_of_faultEntry unique found]
      cases bad : s.routeBad r with
      | true => exact active.1 (same.2 bad)
      | false => exact Bool.eq_false_iff.2 fun h => by rw [same.1 (active.2 h)] at bad; cases bad
  · rw [State.reportRoute_anew kept same, State.notice_faults]; rfl

/-- The list once the routes `rs` are reported in turn. -/
theorem State.reportRoutes_list : ∀ (rs : List RouteNo) (s : State), s.FaultsKept →
    (rs.foldl State.reportRoute s).link.faults =
      rs.foldl (fun fs r => listed fs .routeInvalid (num r) (s.routeBad r)) s.link.faults
  | [], _, _ => rfl
  | r :: rs, s, kept => by
    rw [List.foldl_cons, State.reportRoutes_list rs _ (State.reportRoute_faultsKept kept r), List.foldl_cons,
      State.reportRoute_faults kept]
    simp only [State.reportRoute_routeBad]

/-- The entry of a route stands otherwise than it is to be reported. -/
def State.stale (s : State) (r : RouteNo) : Bool :=
  decide (s.routeBad r ≠ decide (routeEntry r ∈ s.link.faults))

theorem State.stale_false {r : RouteNo} (fresh : s.stale r = false) : routeEntry r ∈ s.link.faults ↔ s.routeBad r = true := by
  unfold State.stale at fresh
  rw [not_ne_iff.1 (of_decide_eq_false fresh), decide_eq_true_iff]

theorem State.stale_true {r : RouteNo} (stale : s.stale r = true) :
    ¬(routeEntry r ∈ s.link.faults ↔ s.routeBad r = true) := fun same => by
  unfold State.stale at stale
  simp [same] at stale

theorem State.reportRoute_stale {r k : RouteNo} (other : k ≠ r) : (s.reportRoute r).stale k = s.stale k := by
  unfold State.stale
  rw [State.reportRoute_routeBad, decide_eq_decide.2 (State.reportRoute_other other)]

/-- The FAULT notice of a route (R161). -/
def State.routeNotice (s : State) (r : RouteNo) : Notice := .fault .routeInvalid (num r) (s.routeBad r)

/-- A change of one entry sends its notice, which joins the buffer while there is room (R159). -/
theorem State.reportRoute_joins (kept : s.FaultsKept) {r : RouteNo} (stale : s.stale r = true)
    (receiver : s.link.receiver ≠ .silent) (busy : s.link.transmitter ≠ .idle) (room : s.link.notices.length < 16) :
    (s.reportRoute r).link =
      { s.link with
        faults := listed s.link.faults .routeInvalid (num r) (s.routeBad r), notices := s.link.notices ++ [s.routeNotice r] } := by
  rw [State.reportRoute_anew kept (State.stale_true stale)]
  exact congrArg State.link
    (State.notice_joins (s := s.setFaults (listed s.link.faults .routeInvalid (num r) (s.routeBad r)))
      (.fault .routeInvalid (num r) (s.routeBad r)) receiver busy room)

/-- Each change in the list sends a notice, in the routes' order, while the buffer has room (R159, R161). -/
theorem State.reportRoutes_notices : ∀ (rs : List RouteNo) (s : State), s.FaultsKept → rs.Nodup →
    s.link.receiver ≠ .silent → s.link.transmitter ≠ .idle →
    s.link.notices.length + (rs.filter s.stale).length ≤ 16 →
    (rs.foldl State.reportRoute s).link.notices = s.link.notices ++ (rs.filter s.stale).map s.routeNotice ∧
      (rs.foldl State.reportRoute s).link.noticesLost = s.link.noticesLost ∧
      (rs.foldl State.reportRoute s).link.transmitter ≠ .idle
  | [], s, _, _, _, busy, _ => by simp [busy]
  | r :: rs, s, kept, distinct, receiver, busy, room => by
    obtain ⟨fresh, rest⟩ := List.nodup_cons.1 distinct
    have later : rs.filter (s.reportRoute r).stale = rs.filter s.stale := List.filter_congr fun k mem =>
      State.reportRoute_stale fun same => fresh (same ▸ mem)
    have named : (s.reportRoute r).routeNotice = s.routeNotice := funext fun k => by
      unfold State.routeNotice; rw [State.reportRoute_routeBad]
    have ih := State.reportRoutes_notices rs (s.reportRoute r) (State.reportRoute_faultsKept kept r) rest
    rw [later, named] at ih
    rw [List.foldl_cons]
    cases stale : s.stale r with
    | false =>
      rw [List.filter_cons_of_neg (by simp [stale])] at room ⊢
      rw [State.reportRoute_again kept (State.stale_false stale)] at ih ⊢
      exact ih receiver busy room
    | true =>
      rw [List.filter_cons_of_pos stale, List.length_cons] at room
      rw [List.filter_cons_of_pos stale]
      have link := State.reportRoute_joins kept stale receiver busy (by omega)
      rw [link] at ih
      obtain ⟨notices, lost, busy'⟩ := ih receiver busy (by simp only [List.length_append, List.length_singleton]; omega)
      exact ⟨notices.trans (by simp), lost, busy'⟩

end routes

section refreshed
variable (bad : RouteNo → Bool)

/-- An entry once the route `r` is reported. -/
def refreshed (e : FaultEntry) (r : RouteNo) : FaultEntry :=
  if e.kind = .routeInvalid ∧ e.inst = num r then { e with active := bad r } else e

theorem refreshed_other {e : FaultEntry} : ∀ (rs : List RouteNo), (∀ r ∈ rs, ¬(e.kind = .routeInvalid ∧ e.inst = num r)) →
    rs.foldl (refreshed bad) e = e
  | [], _ => rfl
  | r :: rs, other => by
    rw [List.foldl_cons, refreshed, if_neg (other r List.mem_cons_self)]
    exact refreshed_other rs fun k mem => other k (List.mem_cons_of_mem r mem)

theorem num_injective {n : Nat} {i k : Fin n} (same : num i = num k) : i = k := Fin.ext (Nat.succ.inj same)

/-- The routes in turn leave an entry of theirs as its own route asks. -/
theorem refreshed_own {i : RouteNo} : ∀ (rs : List RouteNo) (a : Bool), i ∈ rs → rs.Nodup →
    rs.foldl (refreshed bad) ⟨.routeInvalid, num i, a⟩ = ⟨.routeInvalid, num i, bad i⟩
  | r :: rs, a, mem, distinct => by
    obtain ⟨fresh, rest⟩ := List.nodup_cons.1 distinct
    rw [List.foldl_cons, refreshed]
    by_cases same : i = r
    · subst same
      rw [if_pos ⟨rfl, rfl⟩]
      exact refreshed_other bad rs fun k later own => fresh (num_injective own.2 ▸ later)
    · rw [if_neg fun own => same (num_injective own.2)]
      exact refreshed_own rs a ((List.mem_cons.1 mem).resolve_left same) rest

/-- ROUTE-INVALID has an entry for a route in the list (R161). -/
def routeHeld (fs : List FaultEntry) (r : RouteNo) : Bool := fs.any fun e => e.kind = .routeInvalid ∧ e.inst = num r

theorem listed_route (fs : List FaultEntry) (r : RouteNo) : listed fs .routeInvalid (num r) (bad r) =
    fs.map (fun e => refreshed bad e r) ++ if bad r ∧ ¬routeHeld fs r then [routeEntry r] else [] := by
  unfold listed
  rw [faultEntry_isSome]
  change (if routeHeld fs r = true then _ else _) = _
  cases held : routeHeld fs r with
  | true =>
    rw [if_pos rfl, if_neg (by simp), List.append_nil, setFault]
    exact List.map_congr_left fun e _ => by simp [refreshed]
  | false =>
    have same : fs.map (fun e => refreshed bad e r) = fs := (List.map_congr_left fun e mem => if_neg fun own => by
      have none := List.any_eq_false.1 held e mem
      exact none (decide_eq_true own)).trans (List.map_id fs)
    rw [if_neg (by simp), same]
    cases bad r <;> simp [routeEntry]

/-- A report of one route neither takes an entry of another from the list nor adds one. -/
theorem routeHeld_listed {fs : List FaultEntry} {r k : RouteNo} (other : k ≠ r) :
    routeHeld (listed fs .routeInvalid (num r) (bad r)) k = routeHeld fs k := by
  have names (e : FaultEntry) : (refreshed bad e r).kind = e.kind ∧ (refreshed bad e r).inst = e.inst := by
    unfold refreshed; split <;> exact ⟨rfl, rfl⟩
  have apart : routeHeld (if bad r ∧ ¬routeHeld fs r then [routeEntry r] else []) k = false := by
    split
    · have numbers : num r ≠ num k := fun same => other (num_injective same).symm
      simp [routeHeld, routeEntry, numbers]
    · rfl
  rw [listed_route, routeHeld, List.any_append, ← routeHeld, ← routeHeld, apart, Bool.or_false, routeHeld, List.any_map]
  simp only [Function.comp_def, names]; rfl

theorem listed_routes : ∀ (rs : List RouteNo) (fs : List FaultEntry), rs.Nodup →
    rs.foldl (fun fs r => listed fs .routeInvalid (num r) (bad r)) fs =
      fs.map (rs.foldl (refreshed bad)) ++ (rs.filter fun r => bad r ∧ ¬routeHeld fs r).map routeEntry
  | [], fs, _ => by simp
  | r :: rs, fs, distinct => by
    obtain ⟨fresh, rest⟩ := List.nodup_cons.1 distinct
    have later : (rs.filter fun k => bad k ∧ ¬routeHeld (listed fs .routeInvalid (num r) (bad r)) k) =
        rs.filter fun k => bad k ∧ ¬routeHeld fs k := List.filter_congr fun k mem => by
      rw [routeHeld_listed bad (ne_of_mem_of_not_mem mem fresh)]
    have added : (if bad r ∧ ¬routeHeld fs r then [routeEntry r] else []).map (rs.foldl (refreshed bad)) =
        if bad r ∧ ¬routeHeld fs r then [routeEntry r] else [] := by
      split
      · exact congrArg (fun e => [e]) (refreshed_other bad rs fun k mem own => fresh (num_injective own.2 ▸ mem))
      · rfl
    rw [List.foldl_cons, listed_routes rs _ rest, later, listed_route, List.map_append, List.map_map, added,
      List.append_assoc]
    congr 1
    rw [List.filter_cons]
    by_cases h : bad r ∧ ¬routeHeld fs r
    · rw [if_pos h, if_pos (decide_eq_true h)]; rfl
    · rw [if_neg h, if_neg (by simpa using h)]; rfl

/-- Over all routes the entries of ROUTE-INVALID stand as R82 asks, and no other entry changes. -/
theorem refreshed_all {e : FaultEntry} (instances : e.inst ∈ e.kind.instances) : allRoutes.foldl (refreshed bad) e =
    if e.kind = .routeInvalid then { e with active := (List.finRange 8).any fun r => num r = e.inst ∧ bad r } else e := by
  split
  · next own =>
    obtain ⟨kind, inst, active⟩ := e
    subst own
    obtain ⟨i, rfl⟩ : ∃ i : RouteNo, num i = inst := by
      have bounds : 1 ≤ inst ∧ inst < 9 := by
        simp only [FaultKind.instances, List.mem_cons, List.not_mem_nil, or_false] at instances; omega
      exact ⟨⟨inst - 1, by omega⟩, by simp only [num]; omega⟩
    rw [refreshed_own bad allRoutes active (mem_allRoutes i) (by decide)]
    refine congrArg (FaultEntry.mk .routeInvalid (num i)) (Bool.eq_iff_iff.2 ?_)
    rw [List.any_eq_true]
    refine ⟨fun h => ⟨i, List.mem_finRange i, decide_eq_true ⟨rfl, h⟩⟩, fun ⟨k, _, h⟩ => ?_⟩
    obtain ⟨same, h⟩ := of_decide_eq_true h
    exact num_injective same ▸ h
  · next other => exact refreshed_other bad allRoutes fun r _ own => other own.1

end refreshed

/-! ### A SET of one entry of T5 in SERVICE -/

section set
variable {s v : State} {cls : Fin 5} {route : RouteNo}

theorem ReportClass.index_surjective (k : Fin 5) : ∃ c : ReportClass, c.index = k := by
  fin_cases k
  exacts [⟨.fire, rfl⟩, ⟨.supervisory, rfl⟩, ⟨.trouble, rfl⟩, ⟨.plant, rfl⟩, ⟨.routine, rfl⟩]

/-- A class names the route, as T5 stands with one entry written. -/
theorem State.routeBad_written (routes : v.routes = s.routes)
    (tables : v.tables = { s.tables with t5 := s.tables.t5.set cls.val route }) (r : RouteNo) :
    v.routeBad r =
      decide ((s.route r).valid = false ∧ ∃ k : Fin 5, (if k = cls then route else s.tables.t5[k.val]) = r) := by
  have entry (c : ReportClass) : v.classRoute c = if c.index = cls then route else s.tables.t5[c.index.val] := by
    unfold State.classRoute
    simp only [tables, Vector.getElem_set, Fin.ext_iff, eq_comm]
  have named : (∃ c, v.classRoute c = r) ↔ ∃ k : Fin 5, (if k = cls then route else s.tables.t5[k.val]) = r := by
    refine ⟨fun ⟨c, own⟩ => ⟨c.index, entry c ▸ own⟩, fun ⟨k, own⟩ => ?_⟩
    obtain ⟨c, rfl⟩ := ReportClass.index_surjective k
    exact ⟨c, (entry c).trans own⟩
  rw [Bool.eq_iff_iff, decide_eq_true_iff, ← named, ← State.routeInUse_iff, State.routeBad, Bool.and_eq_true,
    Bool.not_eq_true', State.route_congr routes]

/-- A SET of one entry of T5 is served by a report of every route. -/
theorem exec_set_t5 (t : Nat) (rested : s.Rested) (asked : s.Asked 0x31 [5, u8 (num cls), 1, u8 (num route)])
    (service : s.mode = .service) (save : s.save = none) :
    ∃ w, exec (.set t [5, u8 (num cls), 1, u8 (num route)]) s =
      .next (((s.advance t).setTables { s.tables with t5 := s.tables.t5.set cls.val route }).reportRoutes.respond 0x31 w) := by
  have decoded : T5.decode [u8 (num route)] = some (route, false) := by
    simp only [T5.decode, u8_toNat (show num route < 256 by simp only [num]; omega), ofNum_num, Option.map_some]
  have written : s.tables.write 5 (num cls - 1) [u8 (num route)] =
      some ({ s.tables with t5 := s.tables.t5.set cls.val route }, false) := by
    simp only [Tables.write, decoded, Option.map_some, show num cls - 1 = cls.val from rfl, setIfInBounds_fin]
  obtain ⟨w, served⟩ := exec_set_one (t := t) (table := 5) (first := num cls) asked rfl
    (u8_toNat (by simp only [num]; omega)) (rangeOk_entry ⟨by decide, by decide⟩ cls.isLt) (fun _ => service) save rfl nofun
    written nofun
  have idle : ((s.advance t).setTables { s.tables with t5 := s.tables.t5.set cls.val route }).work = Work.idle := rested
  exact ⟨w, served.trans (congrArg (fun x : State => Host.Outcome.next (x.respond 0x31 w)) (State.reportRoutes_settle idle))⟩

theorem State.respond_noticesLost (s : State) (kind : Byte) (w : Answer) :
    (s.respond kind w).link.noticesLost = s.link.noticesLost := by
  unfold State.respond Link.transmit
  cases h : s.link.transmitter <;> simp [h]

theorem finRange_routes : List.finRange 8 = allRoutes := by decide

/-- The list once all routes are reported (R82). -/
theorem State.reportRoutes_faults (kept : s.FaultsKept) : s.reportRoutes.link.faults =
    (s.link.faults.map fun e =>
      if e.kind = .routeInvalid then { e with active := (List.finRange 8).any fun r => num r = e.inst ∧ s.routeBad r } else e) ++
    (allRoutes.filter fun r => s.routeBad r ∧ ¬routeHeld s.link.faults r).map routeEntry := by
  obtain ⟨-, instances⟩ := id kept
  have entries := List.map_congr_left fun e mem => refreshed_all s.routeBad (instances e mem)
  have list := State.reportRoutes_list allRoutes s kept
  rw [listed_routes s.routeBad allRoutes _ (by decide), entries] at list
  have all : s.reportRoutes = allRoutes.foldl State.reportRoute s := rfl
  rw [all, list]

end set

/-! ### The hold limit ends in SERVICE (R173) -/

section hold
variable {s : State}

/-- Nothing but the MODE notice comes of a release of the hold while the gate stays closed. -/
theorem exec_holdLimitExpiry (t : Nat) {e : Nat} (rested : s.Rested) (timer : s.holdTimer = some e) (due : e ≤ max s.now t)
    (service : s.mode = .service) (closed : s.dispatcher.gateOpen = false) :
    ∃ x : State, x.link = s.link ∧
      exec (.holdLimitExpiry t) s = .next (x.notice (.mode .service .released .holdLimit)) := by
  have ended : expired (s.advance t).holdTimer (s.advance t).now = true := by
    simp [expired, timer, due]
  refine ⟨((s.advance t).setHold .released).setHoldTimer none, rfl, ?_⟩
  show execHoldLimitExpiry t s = _
  unfold execHoldLimitExpiry
  dsimp only
  rw [if_pos ended]
  have gate : ((((s.advance t).setHold .released).setHoldTimer none).notice (.mode s.mode .released .holdLimit)).settleGate =
      (((s.advance t).setHold .released).setHoldTimer none).notice (.mode s.mode .released .holdLimit) := by
    unfold State.settleGate
    rw [State.notice_mode, State.notice_dispatcher]
    exact if_pos (by simp [service, closed, State.setHoldTimer, State.setHold, State.advance])
  have release : (s.advance t).releaseHold .holdLimit =
      (((s.advance t).setHold .released).setHoldTimer none).notice (.mode s.mode .released .holdLimit) := gate
  rw [release, service]
  exact congrArg Host.Outcome.next (State.settle_rested _ ((State.notice_work _ _).trans rested))

end hold

/-- Settles O49: each route in turn leaves its own entry as R82 asks and sends a notice when that entry changes; the MODE
notice of the hold limit's end meets the buffer as any notice does. -/
theorem faultListAndNotices : Obligations.FaultListAndNotices := by
  unfold Obligations.FaultListAndNotices
  refine ⟨fun t cls route s rested asked service save kept => ?_, fun t e s rested timer due service closed => ?_⟩
  · intro named bad old held was changed notices
    obtain ⟨w, served⟩ := exec_set_t5 t rested asked service save
    generalize hv : (s.advance t).setTables { s.tables with t5 := s.tables.t5.set cls.val route } = v at served
    have tables : v.tables = { s.tables with t5 := s.tables.t5.set cls.val route } := by rw [← hv]; rfl
    have link : v.link = s.link := by rw [← hv]; rfl
    have routes : v.routes = s.routes := by rw [← hv]; rfl
    have kept' : v.FaultsKept := by unfold State.FaultsKept; rw [link]; exact kept
    have bads : v.routeBad = bad := funext fun r => State.routeBad_written routes tables r
    have stale : v.stale = fun r => decide (bad r ≠ was r) := funext fun r => by
      unfold State.stale; rw [bads, link]; exact decide_eq_decide.2 Iff.rfl
    have notice : v.routeNotice = fun r => Notice.fault .routeInvalid (num r) (bad r) := funext fun r => by
      unfold State.routeNotice; rw [bads]
    refine ⟨_, served, ?_, ?_, fun receiver busy room => ?_⟩
    · rw [State.respond_tables, State.reportRoutes_tables, tables]
    · rw [State.respond_faults, State.reportRoutes_faults kept', bads, link, ← finRange_routes]; rfl
    · have each : v.reportRoutes = (List.finRange 8).foldl State.reportRoute v := by rw [finRange_routes]; rfl
      have sent := State.reportRoutes_notices (List.finRange 8) v kept' (List.nodup_finRange 8) (by rwa [link]) (by rwa [link])
      rw [stale, notice, link] at sent
      have changes : notices.length = changed.length := List.length_map _
      rw [changes] at room
      obtain ⟨joined, lost, -⟩ := sent room
      rw [State.respond_notices, State.respond_noticesLost, each]
      exact ⟨joined, lost⟩
  · intro k n
    obtain ⟨x, link, ends⟩ := exec_holdLimitExpiry t rested timer due service closed
    have link : x.link = k := link
    clear_value k
    subst k
    refine ⟨_, ends, fun silent => ?_, fun receiver full => ?_, fun receiver busy room => ?_,
      fun receiver idle unanswered empty => ?_⟩
    · rw [State.notice_silent _ silent]
    · rw [State.notice_lost _ receiver full]; rfl
    · rw [State.notice_joins _ receiver busy room]; rfl
    · rw [State.notice_begins _ receiver idle unanswered empty]; rfl

end Sys2Proof.Machine
end

section
/-! The exit from SERVICE: the routes' fault entries through all that follows, the dockets that the queue's operations keep, and the free records examined again (R70, R81 to R83, R95). -/

namespace Sys2Proof.Machine

/-! ### ROUTE-INVALID is the Route Unit's alone (R82, R161) -/

/-- The routes for which ROUTE-INVALID is active. -/
def State.badRoutes (s : State) : RouteNo → Prop := fun r => routeEntry r ∈ s.link.faults

theorem badRoutes_of_faults {s t : State} (h : t.link.faults = s.link.faults) : t.badRoutes = s.badRoutes := by
  unfold State.badRoutes; rw [h]

theorem badRoutes_of_aside {s t : State} (h : t.aside = s.aside) : t.badRoutes = s.badRoutes :=
  funext fun _ => propext (mem_faults_of_aside h rfl)

section bad
variable (s : State) (l : LineNo)

theorem State.faultCleared_badRoutes {k : FaultKind} (other : k ≠ .routeInvalid) (i : Nat) :
    (s.faultCleared k i).badRoutes = s.badRoutes :=
  funext fun _ => propext (State.faultCleared_mem_other fun own => other own.1.symm)

theorem State.recompute_badRoutes : (s.recompute l).badRoutes = s.badRoutes := badRoutes_of_faults (s.recompute_faults l)

theorem State.lineOff_badRoutes : (s.lineOff l).badRoutes = s.badRoutes := by
  unfold State.lineOff; dsimp only
  rw [State.faultCleared_badRoutes _ (by decide), State.faultCleared_badRoutes _ (by decide), State.recompute_badRoutes]
  exact badRoutes_of_faults rfl

theorem State.beginLend_faults : (s.beginLend l).link.faults = s.link.faults := by
  unfold State.beginLend; dsimp only
  rw [State.recompute_faults, State.setCtl_link]

theorem State.endLend_faults : (s.endLend l).link.faults = s.link.faults := by
  unfold State.endLend
  rw [State.tell_link, State.recompute_faults, State.setCtl_link]

theorem State.grant_faults (b : Bool) : (s.grant l b).link.faults = s.link.faults := by
  unfold State.grant; dsimp only
  rw [State.setRotation_link, State.recompute_faults, State.setCtl_link]

theorem State.vacated_badRoutes : (s.vacated l).badRoutes = s.badRoutes := by
  have told (u : State) : u.tell.badRoutes = u.badRoutes := badRoutes_of_faults rfl
  unfold State.vacated; split
  · rw [told]; exact s.lineOff_badRoutes l
  · split
    · rw [told]; exact badRoutes_of_faults (s.beginLend_faults l)
    · rw [told]; exact s.recompute_badRoutes l

/-- A REPORT call that a lend cuts short leaves no fault. -/
theorem State.handBack_badRoutes : (s.handBack l .report (some .cutShort)).badRoutes = s.badRoutes := by
  rw [State.handBack_eq, State.vacated_badRoutes]
  exact badRoutes_of_faults (congrArg Link.faults (State.yieldPower_link _ l))

theorem State.receiverResult_badRoutes (e : RxNo) (x : Option CallResult) :
    (s.receiverResult e x).badRoutes = s.badRoutes := by
  unfold State.receiverResult; split
  · split
    · dsimp only; split
      · exact badRoutes_of_aside (s := s) (State.reexamine_aside _)
      · exact badRoutes_of_faults rfl
    · exact badRoutes_of_faults rfl
  · exact badRoutes_of_faults rfl

theorem State.takeLine_link : (s.takeLine l).link = s.link := by
  unfold State.takeLine State.enterDialtone; dsimp only; split <;> simp

theorem State.needReady_link : (s.needReady l).link = s.link := by
  unfold State.needReady State.startPromotion State.joinWaitList; split <;> split <;> simp

theorem State.beginCall_badRoutes (b : Bool) (e : RxNo) : (s.beginCall l b e).badRoutes = s.badRoutes := by
  have granted : ((s.grant l b).setRx e { s.rx e with state := .calling }).badRoutes = s.badRoutes :=
    badRoutes_of_faults (s.grant_faults l b)
  unfold State.beginCall
  rw [← granted]
  generalize (s.grant l b).setRx e { s.rx e with state := .calling } = x
  cases (s.ctl l).lend == .pending with
  | false =>
    have free : (Call.create .report (some e) false).lendPending = false := rfl
    by_cases ready : (x.ctl l).power = .ready
    · rw [x.startCall_takes l free ready]; exact badRoutes_of_faults (congrArg Link.faults (State.takeLine_link _ l))
    · rw [x.startCall_needs l free ready]; exact badRoutes_of_faults (congrArg Link.faults (State.needReady_link _ l))
  | true =>
    rw [State.startCall_ends, State.endContext_eq]
    refine (State.receiverResult_badRoutes _ e _).trans ((State.handBack_badRoutes _ l).trans ?_)
    exact badRoutes_of_faults (State.notice_faults _ _)

end bad

/-! ### Through the acts -/

section acts

theorem State.passFuel_badRoutes (n : Nat) : ∀ s : State, (State.passFuel n s).badRoutes = s.badRoutes := by
  induction n with
  | zero => exact fun _ => rfl
  | succ n ih =>
    intro s
    cases hc : s.chosen with
    | none => unfold State.passFuel; simp only [hc]
    | some x =>
      obtain ⟨r, e⟩ := x
      cases hl : s.searchLine (s.eligible r) with
      | none => unfold State.passFuel; simp only [hc, hl]
      | some l => rw [State.passFuel_begins n hc hl, ih, State.beginCall_badRoutes]

theorem State.act_badRoutes (s : State) : s.act.badRoutes = s.badRoutes := by
  have held (u : State) : u.settleHeld.badRoutes = u.badRoutes := by
    unfold State.settleHeld State.settleFireTimer; dsimp only; split <;> exact badRoutes_of_faults rfl
  have urgent (u : State) : u.evaluateUrgent.badRoutes = u.badRoutes := by
    unfold State.evaluateUrgent; dsimp only; split
    · exact badRoutes_of_faults (State.notice_faults _ _)
    · exact badRoutes_of_faults rfl
  unfold State.act; dsimp only
  rw [held, urgent]
  split
  · exact State.passFuel_badRoutes 8 _
  · exact badRoutes_of_faults rfl

theorem State.graceReclaim_badRoutes (s : State) : s.graceReclaim.badRoutes = s.badRoutes := by
  unfold State.graceReclaim; dsimp only; split
  · exact badRoutes_of_faults rfl
  · exact badRoutes_of_faults (State.endLend_faults (s.setWork { s.work with fireDue := false, expired := true }) _)

theorem State.actFuel_badRoutes (n : Nat) : ∀ s : State, (State.actFuel n s).badRoutes = s.badRoutes := by
  induction n with
  | zero => exact fun _ => rfl
  | succ n ih =>
    intro s; unfold State.actFuel; split
    · rw [ih, State.graceReclaim_badRoutes]
    · split
      · rw [ih, State.act_badRoutes]
      · rfl

theorem State.settle_badRoutes {s : State} (exit : s.work.exitDue = false) : s.settle.badRoutes = s.badRoutes := by
  rw [State.settle, State.settleExit_idle s exit]
  exact (State.actFuel_badRoutes 64 s.drain).trans (badRoutes_of_aside s.drain_aside)

end acts

/-! ### What the queue's operations keep of a record (R83) -/

/-- What a record keeps through claims, returns and re-examinations. -/
def Record.docket (r : Record) : Nat × Report × RouteNo × List RxNo × List RxNo :=
  (r.ticket, r.report, r.route, r.pendingList, r.acceptedList)

def State.dockets (s : State) : List (Nat × Report × RouteNo × List RxNo × List RxNo) :=
  s.queue.records.map Record.docket

theorem dockets_of_queue {s t : State} (h : t.queue = s.queue) : t.dockets = s.dockets := by
  unfold State.dockets; rw [h]

section dockets
variable (s : State)

theorem dockets_of_map {t : State} {f : Record → Record} (records : t.queue.records = s.queue.records.map f)
    (keeps : ∀ r, (f r).docket = r.docket) : t.dockets = s.dockets := by
  unfold State.dockets
  rw [records, List.map_map]
  exact List.map_congr_left fun r _ => keeps r

theorem State.modRecord_dockets (k : Nat) {f : Record → Record} (keeps : ∀ r, (f r).docket = r.docket) :
    (s.modRecord k f).dockets = s.dockets :=
  dockets_of_map s rfl fun r => by split <;> simp [keeps]

theorem State.settlePressure_dockets : s.settlePressure.dockets = s.dockets := by
  unfold State.dockets; rw [State.settlePressure_records]

theorem State.settleComm_dockets : s.settleComm.dockets = s.dockets := dockets_of_queue (State.settleComm_queue s)

theorem State.notice_dockets (n : Notice) : (s.notice n).dockets = s.dockets := dockets_of_queue (State.notice_queue s n)

theorem State.claimNext_dockets (l : LineNo) (e : RxNo) (n : Nat) : (s.claimNext l e n).dockets = s.dockets :=
  (State.settlePressure_dockets _).trans (dockets_of_map s rfl fun r => by split <;> rfl)

theorem State.returnRecord_dockets (k : Nat) : (s.returnRecord k).dockets = s.dockets := by
  have stated (x : RecordState) : (s.modRecord k fun y => { y with state := x }).dockets = s.dockets :=
    s.modRecord_dockets k fun _ => rfl
  have freed (u : State) (r : Record) : (u.releaseHeld r).dockets = u.dockets := by
    unfold State.releaseHeld; split
    · exact dockets_of_map u rfl fun y => by split <;> rfl
    · rfl
  unfold State.returnRecord; split
  · rfl
  · next r _ =>
    split
    · dsimp only
      generalize (if (s.target r).isSome = true then RecordState.waiting else .stranded) = x
      have left := (freed _ r).trans (stated x)
      rw [State.settlePressure_dockets]
      split
      · rw [State.settleComm_dockets, State.notice_dockets, left]
      · exact left
    · rfl

theorem State.recompose_dockets (l : LineNo) (e : RxNo) (k : Nat) : (s.recompose l e k).dockets = s.dockets := by
  unfold State.recompose; dsimp only; split
  · exact s.claimNext_dockets l e _
  · split
    · split
      · exact (State.claimNext_dockets _ l e 1).trans (s.returnRecord_dockets _)
      · rfl
    · rfl

theorem State.takeHandOn_dockets (k : Nat) : (s.takeHandOn k).dockets = s.dockets := by
  unfold State.takeHandOn; split
  · rfl
  · split
    · split
      · rfl
      · split
        · rfl
        · exact s.recompose_dockets _ _ k
    · rfl

theorem State.drainFuel_dockets (n : Nat) : ∀ s : State, (State.drainFuel n s).dockets = s.dockets := by
  induction n with
  | zero => exact fun _ => rfl
  | succ n ih =>
    intro s; unfold State.drainFuel; split
    · rfl
    · rw [ih, State.takeHandOn_dockets]; rfl

theorem State.drain_dockets : s.drain.dockets = s.dockets := by
  unfold State.drain; split
  · rfl
  · exact State.drainFuel_dockets 128 s

theorem State.reexamineOne_dockets (k : Nat) : (s.reexamineOne k).dockets = s.dockets := by
  have stated (x : RecordState) : (s.modRecord k fun y => { y with state := x }).dockets = s.dockets :=
    s.modRecord_dockets k fun _ => rfl
  unfold State.reexamineOne; split
  · rfl
  · split
    · rw [State.settlePressure_dockets, State.settleComm_dockets, State.notice_dockets, stated]
    · rw [State.settlePressure_dockets, State.handOn, State.drain_dockets]
      exact (State.settleComm_dockets _).trans ((State.notice_dockets _ _).trans (stated _))
    · rfl

theorem State.reexamine_dockets : s.reexamine.dockets = s.dockets :=
  foldl_view State.dockets _ State.reexamineOne_dockets _ s

theorem State.settle_dockets {s : State} (exit : s.work.exitDue = false) : s.settle.dockets = s.dockets :=
  (dockets_of_queue (State.settle_queue exit)).trans s.drain_dockets

end dockets

/-! ### Records examined while no line has a call (R70) -/

/-- No line has a call. -/
def State.Callless (s : State) : Prop := ∀ l, s.call l = none

/-- A free record as an examination leaves it: WAITING if it has a target, else STRANDED (R70). -/
def State.examined (s : State) (r : Record) : Record :=
  if r.isFree then { r with state := if (s.target r).isSome then .waiting else .stranded } else r

section examined
variable {s t : State}

theorem State.Callless.of_calm (h : s.Callless) (calm : t.calm = s.calm) : t.Callless := fun l =>
  (call_of_calm calm l).trans (h l)

/-- With no call a hand-on changes nothing (R138). -/
theorem State.Callless.takeHandOn (h : s.Callless) (k : Nat) : s.takeHandOn k = s := by
  have nobody (e : RxNo) : s.exchangeLine e = none := List.find?_eq_none.2 fun l _ => by rw [h l]; simp
  unfold State.takeHandOn; split
  · rfl
  · split
    · split
      · rfl
      · rw [nobody]
    · rfl

theorem State.Callless.drain_queue (h : s.Callless) : s.drain.queue = s.queue := by
  have fuel : ∀ (n : Nat) (s : State), s.Callless → (State.drainFuel n s).queue = s.queue := by
    intro n
    induction n with
    | zero => exact fun _ _ => rfl
    | succ n ih =>
      intro s h; unfold State.drainFuel; split
      · rfl
      · next rest _ =>
        have same : (s.setWork { s.work with handOns := rest }).Callless := h
        rw [same.takeHandOn]
        exact ih _ same
  unfold State.drain; split
  · rfl
  · exact fuel 128 s h

@[simp] theorem State.examined_ticket (r : Record) : (s.examined r).ticket = r.ticket := by
  unfold State.examined; split <;> rfl

theorem State.examined_congr (receivers : t.receivers = s.receivers) (r : Record) : t.examined r = s.examined r := by
  unfold State.examined State.target State.targetOf
  simp only [State.rx_congr receivers]

theorem State.examined_again (r : Record) : s.examined (s.examined r) = s.examined r := by
  have target (x : RecordState) : s.target { r with state := x } = s.target r := rfl
  unfold State.examined
  cases free : r.isFree with
  | true => cases h : (s.target r).isSome <;> simp [Record.isFree, target, h]
  | false => simp [free]

theorem Record.isFree_or {r : Record} (free : r.isFree = true) : r.state = .waiting ∨ r.state = .stranded := by
  simpa [Record.isFree] using free

/-- A record that an examination leaves as it is. -/
theorem State.examined_stays {r : Record} (waiting : ¬(r.state = .waiting ∧ s.target r = none))
    (stranded : ∀ e, ¬(r.state = .stranded ∧ s.target r = some e)) : s.examined r = r := by
  unfold State.examined; split
  · next free =>
    have state : (if (s.target r).isSome then RecordState.waiting else .stranded) = r.state := by
      rcases Record.isFree_or free with waits | strands
      · rw [waits, if_pos (Option.isSome_iff_ne_none.2 fun none => waiting ⟨waits, none⟩)]
      · rw [strands, if_neg fun some => (Option.isSome_iff_exists.1 some).elim fun e target => stranded e ⟨strands, target⟩]
    rw [state]
  · rfl

/-- One record examined again, its ticket the only one (R70). -/
theorem State.Callless.reexamineOne (h : s.Callless) (distinct : s.Distinct) (k : Nat) :
    (s.reexamineOne k).queue.records = s.queue.records.map fun r => if r.ticket = k then s.examined r else r := by
  cases found : s.find k with
  | none =>
    have other (r : Record) (mem : r ∈ s.queue.records) : (if r.ticket = k then s.examined r else r) = r :=
      if_neg (by simpa using List.find?_eq_none.1 found r mem)
    unfold State.reexamineOne
    rw [found]
    exact ((List.map_congr_left other).trans (List.map_id _)).symm
  | some r =>
    have own (x : Record) (mem : x ∈ s.queue.records) (same : x.ticket = k) : x = r :=
      record_eq_of_ticket distinct mem (List.mem_of_find?_eq_some found) (same.trans (State.find_ticket found).symm)
    have set (x : RecordState) (becomes : s.examined r = { r with state := x }) :
        (s.modRecord k fun y => { y with state := x }).queue.records =
          s.queue.records.map fun r => if r.ticket = k then s.examined r else r := by
      refine List.map_congr_left fun y mem => ?_
      split
      · next same => rw [own y mem same, becomes]
      · rfl
    unfold State.reexamineOne
    rw [found]
    dsimp only
    split
    · next waiting none =>
      rw [State.settlePressure_records, State.settleComm_queue, State.notice_queue]
      exact set .stranded (by simp [State.examined, Record.isFree, waiting, none])
    · next e stranded some =>
      rw [State.settlePressure_records]
      have calm : (((s.modRecord k fun y => { y with state := .waiting }).notice (.recovered k)).settleComm.noteWaiting k).calm =
          s.calm := by simp
      refine (congrArg Queue.records (h.of_calm calm).drain_queue).trans ?_
      refine (congrArg Queue.records ((State.settleComm_queue _).trans (State.notice_queue _ _))).trans ?_
      exact set .waiting (by simp [State.examined, Record.isFree, stranded, some])
    · next waiting stranded =>
      have stays : s.examined r = r :=
        State.examined_stays (fun ⟨state, target⟩ => waiting state target) fun e ⟨state, target⟩ => stranded e state target
      refine ((List.map_congr_left fun y mem => ?_).trans (List.map_id _)).symm
      split
      · next same => rw [own y mem same, stays]; rfl
      · rfl

theorem State.Callless.reexamineAll (ks : List Nat) : ∀ s : State, s.Callless → s.Distinct →
    (ks.foldl State.reexamineOne s).queue.records = s.queue.records.map fun r => if r.ticket ∈ ks then s.examined r else r := by
  induction ks with
  | nil => intro s _ _; simp
  | cons k ks ih =>
    intro s h distinct
    have one := h.reexamineOne distinct k
    have calm := s.reexamineOne_calm k
    have distinct' : (s.reexamineOne k).Distinct := by
      have tickets : (s.reexamineOne k).queue.records.map Record.ticket = s.queue.records.map Record.ticket := by
        rw [one, List.map_map]
        exact List.map_congr_left fun r _ => by dsimp only [Function.comp]; split <;> simp
      unfold State.Distinct; rw [tickets]; exact distinct
    rw [List.foldl_cons, ih _ (h.of_calm calm) distinct', one, List.map_map]
    refine List.map_congr_left fun r _ => ?_
    simp only [Function.comp, State.examined_congr (receivers_of_calm calm)]
    by_cases first : r.ticket = k <;> by_cases later : r.ticket ∈ ks <;> simp [first, later, State.examined_again]

/-- Every free record is examined, and no other changes (R70). -/
theorem State.Callless.reexamine (h : s.Callless) (distinct : s.Distinct) :
    s.reexamine.queue.records = s.queue.records.map s.examined := by
  refine (State.Callless.reexamineAll _ s h distinct).trans (List.map_congr_left fun r mem => ?_)
  split
  · rfl
  · next absent =>
    have held : r.isFree = false := Bool.eq_false_iff.2 fun free => absent <| List.mem_map.2
      ⟨r, List.mem_filter.2 ⟨by rw [State.inOrder_eq]; exact (mem_inRank s r).2 mem, free⟩, rfl⟩
    unfold State.examined
    rw [held]; rfl

theorem State.examined_target (r : Record) : s.target (s.examined r) = s.target r := by
  unfold State.examined; split <;> rfl

/-- After an examination a WAITING record has a target. -/
theorem State.examined_waiting {r : Record} (waiting : (s.examined r).state = .waiting) :
    ∃ e ∈ (s.examined r).pendingList, (s.rx e).state ≠ .exhausted := by
  have found : (s.target (s.examined r)).isSome := by
    rw [State.examined_target]
    unfold State.examined at waiting
    split at waiting
    · by_contra none
      rw [if_neg none] at waiting; cases waiting
    · next held => exact absurd (by simp [Record.isFree, waiting]) held
  obtain ⟨e, target⟩ := Option.isSome_iff_exists.1 found
  exact ⟨e, List.mem_of_find?_eq_some target, by simpa using List.find?_some target⟩

/-- After an examination a STRANDED record has none. -/
theorem State.examined_stranded {r : Record} (stranded : (s.examined r).state = .stranded) :
    ∀ e ∈ (s.examined r).pendingList, (s.rx e).state = .exhausted := by
  have none : s.target (s.examined r) = none := by
    rw [State.examined_target]
    unfold State.examined at stranded
    split at stranded
    · by_contra some
      rw [if_pos (Option.isSome_iff_ne_none.2 some)] at stranded; cases stranded
    · next held => exact absurd (by simp [Record.isFree, stranded]) held
  intro e mem
  simpa using List.find?_eq_none.1 none e mem

end examined

/-! ### The parts of the exit (R95, R172) -/

section parts
variable (s : State)

/-- With no channel forced the release of the forces changes nothing. -/
theorem State.releaseAll_unforced (free : ∀ c, (s.channel c).force = .none) : s.releaseAll = s := by
  have each : ∀ cs : List ChannelNo, cs.foldl (fun u c => State.setForce u c .none) s = s := by
    intro cs
    induction cs with
    | nil => rfl
    | cons c cs ih =>
      have same : s.setForce c .none = s := if_pos (free c)
      rw [List.foldl_cons, same, ih]
  exact each allChannels

/-- The exit before the evaluation of the routes. -/
def State.leaving (s : State) (cause : ModeCause) : State := (s.setMode .operate).notice (.mode .operate s.hold cause)

/-- The exit up to the evaluation of the routes. -/
def State.routed (s : State) (cause : ModeCause) : State := (s.leaving cause).walked.reportRoutes

theorem State.exiting_routed (cause : ModeCause) : s.exiting cause = (s.routed cause).rebuild.reexamine := rfl

theorem State.leaving_kept (cause : ModeCause) :
    (s.leaving cause).tables = s.tables ∧ (s.leaving cause).queue = s.queue ∧ (s.leaving cause).lines = s.lines ∧
      (s.leaving cause).receivers = s.receivers ∧ (s.leaving cause).work = s.work ∧
      (s.leaving cause).link.faults = s.link.faults := by
  refine ⟨?_, ?_, ?_, ?_, ?_, State.notice_faults _ _⟩ <;> simp [State.leaving, State.setMode]

theorem State.routed_kept (cause : ModeCause) :
    (s.routed cause).tables = s.tables ∧ (s.routed cause).queue = s.queue ∧ (s.routed cause).lines = s.lines ∧
      (s.routed cause).receivers = s.receivers ∧ (s.routed cause).work = s.work := by
  obtain ⟨tables, queue, lines, receivers, work, -⟩ := s.leaving_kept cause
  unfold State.routed
  rw [State.reportRoutes_tables, State.reportRoutes_queue, State.reportRoutes_lines, State.reportRoutes_receivers,
    State.reportRoutes_work]
  exact ⟨tables, queue, lines, receivers, work⟩

theorem State.routed_route (cause : ModeCause) (r : RouteNo) :
    (s.routed cause).route r = (walk s.tables.t3 (s.t4 r).head).eval := by
  obtain ⟨tables, -⟩ := s.leaving_kept cause
  have same := State.route_congr (State.reportRoutes_routes (s := (s.leaving cause).walked)) r
  unfold State.routed
  rw [same, State.walked_route]
  unfold State.t4
  rw [tables]

theorem State.routed_reports (cause : ModeCause) (kept : s.FaultsKept) (r : RouteNo) : (s.routed cause).Reported r := by
  obtain ⟨-, -, -, -, -, faults⟩ := s.leaving_kept cause
  have kept' : (s.leaving cause).walked.FaultsKept := by
    have same : (s.leaving cause).walked.link.faults = s.link.faults := faults
    unfold State.FaultsKept; rw [same]; exact kept
  unfold State.routed
  exact State.reportRoutes_reports kept' r

/-- The gate's part of an exit touches neither records, routes, lines nor links. -/
theorem State.settleGate_kept :
    s.settleGate.queue.records = s.queue.records ∧ s.settleGate.routes = s.routes ∧ s.settleGate.lines = s.lines ∧
      s.settleGate.link = s.link ∧ s.settleGate.work.exitDue = s.work.exitDue := by
  unfold State.settleGate State.openGate; dsimp only; split
  · exact ⟨rfl, rfl, rfl, rfl, rfl⟩
  · split
    · split <;> exact ⟨rfl, rfl, rfl, rfl, rfl⟩
    · exact ⟨rfl, rfl, rfl, rfl, rfl⟩

theorem State.settle_routes {s : State} (exit : s.work.exitDue = false) : s.settle.routes = s.routes := by
  have acted : s.settle.steady = s.settleExit.drain.steady := by rw [State.settle, State.setWork_steady, State.actFuel_steady]
  rw [s.settleExit_idle exit] at acted
  exact (congrArg Steady.routes acted).trans (congrArg Still.routes (State.drain_still s))

/-- A record as the rebuild leaves it (R95). -/
def State.rebuilt (s : State) (r : Record) : Record :=
  if r.isFree then
    { r with route := s.classRoute r.report.cls, pendingList := s.buildPending (s.classRoute r.report.cls) r.acceptedList }
  else r

theorem State.rebuild_records : s.rebuild.queue.records = s.queue.records.map s.rebuilt := rfl

theorem State.rebuilt_ticket (r : Record) : (s.rebuilt r).ticket = r.ticket := by
  unfold State.rebuilt; split <;> rfl

/-- A pending list, on a route whose chain is empty unless it is valid (R81, R83). -/
theorem State.buildPending_eq {r : RouteNo} (invalid : (s.route r).valid = false → (s.route r).chain = []) (accepted : List RxNo) :
    s.buildPending r accepted =
      if (s.t4 r).mode = .each then (s.route r).chain.filter fun e => e ∉ accepted else (s.route r).chain := by
  unfold State.buildPending
  cases valid : (s.route r).valid with
  | true => cases mode : (s.t4 r).mode <;> simp
  | false => simp [invalid valid]

/-- What the rebuild makes of a record's docket (R83, R95). -/
theorem State.rebuilt_docket (invalid : ∀ r, (s.route r).valid = false → (s.route r).chain = []) (r : Record) :
    (s.rebuilt r).docket =
      if r.state = .waiting ∨ r.state = .stranded then
        (r.ticket, r.report, s.classRoute r.report.cls,
          (if (s.t4 (s.classRoute r.report.cls)).mode = .each then
            (s.route (s.classRoute r.report.cls)).chain.filter fun e => e ∉ r.acceptedList
          else (s.route (s.classRoute r.report.cls)).chain), r.acceptedList)
      else r.docket := by
  unfold State.rebuilt
  by_cases free : r.state = .waiting ∨ r.state = .stranded
  · rw [if_pos (by simpa [Record.isFree] using free), if_pos free, s.buildPending_eq (invalid _)]
    rfl
  · rw [if_neg (by simpa [Record.isFree] using free), if_neg free]

/-- An invalid route has no chain (R81). -/
theorem WalkEnd.eval_chain {x : WalkEnd} (invalid : x.eval.valid = false) : x.eval.chain = [] := by
  cases x with
  | valid chain => cases invalid
  | _ => rfl

end parts

/-! ### MODE to OPERATE -/

section exit
variable {s : State}

theorem exec_mode_operate (t : Nat) (asked : s.Asked 0x33 [1]) (service : s.mode = .service)
    (free : ∀ c, (s.channel c).force = .none) :
    exec (.mode t [1]) s = .next (((s.advance t).exiting .request).settleGate.settle.respond 0x33 (.plain .ok)) := by
  have asks : State.modeRequest [1] (s.advance t) = ((s.advance t).serviceExit .request, .plain .ok) := by
    have code : Mode.ofCode (argument [1] 0) = some .operate := rfl
    have other : Mode.operate ≠ (s.advance t).mode := by rw [State.advance_mode, service]; decide
    unfold State.modeRequest
    rw [code]
    exact if_neg other
  have unforced (c : ChannelNo) : (((s.advance t).exiting .request).channel c).force = .none := by
    obtain ⟨-, channels⟩ := (s.advance t).exiting_mode .request
    rw [State.channel_congr channels]; exact free c
  have exits : (s.advance t).serviceExit .request = ((s.advance t).exiting .request).settleGate := by
    rw [State.serviceExit_eq, State.releaseAll_unforced _ unforced]
  rw [exits] at asks
  exact congrArg Host.Outcome.next (State.serve_effect (s.advance t) asked rfl asks)

/-- What becomes of the records on an exit while no line has a call. -/
theorem exit_records {v : State} (callless : v.Callless) (distinct : v.Distinct)
    (exit : v.rebuild.reexamine.settleGate.work.exitDue = false) :
    v.rebuild.reexamine.settleGate.settle.queue.records = (v.queue.records.map v.rebuilt).map v.examined := by
  obtain ⟨records, -, lines, -, -⟩ := v.rebuild.reexamine.settleGate_kept
  have calm : v.rebuild.reexamine.calm = v.calm := (State.reexamine_calm _).trans v.rebuild_calm
  have after : v.rebuild.reexamine.settleGate.Callless := fun l => (State.call_congr lines l).trans (callless.of_calm calm l)
  have distinct' : v.rebuild.Distinct := by
    unfold State.Distinct
    rw [State.rebuild_records, List.map_map]
    exact (congrArg List.Nodup (List.map_congr_left fun r _ => v.rebuilt_ticket r)).mpr distinct
  rw [State.settle_queue exit, after.drain_queue, records, (callless.of_calm v.rebuild_calm).reexamine distinct']
  rfl

end exit

/-- Settles O32: the routes are the Route Unit's alone from the evaluation on, so are their fault entries, and what follows the
rebuild keeps every docket; without a call each free record ends as its examination left it. -/
theorem routesAreEvaluated : Obligations.RoutesAreEvaluated := by
  intro t s rested asked service inRange free isFree
  obtain ⟨-, -, t3, t4, -⟩ := inRange
  have next (i : RxNo) : (s.tables.t3[i.val]).next ≤ 12 := by obtain ⟨-, -, -, -, -, next⟩ := t3 i; exact next
  have head (r : RouteNo) : (s.t4 r).head ≤ 12 := t4 r
  have exits := exec_mode_operate t asked service free
  rw [State.exiting_routed] at exits
  have route := (s.advance t).routed_route .request
  have reports := fun kept => (s.advance t).routed_reports .request kept
  obtain ⟨tables, queue, lines, receivers, work⟩ := (s.advance t).routed_kept .request
  generalize (s.advance t).routed .request = v at *
  obtain ⟨records, routes, lines', link, due⟩ := v.rebuild.reexamine.settleGate_kept
  have exit : v.rebuild.reexamine.settleGate.work.exitDue = false :=
    due.trans ((State.reexamine_exitDue _).trans ((congrArg Work.exitDue work).trans (Rested.exitDue rested)))
  have calm : v.rebuild.reexamine.calm = v.calm := (State.reexamine_calm _).trans v.rebuild_calm
  have routes' : v.rebuild.reexamine.settleGate.settle.routes = v.routes :=
    (State.settle_routes exit).trans (routes.trans (congrArg (fun x => x.still.routes) calm))
  have bad : v.rebuild.reexamine.settleGate.settle.badRoutes = v.badRoutes :=
    (State.settle_badRoutes exit).trans ((badRoutes_of_faults (congrArg Link.faults link)).trans
      (badRoutes_of_aside (s := v) (State.reexamine_aside _)))
  have dockets : v.rebuild.reexamine.settleGate.settle.dockets = v.rebuild.dockets :=
    (State.settle_dockets exit).trans ((congrArg (List.map Record.docket) records).trans (State.reexamine_dockets _))
  have settled := fun h distinct => exit_records h distinct exit
  generalize v.rebuild.reexamine.settleGate.settle = w at *
  have route' (r : RouteNo) : (w.respond 0x33 (.plain .ok)).route r = (walk s.tables.t3 (s.t4 r).head).eval :=
    (State.route_congr (t := w.respond 0x33 (.plain .ok)) routes' r).trans (route r)
  have same (r : RouteNo) : (w.respond 0x33 (.plain .ok)).route r = v.route r :=
    State.route_congr (t := w.respond 0x33 (.plain .ok)) routes' r
  have classes (c : ReportClass) : v.classRoute c = s.classRoute c := by unfold State.classRoute; rw [tables]; rfl
  have unchained (r : RouteNo) (invalid : (v.route r).valid = false) : (v.route r).chain = [] := by
    rw [route r] at invalid ⊢
    exact WalkEnd.eval_chain invalid
  refine ⟨_, exits, fun r chain is => ?_, fun r none => ?_, fun kept r => ?_, ?_, fun callless distinct => ?_⟩
  · rw [route', walk_of_chain is]; rfl
  · rw [route', walk_eval next (head r) none]
  · rw [State.respond_faults]
    refine (iff_of_eq (congrFun bad r)).trans ((reports kept r).trans ?_)
    simp only [classes]
    rw [same]
  · refine dockets.trans ?_
    unfold State.dockets
    rw [State.rebuild_records, List.map_map, queue]
    refine List.map_congr_left fun r _ => ?_
    dsimp only
    have order : (v.t4 (s.classRoute r.report.cls)).mode = (s.t4 (s.classRoute r.report.cls)).mode := by
      unfold State.t4; rw [tables]; rfl
    rw [Function.comp, State.rebuilt_docket _ unchained, classes, same, order]
    rfl
  · intro r mem
    have calls : v.Callless := fun l => (State.call_congr lines l).trans (callless l)
    have records : w.queue.records = _ := settled calls (by unfold State.Distinct; rw [queue]; exact distinct)
    have mem : r ∈ w.queue.records := mem
    rw [records] at mem
    obtain ⟨x, -, rfl⟩ := List.mem_map.1 mem
    have rx (e : RxNo) : v.rx e = s.rx e := State.rx_congr receivers e
    refine ⟨fun waiting => ?_, fun stranded e listed => ?_⟩
    · obtain ⟨e, listed, able⟩ := State.examined_waiting waiting
      exact ⟨e, listed, by rwa [← rx]⟩
    · rw [← rx]; exact State.examined_stranded stranded e listed

end Sys2Proof.Machine
end
